-- ==== Sys2Proof/Word.lean ====
section
/-! DEFINITION. The word types of the TE24 and the fixed-size table its numbered records stand in. -/

namespace Sys2Proof

/-- One byte of a frame on the management link (R164). -/
abbrev Byte := BitVec 8

/-- An event time: milliseconds since the last cold start, a 32-bit count that wraps (00, Conventions; Table 11-1). -/
abbrev EventTime := BitVec 32

/-- A table of `n` like things (bays, fans, zones, ...), indexed by their numbers. -/
abbrev Table (α : Type) (n : Nat) := Vector α n

/-- The table with the entry of one number replaced. -/
def Table.put {α : Type} {n : Nat} (v : Table α n) (i : Fin n) (x : α) : Table α n := v.set i.val x i.isLt

/-- The table with every entry mapped. -/
def Table.each {α β : Type} {n : Nat} (f : α → β) (v : Table α n) : Table β n :=
  ⟨(v.toList.map f).toArray, by simp⟩

@[simp] theorem Table.get_put {α : Type} {n : Nat} (v : Table α n) (i j : Fin n) (x : α) :
    (Table.put v i x).get j = if i = j then x else v.get j := by
  simp only [Table.put, Vector.get, Vector.set, Fin.ext_iff]
  exact Array.getElem_set ..

theorem Table.get_put_self {α : Type} {n : Nat} (v : Table α n) (i : Fin n) (x : α) :
    (Table.put v i x).get i = x := by simp

theorem Table.get_put_ne {α : Type} {n : Nat} (v : Table α n) {i j : Fin n} (h : i ≠ j) (x : α) :
    (Table.put v i x).get j = v.get j := by simp [h]

@[simp] theorem Table.get_each {α β : Type} {n : Nat} (f : α → β) (v : Table α n) (j : Fin n) :
    (Table.each f v).get j = f (v.get j) := by
  simp only [Table.each, Vector.get]
  simp
  rfl

@[simp] theorem Table.get_replicate {α : Type} {n : Nat} (x : α) (j : Fin n) :
    Vector.get (Vector.replicate n x) j = x := by
  simp [Vector.get]

theorem Table.ext_get {α : Type} {n : Nat} {v w : Table α n} (h : ∀ i : Fin n, v.get i = w.get i) : v = w := by
  apply Vector.ext
  intro i hi
  exact h ⟨i, hi⟩

end Sys2Proof
end

