-- ==== Sys2Proof/Syntax.lean ====
section
/-! DEFINITION. The commands of the TE24: one constructor of `Instr` for each row of spec/opcode_table.json. -/

namespace Sys2Proof

/-- A bay number, 0-23. -/
abbrev Bay := Fin 24
/-- A fan number, 0-5. -/
abbrev Fan := Fin 6
/-- A supply slot number, 0-3. -/
abbrev Slot := Fin 4
/-- A sensor number, 0-3; 3 is the inlet sensor (Table 7-1). -/
abbrev Sensor := Fin 4
/-- A carrier code, 0-3 (R5). -/
abbrev Code := Fin 4

/-- A presence contact of a bay: PRE_E or PRE_L (R2). -/
inductive Contact
  | early | late
  deriving DecidableEq, Repr

/-- The contacts whose filters end at one moment (R2: both may take effect together, in one report). -/
inductive Contacts
  | early | late | both
  deriving DecidableEq, Repr

/-- A carrier code line of a bay: CAR1 or CAR0 (R5). -/
inductive CarrierLine
  | car1 | car0
  deriving DecidableEq, Repr

/-- A supply line of a slot: PSU_PRES or PSU_OK (R53). -/
inductive PsuLine
  | present | good
  deriving DecidableEq, Repr

/-- The lines of a slot whose filters end at one moment (R54: both make one change). -/
inductive PsuLines
  | present | good | both
  deriving DecidableEq, Repr

/-- A request as a frame with a good check carries it, less its kind (Table 9-3): the Address byte (0 is the broadcast
address), the Tag and the payload, whose length is the Length field. -/
structure Request where
  address : Byte
  tag : Byte
  payload : List Byte
  deriving DecidableEq, Repr

/-- A character received on MRX (R162): the byte of its data bits, and whether its start bit began while the receive state
was SUSPENDED (notes/assumptions/40.md). -/
structure Character where
  byte : Byte
  suspended : Bool
  deriving DecidableEq, Repr

/-- A completed frame as it was received (Table 9-3), with the two check bytes it carried. -/
structure Frame where
  address : Byte
  kind : Byte
  tag : Byte
  payload : List Byte
  checkLow : Byte
  checkHigh : Byte
  deriving DecidableEq, Repr

/-- The commands, in the order of spec/opcode_table.json. A level operand is `true` for asserted. -/
inductive Instr
  /-- STANDBY_POWER_UP (R14), with the strap levels at that moment (R163). -/
  | standbyPowerUp (straps : BitVec 3)
  /-- RESET_ASSERTED (R14), with the strap levels at that moment (R163). -/
  | resetAsserted (straps : BitVec 3)
  /-- PRESENCE_RAW_EDGE (R2): the contact's raw level becomes `level`. -/
  | presenceRawEdge (bay : Bay) (contact : Contact) (level : Bool)
  /-- PRESENCE_FILTER_EXPIRY (R2). -/
  | presenceFilterExpiry (bay : Bay) (contacts : Contacts)
  /-- CARRIER_RAW_EDGE (R5): the line's raw level becomes `level`. -/
  | carrierRawEdge (bay : Bay) (line : CarrierLine) (level : Bool)
  /-- CARRIER_FILTER_EXPIRY (R5). -/
  | carrierFilterExpiry (bay : Bay) (line : CarrierLine)
  /-- SEAT_TIMER_EXPIRY (R3). -/
  | seatTimerExpiry (bay : Bay)
  /-- RAMP_TIMER_EXPIRY (R6). -/
  | rampTimerExpiry (bay : Bay)
  /-- CURRENT_SAMPLE (R8): the sensed bay current, in whole mA. -/
  | currentSample (bay : Bay) (mA : Nat)
  /-- TRIP_EXCURSION (R11): the highest current the comparator measured in the excursion. -/
  | tripExcursion (bay : Bay) (mA : Nat)
  /-- ACTI_ASSERT (R13). -/
  | actiAssert (bay : Bay)
  /-- ACTIVITY_STRETCH_EXPIRY (R13). -/
  | activityStretchExpiry (bay : Bay)
  /-- CONTACT_CHANGE (R35): the bay controller takes the bay's oldest report, a CONTACT_CHANGE. -/
  | contactChange (bay : Bay)
  /-- SEAT_STABLE (R21): the bay controller takes the bay's oldest report, a SEAT_STABLE. -/
  | seatStable (bay : Bay)
  /-- RAMP_END (R25): the bay controller takes the bay's oldest report, a RAMP_END. -/
  | rampEnd (bay : Bay)
  /-- TRIP (R104): the bay controller takes the bay's oldest report, a TRIP. -/
  | trip (bay : Bay)
  /-- RISE_CROSS (R106): the bay controller takes the bay's oldest report, a RISE_CROSS. -/
  | riseCross (bay : Bay)
  /-- FALL_CROSS (R101): the bay controller takes the bay's oldest report, a FALL_CROSS. -/
  | fallCross (bay : Bay)
  /-- PARTIAL_TIMER_EXPIRY (R20). -/
  | partialTimerExpiry (bay : Bay)
  /-- SPIN_TIMER_EXPIRY (R100). -/
  | spinTimerExpiry (bay : Bay)
  /-- SETTLE_EXTENSION_EXPIRY (R101). -/
  | settleExtensionExpiry (bay : Bay)
  /-- GRANT_WINDOW_EXPIRY (R28). -/
  | grantWindowExpiry (bay : Bay)
  /-- DISCHARGE_EXPIRY (R33). -/
  | dischargeExpiry (bay : Bay)
  /-- EXTRACTION_WINDOW_EXPIRY (R36). -/
  | extractionWindowExpiry (bay : Bay)
  /-- BACKOFF_EXPIRY (R110). -/
  | backoffExpiry (bay : Bay)
  /-- GRANT_TAKEN (R24): the bay controller takes the oldest grant on its way that names the bay. -/
  | grantTaken (bay : Bay)
  /-- GRANT_DECLINE (R88): the arbiter takes the oldest decline on its way that names the bay. -/
  | grantDecline (bay : Bay)
  /-- REVOCATION_REQUEST (R29): the bay controller takes the oldest revocation request that names the bay. -/
  | revocationRequest (bay : Bay)
  /-- STAGGER_EXPIRY (R90). -/
  | staggerExpiry
  /-- SUPPLY_RAW_EDGE (R53): the line's raw level becomes `level`. -/
  | supplyRawEdge (slot : Slot) (line : PsuLine) (level : Bool)
  /-- SUPPLY_LINE_ACCEPTED (R54). -/
  | supplyLineAccepted (slot : Slot) (lines : PsuLines)
  /-- TACH_PULSE (R121). -/
  | tachPulse (fan : Fan)
  /-- TACH_WINDOW_END (R122). -/
  | tachWindowEnd (fan : Fan)
  /-- SENSOR_READ_START (R125). -/
  | sensorReadStart
  /-- SENSOR_READ_COMPLETE (R126): the value read, or `none` for a failure. -/
  | sensorReadComplete (sensor : Sensor) (result : Option Int)
  /-- DRIVE_TEMP_AGE_EXPIRY (R129). -/
  | driveTempAgeExpiry (bay : Bay)
  /-- EVALUATION (R137). -/
  | evaluation
  /-- FAN_CHECK_END (R142). -/
  | fanCheckEnd
  /-- STEP_BOUNDARY (R155). -/
  | stepBoundary
  /-- SETTINGS_WRITE_COMPLETE (R195). -/
  | settingsWriteComplete
  /-- FRAMING_ERROR (R166): a character whose stop bit is at the start-bit level. -/
  | framingError
  /-- GAP_TIMEOUT (R166). -/
  | gapTimeout
  /-- FRAME_DISCARD (R167): a frame completes and is judged. -/
  | frameDiscard (frame : Frame)
  /-- BAD_KIND (R168): a request with a good check and this kind code completes. -/
  | badKind (kind : Byte) (request : Request)
  /-- REPLY_BEGIN (R170). -/
  | replyBegin
  /-- REPLY_SENT (R171). -/
  | replySent
  /-- REPLY_LAPSE (R170). -/
  | replyLapse
  | unitInfo (request : Request)
  | bayStatus (request : Request)
  | baySummary (request : Request)
  | setBayPolicy (request : Request)
  | powerOn (request : Request)
  | powerOff (request : Request)
  | prepareRemoval (request : Request)
  | spinRequest (request : Request)
  | spinDownNote (request : Request)
  | setCondition (request : Request)
  | clearLatch (request : Request)
  | setLightMask (request : Request)
  | setPattern (request : Request)
  | setConditionPattern (request : Request)
  | setLocate (request : Request)
  | driveTemps (request : Request)
  | setZone (request : Request)
  | setZoneCommon (request : Request)
  | setFan (request : Request)
  | coolingStatus (request : Request)
  | setSupply (request : Request)
  | budgetStatus (request : Request)
  | setAdmission (request : Request)
  | queueStatus (request : Request)
  | setProfile (request : Request)
  | getProfile (request : Request)
  | setProfileRule (request : Request)
  | quarantineList (request : Request)
  | clearQuarantine (request : Request)
  | readEvents (request : Request)
  | saveSettings (request : Request)
  | restart (request : Request)
  | setLink (request : Request)
  /-- CHARACTER_RECEIVED (R165): a character with a good stop bit. -/
  | characterReceived (character : Character)
  deriving DecidableEq, Repr

end Sys2Proof
end

