-- ==== Sys2Proof/Decode.lean ====
section
/-! DEFINITION. The command that a word spells by the opcode table's bits. The table gives no row of the TE24 any bits:
its rows are requests, messages and moments, not words. -/

namespace Sys2Proof

/-- No row of spec/opcode_table.json carries bits, so no word spells a command. -/
def decodeTableWord (_nbits _w : Nat) : Option Instr := none

end Sys2Proof
end

