-- ==== Sys2Proof/Machine/Settings.lean ====
section
/-! DEFINITION. The running configuration of the TE24 (Table 11-3), its factory defaults, and the settings image. -/

namespace Sys2Proof.Machine

/-- Bay policy (Table 2-1). -/
inductive Policy
  | auto | hold
  deriving DecidableEq, Repr

/-- Airflow zone (Table 7-1). -/
inductive Zone
  | a | b | c
  deriving DecidableEq, Repr

/-- The zone's frame code, 0-2, which is also its number (Table 7-1). -/
def Zone.number : Zone → Fin 3
  | .a => 0
  | .b => 1
  | .c => 2

/-- Supply policy (Table 4-2). -/
inductive SupplyPolicy
  | shared | redundant
  deriving DecidableEq, Repr

/-- Link speed (Table 9-2). -/
inductive Speed
  | b9600 | b19200 | b57600 | b115200
  deriving DecidableEq, Repr

/-- The seven fields of a profile and of a snapshot (Table 3-1). -/
structure Profile where
  inrush : Nat
  steady : Nat
  standby : Nat
  spinMs : Nat
  settle : Nat
  trip : Nat
  heat : Nat
  deriving DecidableEq, Repr

/-- A profile rule (R45). `carriers` holds code `c` at bit `c`. -/
structure ProfileRule where
  enabled : Bool
  base : Nat
  mask : Nat
  carriers : BitVec 4
  profile : Fin 8
  deriving DecidableEq, Repr

/-- The host-settable fields of a bay record (Table 2-1). -/
structure BaySettings where
  policy : Policy
  cls : Fin 3
  zone : Zone
  deriving DecidableEq, Repr

/-- The budget parameters (Table 4-2), in mA and percent. -/
structure SupplyParams where
  capacities : Table Nat 4
  policy : SupplyPolicy
  derate : Nat
  base : Nat
  deriving DecidableEq, Repr

/-- The admission parameters (Table 5-2). -/
structure AdmissionParams where
  k : Nat
  stagger : Nat
  bypassLimit : Nat
  retryLimit : Nat
  grantWindow : Nat
  deriving DecidableEq, Repr

/-- One point of a curve: a temperature and a duty (section 7.5). -/
structure CurvePoint where
  temp : Int
  duty : Nat
  deriving DecidableEq, Repr

/-- A curve of four points (section 7.5). -/
structure Curve where
  p1 : CurvePoint
  p2 : CurvePoint
  p3 : CurvePoint
  p4 : CurvePoint
  deriving DecidableEq, Repr

/-- The settings all three zones share (R132). -/
structure CoolingCommon where
  driveCurve : Curve
  floorDuty : Nat
  staleDuty : Nat
  failoverDuty : Nat
  airWarning : Int
  airCritical : Int
  driveWarning : Int
  driveCritical : Int
  windowMs : Nat
  deriving DecidableEq, Repr

/-- The settings of one fan (Table 7-2). -/
structure FanSettings where
  absent : Bool
  minRpm : Nat
  ppr : Nat
  idle : Nat
  full : Nat
  deriving DecidableEq, Repr

/-- All host-settable configuration, the items of Table 11-3. `profiles` holds profiles 1-7 at 0-6, `patterns` the
patterns 4-7 at 0-3 (bit `s` is step `s`), `assign` the pattern of each condition. -/
structure Settings where
  bays : Table BaySettings 24
  profiles : Table Profile 7
  rules : Table ProfileRule 8
  supply : SupplyParams
  admission : AdmissionParams
  airCurves : Table Curve 3
  common : CoolingCommon
  fans : Table FanSettings 6
  patterns : Table (BitVec 8) 4
  assign : Table (Fin 8) 9
  speed : Speed
  turnaround : Nat
  deriving DecidableEq, Repr

/-- The settings image: its items, and the 16-bit check stored with them (R194). -/
structure SettingsImage where
  items : Settings
  check : BitVec 16
  deriving DecidableEq, Repr

/-- Profile 0, built in (Table 3-1, R41). -/
def profile0 : Profile :=
  ⟨3000, 1000, 500, 20000, 1500, 6000, 10⟩

/-- The factory default of each profile rule (R45). -/
def factoryRule : ProfileRule := ⟨false, 0, 0, 0b1111#4, 1⟩

/-- The factory default air curve (Table 7-6). -/
def factoryAirCurve : Curve := ⟨⟨25, 30⟩, ⟨35, 40⟩, ⟨45, 70⟩, ⟨55, 100⟩⟩

/-- The factory default drive curve (Table 7-6). -/
def factoryDriveCurve : Curve := ⟨⟨35, 25⟩, ⟨45, 40⟩, ⟨55, 70⟩, ⟨65, 100⟩⟩

/-- The factory defaults of the common settings (R132). -/
def factoryCommon : CoolingCommon := ⟨factoryDriveCurve, 25, 60, 100, 45, 55, 55, 65, 1000⟩

/-- The factory defaults of a fan (Table 7-2). -/
def factoryFan : FanSettings := ⟨false, 1000, 2, 200, 2500⟩

/-- The factory default of a bay's settings in one zone (Table 2-1). -/
def factoryBay (z : Zone) : BaySettings := ⟨.auto, 1, z⟩

/-- The factory default zones: bays 0-7 A, 8-15 B, 16-23 C (Table 2-1). -/
def factoryBays : Table BaySettings 24 :=
  let a := factoryBay .a; let b := factoryBay .b; let c := factoryBay .c
  #v[a, a, a, a, a, a, a, a, b, b, b, b, b, b, b, b, c, c, c, c, c, c, c, c]

/-- The factory defaults of every item: Tables 2-1, 3-1, 4-2, 5-2, 7-2, 7-6, 8-1, 8-4, R45, R132 and R174 (R194). A
pattern's bit `s` is its step `s` (R179): on off on off... of Table 8-4 is 0b00000101. -/
def factorySettings : Settings where
  bays := factoryBays
  profiles := .replicate 7 profile0
  rules := .replicate 8 factoryRule
  supply := ⟨#v[50000, 50000, 0, 0], .redundant, 90, 8000⟩
  admission := ⟨2, 1500, 3, 2, 5000⟩
  airCurves := .replicate 3 factoryAirCurve
  common := factoryCommon
  fans := .replicate 6 factoryFan
  patterns := #v[0b00000101#8, 0b00111111#8, 0b00000001#8, 0b00000011#8]
  assign := #v[3, 1, 4, 5, 6, 2, 7, 1, 1]
  speed := .b115200
  turnaround := 1

end Sys2Proof.Machine
end

