-- ==== Sys2Proof/Config.lean ====
section
/-! DEFINITION. The values the manual leaves open: constants without a body, of which nothing can be proved. -/

namespace Sys2Proof

/-- DESIGN CHOICE (notes/assumptions/17.md). The two-byte rpm field of COOLING_STATUS (Table 10-7) for a measured rpm
above 65,535: the manual bounds neither the rpm (Table 7-2, "0 and up") nor states what such a field carries. -/
opaque Config.wideRpmField : Nat → BitVec 16

/-- DESIGN CHOICE (notes/assumptions/17.md). The four-byte value field of an event record (R188, Table 11-1) for a value
outside -2,147,483,648 to 2,147,483,647, which a measured rpm of FAN_FAILED or FAN_RECOVERED may be. -/
opaque Config.wideEventValue : Int → BitVec 32

/-- DESIGN CHOICE (notes/assumptions/7.md). The 16-bit check formed over the items of Table 11-3 (R194): the manual does
not give its form. -/
opaque Config.settingsCheck : Machine.Settings → BitVec 16

end Sys2Proof
end

