-- ==== Sys2Proof/Machine/State.lean ====
section
/-! DEFINITION. The state of the TE24, block by block (00, Block Overview), as plain data; the state after reset; and the
reasons a command can stop. -/

namespace Sys2Proof.Machine

/-! ## Bay front end (Chapter 1) -/

/-- The watch a DISARM command names, or both (Table 1-2, R10). -/
inductive Watch
  | rise | fall | both
  deriving DecidableEq, Repr

/-- Position of a bay's power switch (section 1.4). -/
inductive SwitchPos
  | opened | ramping | closed
  deriving DecidableEq, Repr

/-- A report from a channel to the bay controller (Table 1-2); its bay is the channel's. -/
inductive Report
  | contactChange (early late seated cut : Bool)
  | seatStable (code : Code)
  | rampEnd
  | trip (mA : Nat)
  | riseCross (mA : Nat)
  | fallCross (mA : Nat)
  deriving DecidableEq, Repr

/-- A filtered input: the raw level on the pin, the accepted level, and the time left to the filter's end while the raw
level holds the opposite of the accepted one (R2, R5, R53). -/
structure FilteredLine where
  raw : Bool
  accepted : Bool
  filter : Option Nat
  deriving DecidableEq, Repr

/-- One channel of the bay front end (Table 1-1). -/
structure Channel where
  early : FilteredLine
  late : FilteredLine
  car1 : FilteredLine
  car0 : FilteredLine
  /-- Elapsed time while running (R3). -/
  seatTimer : Option Nat
  seatStable : Bool
  heldCode : Option Code
  switch : SwitchPos
  /-- Time left while the switch is RAMPING (R6). -/
  rampTimer : Option Nat
  /-- The ramp was carried over a warm restart, and its RAMP_END is not sent (R15). -/
  rampEndWithheld : Bool
  /-- Present exactly while the trip comparator is armed (R6, R7, R11). -/
  tripLevel : Option Nat
  live : Nat
  peak : Nat
  riseWatch : Option Nat
  fallWatch : Option Nat
  activity : Bool
  /-- Time left of the 50 ms stretch (R13). -/
  stretch : Option Nat
  /-- Reports sent and not yet taken by the bay controller, oldest first (R1). -/
  reports : List Report
  deriving DecidableEq, Repr

/-! ## Bay controller (Chapters 2 and 6) -/

/-- The thirteen bay states (Table 2-2). -/
inductive BayState
  | empty | seating | idleOff | queued | ramping | spinning | active | standby | wakeQueued | granted
  | poweringDown | extracting | faulted
  deriving DecidableEq, Repr

/-- Spin outcome (R108). -/
inductive SpinOutcome
  | success | trip | noSpin | noSettle | aborted | extracted
  deriving DecidableEq, Repr

/-- Reason of a quarantine entry (Table 6-3). -/
inductive QuarantineReason
  | trip | noSpin | noSettle | limitLowered
  deriving DecidableEq, Repr

/-- A bay record (Table 2-1), less what the running configuration holds (policy, class, zone) and what is read from the
channel (live and peak current). -/
structure BayRecord where
  state : BayState
  code : Option Code
  profileIndex : Option (Fin 8)
  snapshot : Option Profile
  removalPrepared : Bool
  failCount : Nat
  latest : Option SpinOutcome
  previous : Option SpinOutcome
  /-- Time left of the state's timer (Table 2-2), or stopped. -/
  timer : Option Nat
  /-- The timer of SPINNING is the settle extension (R100). -/
  settling : Bool
  partialReported : Bool
  deriving DecidableEq, Repr

/-- A quarantine entry (Table 6-3). -/
structure QuarantineEntry where
  bay : Bay
  code : Option Code
  reason : QuarantineReason
  failCount : Nat
  time : EventTime
  deriving DecidableEq, Repr

/-! ## Power budget unit (Chapter 4) -/

/-- Fan state (Table 7-2). -/
inductive FanState
  | absent | checking | running | failed
  deriving DecidableEq, Repr

/-- The budget unit's view of a fan: the latest fan notice (R59). -/
structure FanView where
  state : FanState
  duty : Nat
  idle : Nat
  full : Nat
  deriving DecidableEq, Repr

/-- The two lines of a supply slot (R53). -/
structure SlotLines where
  present : FilteredLine
  good : FilteredLine
  deriving DecidableEq, Repr

/-- The figures of a recomputation (R65): raw and effective supply, fan load, committed load and headroom, in mA. -/
structure Figures where
  raw : Nat
  effective : Nat
  fanLoad : Nat
  load : Nat
  headroom : Int
  deriving DecidableEq, Repr

/-- A revocation request on its way to the bay controller (R68). `stale` marks one sent before a warm restart (R73). -/
structure Revocation where
  bay : Bay
  headroom : Int
  stale : Bool
  deriving DecidableEq, Repr

/-- The power budget unit. -/
structure Budget where
  slots : Table SlotLines 4
  commitments : Table Nat 24
  fanViews : Table FanView 6
  /-- GRANTED bays, newest last (R63). -/
  grantOrder : List Bay
  outstanding : Option Bay
  overcommitted : Bool
  /-- Those of the latest recomputation (R65). -/
  figures : Figures
  /-- Revocation requests sent and not yet taken, oldest first (R68). -/
  revocations : List Revocation
  deriving DecidableEq, Repr

/-! ## Admission arbiter (Chapter 5) -/

/-- Kind of a queue entry and of a grant (Table 5-1). -/
inductive EntryKind
  | powerOn | wake
  deriving DecidableEq, Repr

/-- A spin queue entry (Table 5-1). -/
structure QueueEntry where
  bay : Bay
  kind : EntryKind
  cls : Fin 3
  joinTime : EventTime
  bypass : Nat
  deriving DecidableEq, Repr

/-- Result of an admission pass (R85). -/
inductive PassResult
  | grantHead | grantBypass | atLimit | headWaits | bypassSpent | allSkipped | queueEmpty
  deriving DecidableEq, Repr

/-- The record of a pass (R85). -/
structure PassRecord where
  time : EventTime
  result : PassResult
  head : Option (Bay × Nat)
  granted : Option (Bay × Nat)
  headroom : Int
  deriving DecidableEq, Repr

/-- The record of a grant awaiting its answer (R86). `bypassed` is the head passed by, while its entry stands (R89, R92);
`removed` says that a removal request has taken out the granted entry, so that the answer is a decline (R89). -/
structure GrantRecord where
  bay : Bay
  kind : EntryKind
  bypassed : Option Bay
  removed : Bool
  deriving DecidableEq, Repr

/-- A grant on its way to the bay controller (R86): a POWER_ON grant carries the priced inrush and heat (R51), a
WAKE grant no values (R95). `stale` marks one sent before a warm restart (R99). -/
structure Grant where
  bay : Bay
  kind : EntryKind
  priced : Option (Nat × Nat)
  stale : Bool
  deriving DecidableEq, Repr

/-- A decline on its way to the arbiter (R88). `stale` marks that of a grant sent before a warm restart (R99). -/
structure Decline where
  bay : Bay
  stale : Bool
  deriving DecidableEq, Repr

/-- The admission arbiter. -/
structure Arbiter where
  queue : List QueueEntry
  spinCount : Nat
  /-- Time left while running (R90). -/
  stagger : Option Nat
  pendingMark : Bool
  grantRecord : Option GrantRecord
  lastPass : Option PassRecord
  startUpHold : Bool
  /-- Grants sent and not yet taken, oldest first. -/
  grants : List Grant
  /-- Declines sent and not yet taken, oldest first. -/
  declines : List Decline
  deriving DecidableEq, Repr

/-! ## Cooling controller (Chapter 7) -/

/-- Thermal state of a zone (section 7.8). -/
inductive Thermal
  | normal | warning | critical
  deriving DecidableEq, Repr

/-- What a zone holds (R137, R139). -/
structure ZoneRecord where
  duty : Nat
  thermal : Thermal
  deriving DecidableEq, Repr

/-- Judgment of a tachometer sample (R122). -/
inductive Judgment
  | low | good | neutral
  deriving DecidableEq, Repr

/-- A running tachometer window: its length, the time left and the pulses counted (R121). -/
structure TachWindow where
  length : Nat
  left : Nat
  pulses : Nat
  deriving DecidableEq, Repr

/-- A fan record (Table 7-2), less its settings. -/
structure FanRecord where
  state : FanState
  duty : Nat
  rpm : Nat
  low : Nat
  good : Nat
  judgment : Option Judgment
  window : Option TachWindow
  deriving DecidableEq, Repr

/-- State of a sensor (Table 7-4). -/
inductive SensorState
  | ok | holding | failed
  deriving DecidableEq, Repr

/-- A sensor record (Table 7-4), with whether a read of it is in progress (R125). -/
structure SensorRecord where
  state : SensorState
  held : Option Int
  failures : Nat
  reading : Bool
  deriving DecidableEq, Repr

/-- A drive temperature report (Table 7-5): FRESH exactly while its age timer runs. -/
structure DriveReport where
  temp : Int
  age : Option Nat
  deriving DecidableEq, Repr

/-- The cooling controller. -/
structure Cooling where
  zones : Table ZoneRecord 3
  fans : Table FanRecord 6
  sensors : Table SensorRecord 4
  reports : Table (Option DriveReport) 24
  /-- Time to the next evaluation (R137). -/
  evaluation : Nat
  /-- Time to the next start of the sensor reads (R125). -/
  sensorRead : Nat
  /-- Time left of the fan check, while it runs (R141). -/
  fanCheck : Option Nat
  deriving DecidableEq, Repr

/-! ## Light controller (Chapter 8) -/

/-- The lights of one bay: its condition set by condition number (R146), and the levels LATN and LACT are driven to, which
RESET held low turns off (`State.latnOut`, `State.lactOut`; R160). -/
structure BayLights where
  conditions : Table Bool 9
  latn : Bool
  lact : Bool
  deriving DecidableEq, Repr

/-- The light controller. `elf` and `ell` are the levels ELF and ELL are driven to, which RESET held low turns off
(`State.elfOut`, `State.ellOut`; R160). -/
structure Lights where
  bays : Table BayLights 24
  mask : Nat
  locate : Bool
  phase : Fin 8
  /-- Time to the next step boundary (R155). -/
  boundary : Nat
  elf : Bool
  ell : Bool
  deriving DecidableEq, Repr

/-! ## Link interface (Chapter 9) -/

/-- Receive state (Table 9-1): while RECEIVING, the bytes taken after the Start byte and the gap timer's elapsed time. -/
inductive Receiver
  | hunting
  | receiving (taken : List Byte) (gap : Nat)
  | suspended
  deriving DecidableEq, Repr

/-- After-reply action (R173). -/
inductive AfterReply
  | nothing
  | linkChange (speed : Speed) (turnaround : Nat)
  | restart
  deriving DecidableEq, Repr

/-- A pending reply (Table 9-1): the frame, the time to its window's earliest and latest moment, the action. -/
structure PendingReply where
  frame : List Byte
  earliest : Nat
  latest : Nat
  action : AfterReply
  deriving DecidableEq, Repr

/-- Reply state (Table 9-6). -/
inductive ReplyState
  | none
  | pending (reply : PendingReply)
  | sending (frame : List Byte) (action : AfterReply)
  deriving DecidableEq, Repr

/-- The link interface, less the speed and the turnaround delay (running configuration). -/
structure Link where
  receiver : Receiver
  reply : ReplyState
  unitAddress : Byte
  straps : BitVec 3
  deriving DecidableEq, Repr

/-! ## Event queue and settings store (Chapter 11) -/

/-- Event kind (Table 11-2). -/
inductive EventKind
  | bayInserted | bayPartial | bayRemoved | bayDisturbed | bayPowered | spinFailed | powerFault | bayQuarantined
  | unscheduledSpin | grant | grantExpired | grantRevoked | wakeDropped | ruleConflict | psuChange | budgetOvercommit
  | budgetRestored | fanFailed | fanRecovered | sensorFailed | thermal | tempStale | settingsDefaulted | coldStart
  | warmRestart
  deriving DecidableEq, Repr

/-- Subject of an event record (Table 11-1). -/
inductive Subject
  | none | bay (b : Bay) | fan (f : Fan) | zone (z : Zone) | sensor (k : Sensor) | slot (k : Slot)
  deriving DecidableEq, Repr

/-- An event as a block raises it: all of a record but its time. -/
structure Event where
  kind : EventKind
  subject : Subject
  detail : Option Byte
  value : Option Int
  deriving DecidableEq, Repr

/-- An event record (Table 11-1). -/
structure EventRecord where
  event : Event
  time : EventTime
  deriving DecidableEq, Repr

/-- The event queue. -/
structure EventQueue where
  records : List EventRecord
  overflow : Bool
  deriving DecidableEq, Repr

/-- A settings write in progress (R195): the copied items, and the time left to the latest moment of its completion. -/
structure SettingsWrite where
  items : Settings
  left : Nat
  deriving DecidableEq, Repr

/-- A warm restart's reload that waits for a settings write (R195): the bays to move back to QUEUED (R40), and the
restart's event time, which is their join time (R99). -/
structure AwaitedReload where
  queued : List Bay
  time : EventTime
  deriving DecidableEq, Repr

/-- The settings store: the image, the write in progress (R195), whether the last load took factory defaults (R194), and
the reload that waits for the write. -/
structure Store where
  image : SettingsImage
  writing : Option SettingsWrite
  defaulted : Bool
  reloadAwaited : Option AwaitedReload
  deriving DecidableEq, Repr

/-! ## The machine -/

/-- The whole part, and the queue of commands that wait. `cfg` is the running configuration, which every block reads;
`resetLow` is the level of the RESET pin: held low (R14, R192). -/
structure State where
  chans : Table Channel 24
  bays : Table BayRecord 24
  quarantine : List QuarantineEntry
  budget : Budget
  arbiter : Arbiter
  cooling : Cooling
  lights : Lights
  link : Link
  events : EventQueue
  time : EventTime
  store : Store
  cfg : Settings
  resetLow : Bool
  pending : List Instr
  deriving DecidableEq, Repr

/-- Reasons to stop with a fault. There is none: what the manual calls a fault of the enclosure is an effect on the
state, and no rule makes a command's effect undefined. Nothing raises one; safe. -/
inductive Fault
  deriving DecidableEq, Repr

/-- Reasons to refuse a command. -/
inductive Refusal
  /-- Answered by `exec` for a command without a meaning: none is left. Safe: the machine stops. -/
  | notModelled (mnemonic : String)
  deriving DecidableEq, Repr

/-! ## The state after reset -/

/-- A filtered line right after a cold start: accepted negated, and its filter running if the raw level is asserted
(R14, R72). -/
def FilteredLine.cold (ms : Nat) (raw : Bool) : FilteredLine := ⟨raw, false, if raw then some ms else none⟩

/-- A channel after a cold start (R14), with the raw levels its pins hold. -/
def Channel.cold (early late car1 car0 : Bool) : Channel where
  early := .cold 5 early
  late := .cold 5 late
  car1 := .cold 5 car1
  car0 := .cold 5 car0
  seatTimer := none
  seatStable := false
  heldCode := none
  switch := .opened
  rampTimer := none
  rampEndWithheld := false
  tripLevel := none
  live := 0
  peak := 0
  riseWatch := none
  fallWatch := none
  activity := false
  stretch := none
  reports := []

/-- A bay record after a cold start (Table 2-1). -/
def BayRecord.cold : BayRecord where
  state := .empty
  code := none
  profileIndex := none
  snapshot := none
  removalPrepared := false
  failCount := 0
  latest := none
  previous := none
  timer := none
  settling := false
  partialReported := false

/-- The arbiter after a cold start (R98). -/
def Arbiter.cold : Arbiter where
  queue := []
  spinCount := 0
  stagger := none
  pendingMark := false
  grantRecord := none
  lastPass := none
  startUpHold := true
  grants := []
  declines := []

/-- A fan after a cold start (R141, R144), by its absent setting and the window length. -/
def FanRecord.cold (absent : Bool) (windowMs : Nat) : FanRecord where
  state := if absent then .absent else .checking
  duty := if absent then 0 else 100
  rpm := 0
  low := 0
  good := 0
  judgment := none
  window := if absent then none else some ⟨windowMs, windowMs, 0⟩

/-- The budget unit's view of a fan at a cold start (R72). -/
def FanView.cold (f : FanSettings) : FanView :=
  ⟨if f.absent then .absent else .checking, if f.absent then 0 else 100, f.idle, f.full⟩

/-- The cooling controller after a cold start (R144). -/
def Cooling.cold (cfg : Settings) : Cooling where
  zones := .replicate 3 ⟨100, .normal⟩
  fans := Table.each (fun f => .cold f.absent cfg.common.windowMs) cfg.fans
  sensors := .replicate 4 ⟨.holding, none, 0, true⟩
  reports := .replicate 24 none
  evaluation := 1000
  sensorRead := 1000
  fanCheck := some 5000

/-- The light controller after a cold start (R160). -/
def Lights.cold : Lights where
  bays := .replicate 24 ⟨.replicate 9 false, false, false⟩
  mask := 0
  locate := false
  phase := 0
  boundary := 125
  elf := false
  ell := false

/-- The link interface after a cold start (Table 9-1, R163). -/
def Link.cold (straps : BitVec 3) : Link where
  receiver := .hunting
  reply := .none
  unitAddress := straps.setWidth 8 + 1
  straps := straps

/-- The budget unit before its first computation (R72). -/
def Budget.cold (cfg : Settings) (slots : Table SlotLines 4) : Budget where
  slots := slots
  commitments := .replicate 24 0
  fanViews := Table.each FanView.cold cfg.fans
  grantOrder := []
  outstanding := none
  overcommitted := false
  figures := ⟨0, 0, 0, 0, 0⟩
  revocations := []

/-- The machine right after reset: the state a cold start leaves, with factory defaults in force because no settings
image has been saved (DESIGN CHOICE, notes/assumptions/4.md), the contact and supply pins negated, the carrier lines at
their pull-up and the straps at 0 (DESIGN CHOICE, notes/assumptions/5.md). The first budget computation finds
S_eff 0 and H = -23,000 (R72). -/
def State.reset : State where
  chans := .replicate 24 (.cold false false true true)
  bays := .replicate 24 .cold
  quarantine := []
  budget := { Budget.cold factorySettings (.replicate 4 ⟨.cold 10 false, .cold 10 false⟩) with
    overcommitted := true
    figures := ⟨0, 0, 15000, 23000, -23000⟩ }
  arbiter := .cold
  cooling := .cold factorySettings
  lights := .cold
  link := .cold 0
  events := {
    records := [⟨⟨.coldStart, .none, none, none⟩, 0⟩, ⟨⟨.settingsDefaulted, .none, some 0, none⟩, 0⟩,
      ⟨⟨.budgetOvercommit, .none, none, some (-23000)⟩, 0⟩]
    overflow := false }
  time := 0
  store := ⟨⟨factorySettings, Config.settingsCheck factorySettings + 1⟩, none, true, none⟩
  cfg := factorySettings
  resetLow := false
  pending := []

end Sys2Proof.Machine
end

