-- ==== Sys2Proof/Machine/Operands.lean ====
section
/-! DEFINITION. Operand forms of the requests and replies (Chapter 10): byte order, codes, clamps, lengths, bay lists. -/

namespace Sys2Proof.Machine

/-! ## Numbers in bytes (R179) -/

/-- A number in one byte. -/
def u8 (n : Nat) : List Byte := [BitVec.ofNat 8 n]

/-- A number in two bytes, low byte first (R179). -/
def u16 (n : Nat) : List Byte := [BitVec.ofNat 8 n, BitVec.ofNat 8 (n / 256)]

/-- A number in four bytes, low byte first (R179). -/
def u32 (n : Nat) : List Byte :=
  [BitVec.ofNat 8 n, BitVec.ofNat 8 (n / 256), BitVec.ofNat 8 (n / 65536), BitVec.ofNat 8 (n / 16777216)]

/-- A signed number in one byte, two's complement (R179). -/
def s8 (i : Int) : List Byte := [BitVec.ofInt 8 i]

/-- A signed number in four bytes, low byte first (R179). -/
def s32 (i : Int) : List Byte := u32 (BitVec.ofInt 32 i).toNat

/-- A bit as a byte 0 or 1. -/
def flag8 (b : Bool) : List Byte := u8 b.toNat

/-- The byte of a payload at a position, as a number; 0 beyond its end, which no permitted length reaches (R180). -/
def byteAt (p : List Byte) (i : Nat) : Nat := (p.getD i 0).toNat

/-- The two-byte field of a payload at a position (R179). -/
def u16At (p : List Byte) (i : Nat) : Nat := byteAt p i + 256 * byteAt p (i + 1)

/-- The four-byte field of a payload at a position (R179). -/
def u32At (p : List Byte) (i : Nat) : Nat := u16At p i + 65536 * u16At p (i + 2)

/-- The signed one-byte field of a payload at a position (R179). -/
def s8At (p : List Byte) (i : Nat) : Int := (p.getD i 0).toInt

/-- The check of a frame: the sum of the bytes from Address to the last payload byte, modulo 65,536 (R164). -/
def frameCheck (bytes : List Byte) : Nat := (bytes.foldl (fun n b => n + b.toNat) 0) % 65536

/-! ## Characters (R162): the levels of the line over one character's ten bit times, `true` the stop-bit level -/

/-- The level of the idle line: the stop-bit level (R162). -/
def idleLevel : Bool := true

/-- The character of a byte: start bit, eight data bits with the least significant first, stop bit (R162). -/
def characterBits (byte : Byte) : List Bool :=
  [!idleLevel] ++ (List.range 8).map byte.getLsbD ++ [idleLevel]

/-- The byte of a character as it is received, from its ten levels; `none` where the stop bit is sampled at the start-bit
level, which is a framing error (R162). -/
def characterByte (bits : List Bool) : Option Byte :=
  if bits.getD 9 false = idleLevel then
    some (BitVec.ofNat 8 (((bits.drop 1).take 8).foldr (fun b n => b.toNat + 2 * n) 0))
  else none

/-! ## Clamps -/

/-- A number clamped to the nearer end of a range. -/
def clampNat (lo hi n : Nat) : Nat := max lo (min hi n)

/-- A signed number clamped to the nearer end of a range. -/
def clampInt (lo hi n : Int) : Int := max lo (min hi n)

/-- A temperature clamped to -40..125 °C (R125, R131). -/
def clampTemp (t : Int) : Int := clampInt (-40) 125 t

/-! ## Enumerated codes (Table 10-1, Table 11-2) -/

/-- Bay state codes. -/
def BayState.byte : BayState → Byte
  | .empty => 0 | .seating => 1 | .idleOff => 2 | .queued => 3 | .ramping => 4 | .spinning => 5 | .active => 6
  | .standby => 7 | .wakeQueued => 8 | .granted => 9 | .poweringDown => 10 | .extracting => 11 | .faulted => 12

/-- Spin outcome codes. -/
def SpinOutcome.byte : SpinOutcome → Byte
  | .success => 0 | .trip => 1 | .noSpin => 2 | .noSettle => 3 | .aborted => 4 | .extracted => 5

/-- Quarantine reason codes. -/
def QuarantineReason.byte : QuarantineReason → Byte
  | .trip => 1 | .noSpin => 2 | .noSettle => 3 | .limitLowered => 6

/-- Bay policy codes. -/
def Policy.byte : Policy → Byte
  | .auto => 0 | .hold => 1

/-- Supply policy codes. -/
def SupplyPolicy.byte : SupplyPolicy → Byte
  | .shared => 0 | .redundant => 1

/-- Zone codes. -/
def Zone.byte (z : Zone) : Byte := BitVec.ofNat 8 z.number.val

/-- The zone of a code 0-2; every greater code names zone C, to which SET_BAY_POLICY clamps it (R182). -/
def zoneOfCode (n : Nat) : Zone := if n = 0 then .a else if n = 1 then .b else .c

/-- Queue entry kind codes. -/
def EntryKind.byte : EntryKind → Byte
  | .powerOn => 0 | .wake => 1

/-- Pass result codes. -/
def PassResult.byte : PassResult → Byte
  | .grantHead => 0 | .grantBypass => 1 | .atLimit => 2 | .headWaits => 3 | .bypassSpent => 4 | .allSkipped => 5
  | .queueEmpty => 6

/-- Fan state codes. -/
def FanState.byte : FanState → Byte
  | .absent => 0 | .checking => 1 | .running => 2 | .failed => 3

/-- Sensor state codes. -/
def SensorState.byte : SensorState → Byte
  | .ok => 0 | .holding => 1 | .failed => 2

/-- Thermal state codes. -/
def Thermal.byte : Thermal → Byte
  | .normal => 0 | .warning => 1 | .critical => 2

/-- Link speed codes. -/
def Speed.byte : Speed → Byte
  | .b9600 => 0 | .b19200 => 1 | .b57600 => 2 | .b115200 => 3

/-- The link speed of a code, none above 3 (R189). -/
def speedOfCode (n : Nat) : Option Speed :=
  if n = 0 then some .b9600 else if n = 1 then some .b19200 else if n = 2 then some .b57600
  else if n = 3 then some .b115200 else none

/-- Event kind codes (Table 11-2). -/
def EventKind.byte : EventKind → Byte
  | .bayInserted => 0x01 | .bayPartial => 0x02 | .bayRemoved => 0x03 | .bayDisturbed => 0x04 | .bayPowered => 0x05
  | .spinFailed => 0x06 | .powerFault => 0x07 | .bayQuarantined => 0x08 | .unscheduledSpin => 0x09 | .grant => 0x0a
  | .grantExpired => 0x0b | .grantRevoked => 0x0c | .wakeDropped => 0x0d | .ruleConflict => 0x0e | .psuChange => 0x0f
  | .budgetOvercommit => 0x10 | .budgetRestored => 0x11 | .fanFailed => 0x12 | .fanRecovered => 0x13
  | .sensorFailed => 0x14 | .thermal => 0x15 | .tempStale => 0x16 | .settingsDefaulted => 0x17 | .coldStart => 0x18
  | .warmRestart => 0x19

/-- Subject type and number of an event record (R188). -/
def Subject.bytes : Subject → List Byte
  | .none => [0, 0xff]
  | .bay b => [1, BitVec.ofNat 8 b.val]
  | .fan f => [2, BitVec.ofNat 8 f.val]
  | .zone z => [3, z.byte]
  | .sensor k => [4, BitVec.ofNat 8 k.val]
  | .slot k => [5, BitVec.ofNat 8 k.val]

/-- The signed four-byte value field of an event record (Table 11-1); outside the field's range a free value (DESIGN CHOICE,
notes/assumptions/17.md). -/
def eventValue (v : Int) : List Byte :=
  if -2147483648 ≤ v ∧ v ≤ 2147483647 then s32 v else u32 (Config.wideEventValue v).toNat

/-- An event record in its 13 bytes (R188). -/
def EventRecord.bytes (r : EventRecord) : List Byte :=
  [r.event.kind.byte] ++ r.event.subject.bytes ++ [r.event.detail.getD 0xff] ++ flag8 r.event.value.isSome ++
    eventValue (r.event.value.getD 0) ++ u32 r.time.toNat

/-- Status codes (Table 9-7). -/
inductive Status
  | ok | accepted | clamped | badKind | badLength | badBay | badValue | wrongState | bayBusy | quarantined | storeBusy
  deriving DecidableEq, Repr

/-- The codes of Table 9-7. -/
def Status.byte : Status → Byte
  | .ok => 0 | .accepted => 1 | .clamped => 2 | .badKind => 3 | .badLength => 4 | .badBay => 5 | .badValue => 6
  | .wrongState => 7 | .bayBusy => 8 | .quarantined => 9 | .storeBusy => 10

/-- CLAMPED when a value was changed by clamping, OK when none was. -/
def writtenStatus (clamped : Bool) : Status := if clamped then .clamped else .ok

/-- One byte of an optional code, FFh for none (R179). -/
def byteOrFF (o : Option Byte) : Byte := o.getD 0xff

/-- An optional count in two bytes, FFFFh for none (R179). -/
def u16OrFFFF (o : Option Nat) : List Byte := u16 (o.getD 0xffff)

/-- An optional temperature, 7Fh for none (R179). -/
def tempOr7F (o : Option Int) : List Byte := s8 (o.getD 127)

/-- The two-byte field of a measured rpm; above 65,535 a free value (notes/assumptions/17.md). -/
def rpmField (rpm : Nat) : List Byte := if rpm < 65536 then u16 rpm else u16 (Config.wideRpmField rpm).toNat

/-- A profile in its 13 bytes (R187). -/
def Profile.bytes (p : Profile) : List Byte :=
  u16 p.inrush ++ u16 p.steady ++ u16 p.standby ++ u16 p.spinMs ++ u16 p.settle ++ u16 p.trip ++ u8 p.heat

/-- A curve in its 8 bytes (R185). -/
def Curve.bytes (c : Curve) : List Byte :=
  s8 c.p1.temp ++ u8 c.p1.duty ++ s8 c.p2.temp ++ u8 c.p2.duty ++ s8 c.p3.temp ++ u8 c.p3.duty ++ s8 c.p4.temp ++
    u8 c.p4.duty

/-- A curve read from a payload at a position (R185). -/
def curveAt (p : List Byte) (i : Nat) : Curve :=
  ⟨⟨s8At p i, byteAt p (i + 1)⟩, ⟨s8At p (i + 2), byteAt p (i + 3)⟩, ⟨s8At p (i + 4), byteAt p (i + 5)⟩,
    ⟨s8At p (i + 6), byteAt p (i + 7)⟩⟩

/-- Up to four bits of a number as a set of bits. -/
def bitSet (bits : List Bool) : Nat := bits.foldr (fun b n => b.toNat + 2 * n) 0

/-! ## Message kinds (Table 9-8) -/

/-- The kinds of request. SET_ZONE has one kind code for its two forms (R185). -/
inductive RequestKind
  | unitInfo | bayStatus | baySummary | setBayPolicy | powerOn | powerOff | prepareRemoval | spinRequest | spinDownNote
  | setCondition | clearLatch | setLightMask | setPattern | setConditionPattern | setLocate | driveTemps | setZone
  | setFan | coolingStatus | setSupply | budgetStatus | setAdmission | queueStatus | setProfile | getProfile
  | setProfileRule | quarantineList | clearQuarantine | readEvents | saveSettings | restart | setLink
  deriving DecidableEq, Repr

/-- The kind codes of Table 9-8 (R177). -/
def RequestKind.byte : RequestKind → Byte
  | .unitInfo => 0x01 | .bayStatus => 0x02 | .baySummary => 0x03 | .setBayPolicy => 0x04
  | .powerOn => 0x10 | .powerOff => 0x11 | .prepareRemoval => 0x12 | .spinRequest => 0x13 | .spinDownNote => 0x14
  | .setCondition => 0x20 | .clearLatch => 0x21 | .setLightMask => 0x22 | .setPattern => 0x23
  | .setConditionPattern => 0x24 | .setLocate => 0x25
  | .driveTemps => 0x30 | .setZone => 0x31 | .setFan => 0x32 | .coolingStatus => 0x33
  | .setSupply => 0x40 | .budgetStatus => 0x41 | .setAdmission => 0x42 | .queueStatus => 0x43
  | .setProfile => 0x50 | .getProfile => 0x51 | .setProfileRule => 0x52 | .quarantineList => 0x53
  | .clearQuarantine => 0x54
  | .readEvents => 0x60 | .saveSettings => 0x61 | .restart => 0x62 | .setLink => 0x63

/-- Every kind of Table 9-8, in the table's order. -/
def allKinds : List RequestKind :=
  [.unitInfo, .bayStatus, .baySummary, .setBayPolicy, .powerOn, .powerOff, .prepareRemoval, .spinRequest,
    .spinDownNote, .setCondition, .clearLatch, .setLightMask, .setPattern, .setConditionPattern, .setLocate,
    .driveTemps, .setZone, .setFan, .coolingStatus, .setSupply, .budgetStatus, .setAdmission, .queueStatus,
    .setProfile, .getProfile, .setProfileRule, .quarantineList, .clearQuarantine, .readEvents, .saveSettings,
    .restart, .setLink]

/-- The kind a code names, if it is in Table 9-8 (R168). -/
def kindOfCode (code : Byte) : Option RequestKind := allKinds.find? (fun k => k.byte == code)

/-! ## Bay lists and lengths (R180, R181) -/

/-- Whether a bay list fills the bytes that stand for it: no form has fewer than two bytes (Table 10-2). DESIGN CHOICE
(notes/assumptions/14.md): with a form byte of neither form no length is laid down, so any length from two bytes on passes
and R181 refuses the form. -/
def bayListFits : List Byte → Bool
  | form :: n :: items =>
    if form = 0 then items.length = n.toNat
    else if form = 1 then items.length = 1
    else true
  | _ => false

/-- The sequence of bay numbers a bay list names, or the status that refuses the whole request (R181, Table 10-2). -/
def expandBayList (p : List Byte) : Except Status (List Nat) :=
  let form := byteAt p 0
  if form = 0 then
    let n := byteAt p 1
    if n = 0 ∨ 24 < n then .error .badValue else .ok ((p.drop 2).map BitVec.toNat)
  else if form = 1 then
    let first := byteAt p 1
    let n := byteAt p 2
    if n = 0 ∨ 24 < n then .error .badValue
    else if 23 < first then .error .badBay
    else .ok ((List.range n).map fun k => (first + k) % 24)
  else .error .badValue

/-- Whether a kind permits a payload of this length (R180, Tables 10-3 to 10-10). -/
def RequestKind.lengthOk (k : RequestKind) (p : List Byte) : Bool :=
  match k with
  | .unitInfo | .baySummary | .coolingStatus | .budgetStatus | .queueStatus | .quarantineList | .saveSettings
  | .restart => p.length = 0
  | .bayStatus | .clearLatch | .setLightMask | .setLocate | .getProfile | .readEvents => p.length = 1
  | .setPattern | .setConditionPattern | .setLink => p.length = 2
  | .setProfileRule => p.length = 6
  | .setAdmission => p.length = 7
  | .setFan => p.length = 9
  | .setProfile => p.length = 14
  | .setSupply => p.length = 20
  | .setZone =>
    match p with
    | [] => false
    | z :: _ => if z = 3 then p.length = 18 else p.length = 9
  | .driveTemps =>
    match p with
    | [] => false
    | n :: items => items.length = 2 * n.toNat
  | .powerOn | .powerOff | .prepareRemoval | .spinRequest | .spinDownNote | .clearQuarantine => bayListFits p
  | .setBayPolicy => 3 ≤ p.length ∧ bayListFits (p.drop 3)
  | .setCondition => 2 ≤ p.length ∧ bayListFits (p.drop 2)

/-- A bay number in a request, if it names a bay (R181: above 23 is BAD_BAY). -/
def bayOfNumber (n : Nat) : Option Bay := if h : n < 24 then some ⟨n, h⟩ else none

end Sys2Proof.Machine
end

