-- ==== Sys2Proof/Machine/Ops.lean ====
section
/-! DEFINITION. The named operations on the state: updates of one block, event records, channel commands, and bay
numbers in order. -/

namespace Sys2Proof.Machine

/-! ## Updates of one block -/

/-- The state with one channel replaced. -/
def State.putChan (s : State) (b : Bay) (c : Channel) : State := { s with chans := Table.put s.chans b c }
/-- The state with one bay record replaced. -/
def State.putBay (s : State) (b : Bay) (r : BayRecord) : State := { s with bays := Table.put s.bays b r }
/-- The state with the quarantine table replaced. -/
def State.putQuarantine (s : State) (q : List QuarantineEntry) : State := { s with quarantine := q }
/-- The state with the budget unit replaced. -/
def State.putBudget (s : State) (x : Budget) : State := { s with budget := x }
/-- The state with the arbiter replaced. -/
def State.putArbiter (s : State) (x : Arbiter) : State := { s with arbiter := x }
/-- The state with the cooling controller replaced. -/
def State.putCooling (s : State) (x : Cooling) : State := { s with cooling := x }
/-- The state with the light controller replaced. -/
def State.putLights (s : State) (x : Lights) : State := { s with lights := x }
/-- The state with the link interface replaced. -/
def State.putLink (s : State) (x : Link) : State := { s with link := x }
/-- The state with the event queue replaced. -/
def State.putEvents (s : State) (x : EventQueue) : State := { s with events := x }
/-- The state with the settings store replaced. -/
def State.putStore (s : State) (x : Store) : State := { s with store := x }
/-- The state with the running configuration replaced. -/
def State.putCfg (s : State) (x : Settings) : State := { s with cfg := x }
/-- The state with the RESET pin at another level. -/
def State.putReset (s : State) (x : Bool) : State := { s with resetLow := x }
/-- The state with the queue of commands replaced. -/
def State.putPending (s : State) (x : List Instr) : State := { s with pending := x }

/-- The channel of a bay. -/
def State.chan (s : State) (b : Bay) : Channel := s.chans.get b
/-- The record of a bay. -/
def State.bay (s : State) (b : Bay) : BayRecord := s.bays.get b
/-- The settings of a bay. -/
def State.baySettings (s : State) (b : Bay) : BaySettings := s.cfg.bays.get b
/-- The zone of a bay, as its record holds it (R119). -/
def State.zoneOf (s : State) (b : Bay) : Zone := (s.baySettings b).zone

/-- The bay numbers in order. -/
def allBays : List Bay :=
  [0, 1, 2, 3, 4, 5, 6, 7, 8, 9, 10, 11, 12, 13, 14, 15, 16, 17, 18, 19, 20, 21, 22, 23]
/-- The fan numbers in order. -/
def allFans : List Fan := [0, 1, 2, 3, 4, 5]
/-- The slot numbers in order. -/
def allSlots : List Slot := [0, 1, 2, 3]
/-- The sensor numbers in order. -/
def allSensors : List Sensor := [0, 1, 2, 3]
/-- The zones in order. -/
def allZones : List Zone := [.a, .b, .c]

/-! ## Events (R190) -/

/-- A block raises an event: stamped with the event time and appended, or, while the queue holds 32 records, discarded
with the overflow mark set (R190). -/
def State.raise (s : State) (e : Event) : State :=
  s.putEvents
    (if s.events.records.length < 32 then
      { s.events with records := s.events.records ++ [⟨e, s.time⟩] }
    else { s.events with overflow := true })

/-- The events of a list raised in its order. -/
def State.raiseAll (s : State) (es : List Event) : State := es.foldl State.raise s

/-- An event with a bay as its subject. -/
def bayEvent (k : EventKind) (b : Bay) (detail : Option Byte) (value : Option Int) : Event := ⟨k, .bay b, detail, value⟩

/-! ## Filtered lines (R2, R5, R53) -/

/-- A raw edge: a level opposite to the accepted one starts or restarts the filter at its full time, a return to the
accepted level ends the excursion. A level the pin already holds is no edge (notes/assumptions/24.md). -/
def FilteredLine.edge (l : FilteredLine) (ms : Nat) (level : Bool) : FilteredLine :=
  if l.raw = level then l
  else { l with raw := level, filter := if level = l.accepted then none else some ms }

/-- The end of the filter: the accepted level becomes the level the raw input has held. -/
def FilteredLine.accept (l : FilteredLine) : FilteredLine :=
  match l.filter with
  | none => l
  | some _ => { l with accepted := l.raw, filter := none }

/-! ## Channel state and commands (Chapter 1) -/

/-- The bay is seated while both accepted levels are asserted (R2). -/
def Channel.seated (c : Channel) : Bool := c.early.accepted && c.late.accepted

/-- The channel sends a report (R1). -/
def Channel.send (c : Channel) (r : Report) : Channel := { c with reports := c.reports ++ [r] }

/-- The DISARM command for the watch named, or both (R10). A watch that fires is disarmed the same way. -/
def Channel.disarm (c : Channel) (w : Watch) : Channel :=
  match w with
  | .rise => { c with riseWatch := none }
  | .fall => { c with fallWatch := none }
  | .both => { c with riseWatch := none, fallWatch := none }

/-- The opening of a RAMPING or CLOSED switch (R7); in OPEN nothing changes. It is the OPEN command, and the opening of
the unseat cut and of a trip. -/
def Channel.openSwitch (c : Channel) : Channel :=
  match c.switch with
  | .opened => c
  | .ramping | .closed =>
    { c with switch := .opened, rampTimer := none, rampEndWithheld := false, tripLevel := none }.disarm .both

/-- The CLOSE command (R6): carried out in OPEN when the bay is seated. -/
def Channel.closeSwitch (c : Channel) (trip : Nat) : Channel :=
  match c.switch with
  | .opened =>
    if c.seated then
      { c with switch := .ramping, tripLevel := some trip, rampTimer := some 20, rampEndWithheld := false }
    else c
  | .ramping | .closed => c

/-- The PEAK_RESET command (R9). -/
def Channel.peakReset (c : Channel) : Channel := { c with peak := c.live }

/-- The ARM_RISE command (R10), in every position of the switch; it replaces the level of an armed watch. -/
def Channel.armRise (c : Channel) (level : Nat) : Channel := { c with riseWatch := some level }

/-- The ARM_FALL command (R10), in every position of the switch; it replaces the level of an armed watch. -/
def Channel.armFall (c : Channel) (level : Nat) : Channel := { c with fallWatch := some level }

/-- The bay controller takes a bay's power away: OPEN (R7), and DISARM of both watches, which an OPEN that finds the switch
open does not disarm. DEDUCED (notes/assumptions/34.md). -/
def Channel.powerOff (c : Channel) : Channel := c.openSwitch.disarm .both

/-- A current as it is recorded: above 10,000 mA as 10,000 (R8, R11). -/
def recorded (mA : Nat) : Nat := min mA 10000

/-- The bay controller sends a command to a bay's channel. -/
def State.toChan (s : State) (b : Bay) (f : Channel → Channel) : State := s.putChan b (f (s.chan b))

/-- The bay controller takes a bay's oldest report: it, and the state without it; none when no report is on its way. -/
def State.takeReport (s : State) (b : Bay) : Option (Report × State) :=
  match (s.chan b).reports with
  | [] => none
  | r :: rest => some (r, s.putChan b { s.chan b with reports := rest })

/-! ## Bay records (Chapter 2) -/

/-- The states in which the bay's switch is closed (Table 2-2). -/
def BayState.closedSwitch : BayState → Bool
  | .ramping | .spinning | .active | .standby | .wakeQueued | .granted => true
  | .empty | .seating | .idleOff | .queued | .poweringDown | .extracting | .faulted => false

/-- RAMPING, SPINNING or GRANTED: the states of the spin count (R91), of inrush (R62) and of heat (R134). -/
def BayState.drawsInrush : BayState → Bool
  | .ramping | .spinning | .granted => true
  | .empty | .seating | .idleOff | .queued | .active | .standby | .wakeQueued | .poweringDown | .extracting
  | .faulted => false

/-- A spin is in flight while the bay is RAMPING or SPINNING (section 2.2). -/
def BayState.spinInFlight : BayState → Bool
  | .ramping | .spinning => true
  | .empty | .seating | .idleOff | .queued | .active | .standby | .wakeQueued | .granted | .poweringDown | .extracting
  | .faulted => false

/-- The snapshot's values. A powered bay has a snapshot (R62, R51); profile 0 stands in where none is held
(notes/assumptions/23.md). -/
def BayRecord.snap (r : BayRecord) : Profile := r.snapshot.getD profile0

/-- An outcome is recorded: the latest becomes the previous (R108). -/
def BayRecord.record (r : BayRecord) (o : SpinOutcome) : BayRecord := { r with latest := some o, previous := r.latest }

/-- The outcome recorded only if a spin is in flight (R30, R35). -/
def BayRecord.recordIfSpinning (r : BayRecord) (o : SpinOutcome) : BayRecord :=
  if r.state.spinInFlight then r.record o else r

/-- A record update of one bay that is no change of state. -/
def State.onBay (s : State) (b : Bay) (f : BayRecord → BayRecord) : State := s.putBay b (f (s.bay b))

/-- Whether the quarantine table holds an entry of the bay (R115). -/
def State.isQuarantined (s : State) (b : Bay) : Bool := s.quarantine.any (fun e => e.bay == b)

/-! ## Profiles (Chapter 3) -/

/-- The profile of a number: profile 0 is built in, 1-7 are in the running configuration (R41). -/
def Settings.profile (c : Settings) (i : Fin 8) : Profile :=
  if h : i.val = 0 then profile0 else c.profiles.get ⟨i.val - 1, by omega⟩

/-- A bay's current profile, by its stored index (R52); profile 0 where no index is stored (notes/assumptions/23.md). -/
def State.profileOf (s : State) (b : Bay) : Profile := s.cfg.profile ((s.bay b).profileIndex.getD 0)

end Sys2Proof.Machine
end

