-- ==== Sys2Proof/Machine/Flags.lean ====
section
/-! DEFINITION. What is computed from the state and not held apart: slot conditions, ATTN resolution, the enclosure fault
state and its causes, and the outputs that follow the state at once. -/

namespace Sys2Proof.Machine

/-! ## Supply slots (R53) -/

/-- Condition of a supply slot (Table 4-1). -/
inductive SlotCondition
  | notPresent | presentNotOk | contributing
  deriving DecidableEq, Repr

/-- The condition formed from the two accepted levels (R53). -/
def SlotLines.condition (l : SlotLines) : SlotCondition :=
  if l.present.accepted then
    if l.good.accepted then .contributing else .presentNotOk
  else .notPresent

/-- Slot condition codes (Table 10-1). -/
def SlotCondition.byte : SlotCondition → Byte
  | .notPresent => 0 | .presentNotOk => 1 | .contributing => 2

/-! ## Light conditions and their resolution (Table 8-1, R153) -/

/-- IDENTIFY. -/
def condIdentify : Fin 9 := 0
/-- REMOVE_OK. -/
def condRemoveOk : Fin 9 := 5
/-- SPIN_WAIT. -/
def condSpinWait : Fin 9 := 6
/-- QUARANTINED. -/
def condQuarantined : Fin 9 := 7
/-- POWER_FAULT, the latch. -/
def condPowerFault : Fin 9 := 8

/-- The condition numbers in order. -/
def allConditions : List (Fin 9) := [0, 1, 2, 3, 4, 5, 6, 7, 8]

/-- The level of a condition (Table 8-1). -/
def conditionLevel (c : Fin 9) : Nat := [5, 6, 3, 2, 1, 4, 1, 6, 7].getD c.val 0

/-- A set condition is eligible if its level is above the mask or is 7 (R153). -/
def eligible (l : BayLights) (mask : Nat) (c : Fin 9) : Bool :=
  l.conditions.get c && (decide (mask < conditionLevel c) || conditionLevel c == 7)

/-- The eligible condition of the highest level, the lower number winning a tie (R153): `best` is the choice so far. -/
def resolveFrom (l : BayLights) (mask : Nat) : Option (Fin 9) → List (Fin 9) → Option (Fin 9)
  | best, [] => best
  | best, c :: rest =>
    if eligible l mask c then
      match best with
      | none => resolveFrom l mask (some c) rest
      | some d => resolveFrom l mask (some (if conditionLevel d < conditionLevel c then c else d)) rest
    else resolveFrom l mask best rest

/-- The resolved condition of a bay's ATTN light (R153). -/
def State.resolved (s : State) (b : Bay) : Option (Fin 9) :=
  resolveFrom (s.lights.bays.get b) s.lights.mask none allConditions

/-- The shown pattern's number: the resolved condition's assignment, or 0 (OFF) (R153). -/
def State.shownPattern (s : State) (b : Bay) : Fin 8 :=
  match s.resolved b with
  | none => 0
  | some c => s.cfg.assign.get c

/-- The steps of a pattern: 0-3 fixed, 4-7 from the running configuration (R154, Table 8-4); bit `k` is step `k`. -/
def Settings.pattern (c : Settings) (i : Fin 8) : BitVec 8 :=
  if h : i.val < 4 then [0b00000000#8, 0b11111111#8, 0b00001111#8, 0b01010101#8].getD i.val 0
  else c.patterns.get ⟨i.val - 4, by omega⟩

/-- Whether a pattern is on at a step (R154). -/
def patternOn (p : BitVec 8) (step : Fin 8) : Bool := p.getLsbD step.val

/-- Source of a bay's ACT light (R157, Table 10-1). -/
inductive ActSource
  | off | activity | pattern2
  deriving DecidableEq, Repr

/-- The ACT light's source by the bay's state (R157). -/
def BayState.actSource : BayState → ActSource
  | .active => .activity
  | .ramping | .spinning | .granted => .pattern2
  | .empty | .seating | .idleOff | .queued | .standby | .wakeQueued | .poweringDown | .extracting | .faulted => .off

/-- ACT light source codes (Table 10-1). -/
def ActSource.byte : ActSource → Byte
  | .off => 0 | .activity => 1 | .pattern2 => 2

/-- The level the ACT light is driven to (R157). -/
def State.actLevel (s : State) (b : Bay) : Bool :=
  match (s.bay b).state.actSource with
  | .off => false
  | .activity => (s.chan b).activity
  | .pattern2 => patternOn (s.cfg.pattern 2) s.lights.phase

/-! ## Enclosure fault state (R158) -/

/-- Cause: any bay's resolved condition has level 6 or 7. -/
def State.causeBay (s : State) : Bool :=
  allBays.any fun b =>
    match s.resolved b with
    | none => false
    | some c => decide (6 ≤ conditionLevel c)

/-- Cause: any fan is FAILED. -/
def State.causeFan (s : State) : Bool := allFans.any fun f => (s.cooling.fans.get f).state == .failed

/-- Cause: any sensor is FAILED. -/
def State.causeSensor (s : State) : Bool := allSensors.any fun k => (s.cooling.sensors.get k).state == .failed

/-- Cause: any supply slot is PRESENT_NOT_OK. -/
def State.causeSlot (s : State) : Bool := allSlots.any fun k => (s.budget.slots.get k).condition == .presentNotOk

/-- Cause: any zone is CRITICAL. -/
def State.causeZone (s : State) : Bool := allZones.any fun z => (s.cooling.zones.get z.number).thermal == .critical

/-- The six causes, bit 0 first as UNIT_INFO sends them (R183). -/
def State.faultCauses (s : State) : List Bool :=
  [s.causeBay, s.causeFan, s.causeSensor, s.causeSlot, s.causeZone, s.budget.overcommitted]

/-- The enclosure fault state: on while any cause holds (R158). -/
def State.enclosureFault (s : State) : Bool := s.faultCauses.any id

/-! ## Outputs that follow the state at once -/

/-- PEN of a bay: asserted in RAMPING and CLOSED (section 1.4), and negated on every bay while RESET is low (R14). -/
def State.pen (s : State) (b : Bay) : Bool := !s.resetLow && (s.chan b).switch != .opened

/-- FPWM of a fan: its commanded duty (R120). -/
def State.fpwm (s : State) (f : Fan) : Nat := (s.cooling.fans.get f).duty

/-- ALERT: driven low (true) while the event queue holds a record, and released while RESET is held low (R192). -/
def State.alert (s : State) : Bool := !s.resetLow && !s.events.records.isEmpty

/-- The reply on the pair (R171), none while RESET is held low (R178). -/
def State.transmission (s : State) : Option (List Byte) :=
  match s.link.reply with
  | .sending frame _ => if s.resetLow then none else some frame
  | .none | .pending _ => none

/-- MDE: asserted while a reply is being sent (R171), and negated while RESET is held low (R178). -/
def State.mde (s : State) : Bool := s.transmission.isSome

/-- MTX in a bit time of the transmission, counted from the start bit of its first byte: the characters of the reply's bytes
back to back (R162, R171). It rests at the idle level between transmissions and while RESET is held low (R171, R178). -/
def State.mtx (s : State) (bitTime : Nat) : Bool :=
  match s.transmission with
  | some frame => (frame.flatMap characterBits).getD bitTime idleLevel
  | none => idleLevel

/-- LATN of a bay: the level driven at the last boundary (R155), off while RESET is held low (R160). -/
def State.latnOut (s : State) (b : Bay) : Bool := !s.resetLow && (s.lights.bays.get b).latn

/-- LACT of a bay: the level driven by R157, off while RESET is held low (R160). -/
def State.lactOut (s : State) (b : Bay) : Bool := !s.resetLow && (s.lights.bays.get b).lact

/-- ELF: the level driven at the last boundary (R158), off while RESET is held low (R160). -/
def State.elfOut (s : State) : Bool := !s.resetLow && s.lights.elf

/-- ELL: the level driven at the last boundary (R159), off while RESET is held low (R160). -/
def State.ellOut (s : State) : Bool := !s.resetLow && s.lights.ell

end Sys2Proof.Machine
end

