-- ==== Sys2Proof/Machine/CoolingTerms.lean ====
section
/-! DEFINITION. What the cooling controller forms from the state: curve values, air inputs, terms and targets of the
zones, and the thermal judgment (Chapter 7). -/

namespace Sys2Proof.Machine

/-- The quotient rounded up (00, Conventions: ceil). -/
def ceilDiv (a b : Nat) : Nat := (a + b - 1) / b

/-- A curve's value between two of its points (R130, third case). -/
def interpolate (p q : CurvePoint) (t : Int) : Nat :=
  p.duty + ceilDiv ((t - p.temp).toNat * (q.duty - p.duty)) (q.temp - p.temp).toNat

/-- The value of a curve at a temperature (R130). -/
def Curve.value (c : Curve) (t : Int) : Nat :=
  if t ≤ c.p1.temp then c.p1.duty
  else if c.p4.temp ≤ t then c.p4.duty
  else if t < c.p2.temp then interpolate c.p1 c.p2 t
  else if t < c.p3.temp then interpolate c.p2 c.p3 t
  else interpolate c.p3 c.p4 t

/-- A curve with each temperature clamped to -40..125 and each duty to 0..100 (R131). -/
def Curve.clamped (c : Curve) : Curve :=
  let f := fun p : CurvePoint => (⟨clampTemp p.temp, min 100 p.duty⟩ : CurvePoint)
  ⟨f c.p1, f c.p2, f c.p3, f c.p4⟩

/-- The check on a curve: temperatures strictly increasing, duties not decreasing (R131). -/
def Curve.ok (c : Curve) : Bool :=
  c.p1.temp < c.p2.temp ∧ c.p2.temp < c.p3.temp ∧ c.p3.temp < c.p4.temp ∧
    c.p1.duty ≤ c.p2.duty ∧ c.p2.duty ≤ c.p3.duty ∧ c.p3.duty ≤ c.p4.duty

/-- The larger of two readings, of which either may be absent. -/
def hotter : Option Int → Option Int → Option Int
  | none, y => y
  | x, none => x
  | some x, some y => some (max x y)

/-- A sensor's held value if it can be counted: a sensor in OK or HOLDING that has one (R127). -/
def SensorRecord.counted (k : SensorRecord) : Option Int :=
  match k.state with
  | .ok | .holding => k.held
  | .failed => none

/-- The zone's own sensor (R119). -/
def Zone.sensor (z : Zone) : Sensor := z.number.castLE (by decide)

/-- The zone's fans, 2z and 2z + 1 (R119). -/
def Zone.fans : Zone → List Fan
  | .a => [0, 1]
  | .b => [2, 3]
  | .c => [4, 5]

/-- The zone of a fan (R119). -/
def zoneOfFan (f : Fan) : Zone := if f.val < 2 then .a else if f.val < 4 then .b else .c

/-- The inlet sensor (Table 7-1). -/
def inletSensor : Sensor := 3

/-- The air input of a zone (R127). -/
def State.airInput (s : State) (z : Zone) : Option Int :=
  hotter (s.cooling.sensors.get z.sensor).counted (s.cooling.sensors.get inletSensor).counted

/-- The bays whose record holds the zone (R119), in order. -/
def State.baysOf (s : State) (z : Zone) : List Bay := allBays.filter fun b => s.zoneOf b == z

/-- A bay's report temperature if it is FRESH (Table 7-5). -/
def State.freshTemp (s : State) (b : Bay) : Option Int :=
  match s.cooling.reports.get b with
  | none => none
  | some r => if r.age.isSome then some r.temp else none

/-- The highest FRESH temperature among the zone's bays (R133). -/
def State.highestFresh (s : State) (z : Zone) : Option Int :=
  (s.baysOf z).foldl (fun h b => hotter h (s.freshTemp b)) none

/-- The air term of a zone (R133). -/
def State.airTerm (s : State) (z : Zone) : Nat :=
  match s.airInput z with
  | none => 100
  | some t => (s.cfg.airCurves.get z.number).value t

/-- The drive term of a zone (R133). -/
def State.driveTerm (s : State) (z : Zone) : Nat :=
  match s.highestFresh z with
  | some t => s.cfg.common.driveCurve.value t
  | none => if (s.baysOf z).any (fun b => (s.bay b).state.closedSwitch) then s.cfg.common.staleDuty else 0

/-- A bay's heat: its snapshot's heat_pct while it is RAMPING, SPINNING or GRANTED (R134, R52). -/
def BayRecord.heat (r : BayRecord) : Nat := if r.state.drawsInrush then r.snap.heat else 0

/-- The heat adder of a zone (R134). -/
def State.heatAdder (s : State) (z : Zone) : Nat := ((s.baysOf z).map fun b => (s.bay b).heat).sum

/-- Whether any fan of the zone is FAILED (R135). -/
def State.zoneFanFailed (s : State) (z : Zone) : Bool :=
  z.fans.any fun f => (s.cooling.fans.get f).state == .failed

/-- The target of a zone with a further heat figure added to its adder (R135, R136). -/
def State.targetWith (s : State) (z : Zone) (heat : Nat) : Nat :=
  let base := min 100 (max (s.airTerm z) (s.driveTerm z) + (s.heatAdder z + heat))
  let floored := max base s.cfg.common.floorDuty
  let raised := if s.zoneFanFailed z then max floored s.cfg.common.failoverDuty else floored
  if (s.cooling.sensors.get z.sensor).state = .failed then 100 else raised

/-- The target of a zone (R135). -/
def State.zoneTarget (s : State) (z : Zone) : Nat := s.targetWith z 0

/-- The sources of a zone with their warning and critical thresholds (R139): the air input when there is one, and the
highest FRESH drive temperature when there is one. -/
def State.thermalSources (s : State) (z : Zone) : List (Int × Int × Int) :=
  ((s.airInput z).map fun t => (t, s.cfg.common.airWarning, s.cfg.common.airCritical)).toList ++
    ((s.highestFresh z).map fun t => (t, s.cfg.common.driveWarning, s.cfg.common.driveCritical)).toList

/-- The thermal state judged from the sources (R139): a source reaches a threshold at or above it, and is clear of it at
or below it less 3. -/
def judgeThermal (sources : List (Int × Int × Int)) (now : Thermal) : Thermal :=
  let reachesWarning := sources.any fun x => decide (x.2.1 ≤ x.1)
  let reachesCritical := sources.any fun x => decide (x.2.2 ≤ x.1)
  let clearOfWarning := sources.all fun x => decide (x.1 ≤ x.2.1 - 3)
  let clearOfCritical := sources.all fun x => decide (x.1 ≤ x.2.2 - 3)
  if sources.isEmpty then now
  else
    match now with
    | .normal => if reachesCritical then .critical else if reachesWarning then .warning else .normal
    | .warning => if reachesCritical then .critical else if clearOfWarning then .normal else .warning
    | .critical => if clearOfCritical then (if clearOfWarning then .normal else .warning) else .critical

end Sys2Proof.Machine
end

