-- ==== Sys2Proof/Machine/Budget.lean ====
section
/-! DEFINITION. The arithmetic of the power budget (Chapter 4): raw and effective supply, fan prices, commitments and the
figures of a recomputation. -/

namespace Sys2Proof.Machine

/-- The capacities of the contributing slots (R53, R56). -/
def State.contributing (s : State) : List Nat :=
  (allSlots.filter fun k => (s.budget.slots.get k).condition == .contributing).map s.cfg.supply.capacities.get

/-- The raw supply of the contributing capacities under a policy (R56). -/
def rawSupply (policy : SupplyPolicy) (capacities : List Nat) : Nat :=
  match policy with
  | .shared => capacities.sum
  | .redundant => if 2 ≤ capacities.length then capacities.sum - capacities.foldl max 0 else capacities.sum

/-- The effective supply (R57). -/
def effectiveSupply (raw derate : Nat) : Nat := raw * derate / 100

/-- The priced current of a fan at a duty (R60, R61). -/
def FanView.priceAt (v : FanView) (duty : Nat) : Nat :=
  match v.state with
  | .running | .checking => v.idle + (v.full - v.idle) * duty ^ 3 / 1000000
  | .failed => v.full
  | .absent => 0

/-- The priced current of a fan at its commanded duty (R60). -/
def FanView.price (v : FanView) : Nat := v.priceAt v.duty

/-- The fan load F (R60). -/
def Budget.fanLoad (x : Budget) : Nat := (allFans.map fun f => (x.fanViews.get f).price).sum

/-- A bay's commitment, by its state and snapshot (R62). -/
def BayRecord.commitment (r : BayRecord) : Nat :=
  match r.state with
  | .ramping | .spinning | .granted => r.snap.inrush
  | .active => r.snap.steady
  | .standby | .wakeQueued => r.snap.standby
  | .empty | .seating | .idleOff | .queued | .poweringDown | .extracting | .faulted => 0

/-- The sum of the commitment table (R64). -/
def Budget.committed (x : Budget) : Nat := (allBays.map x.commitments.get).sum

/-- The figures formed from the slot conditions, parameters, fan views and commitment table as they stand (R64, R65). -/
def State.formFigures (s : State) : Figures :=
  let raw := rawSupply s.cfg.supply.policy s.contributing
  let effective := effectiveSupply raw s.cfg.supply.derate
  let fanLoad := s.budget.fanLoad
  let load := s.cfg.supply.base + fanLoad + s.budget.committed
  ⟨raw, effective, fanLoad, load, (effective : Int) - load⟩

/-- The fan term of a grant in a zone with a heat figure (R79, R61): the rise of each fan's price at the zone target with
that heat added, a fan that does not rise counting 0. -/
def State.fanTerm (s : State) (z : Zone) (heat : Nat) : Nat :=
  (z.fans.map fun f =>
    let v := s.budget.fanViews.get f
    v.priceAt (s.targetWith z heat) - v.price).sum

end Sys2Proof.Machine
end

