-- ==== Sys2Proof/Machine/Arbiter.lean ====
section
/-! DEFINITION. The admission arbiter (Chapter 5): the spin queue, prices, admission passes, triggers and grants. -/

namespace Sys2Proof.Machine

/-! ## Prices (R78 to R80) -/

/-- The values an entry is priced by: the current profile for POWER_ON, the snapshot for WAKE (R78, R52). -/
def State.pricedBy (s : State) (e : QueueEntry) : Profile :=
  match e.kind with
  | .powerOn => s.profileOf e.bay
  | .wake => (s.bay e.bay).snap

/-- The bay term of an entry (R78). -/
def State.bayTerm (s : State) (e : QueueEntry) : Nat :=
  match e.kind with
  | .powerOn => (s.pricedBy e).inrush
  | .wake => (s.pricedBy e).inrush - (s.pricedBy e).standby

/-- The price of an entry (R80). DEDUCED (notes/assumptions/10.md): the hypothetical target is R136's, the inputs as they
stand with the bay's heat added. -/
def State.price (s : State) (e : QueueEntry) : Nat := s.bayTerm e + s.fanTerm (s.zoneOf e.bay) (s.pricedBy e).heat

/-- The entry fits (R80). -/
def State.fits (s : State) (e : QueueEntry) : Bool := decide ((s.price e : Int) ≤ s.budget.figures.headroom)

/-! ## The pass (R83 to R86) -/

/-- An entry the walk skips: its zone is CRITICAL or its bay's failure count exceeds the retry limit (R83). -/
def State.skipped (s : State) (e : QueueEntry) : Bool :=
  (s.cooling.zones.get (s.zoneOf e.bay).number).thermal == .critical ||
    decide (s.cfg.admission.retryLimit < (s.bay e.bay).failCount)

/-- What a pass decides: its result, the head, and the granted entry (R84). -/
structure PassDecision where
  result : PassResult
  head : Option QueueEntry
  granted : Option QueueEntry

/-- The decision of a pass that is not blocked (R83, R84). -/
def State.passDecision (s : State) : PassDecision :=
  if s.cfg.admission.k ≤ s.arbiter.spinCount then ⟨.atLimit, none, none⟩
  else if s.arbiter.queue.isEmpty then ⟨.queueEmpty, none, none⟩
  else
    match s.arbiter.queue.filter (fun e => !s.skipped e) with
    | [] => ⟨.allSkipped, none, none⟩
    | head :: rest =>
      if s.fits head then ⟨.grantHead, some head, some head⟩
      else if head.bypass < s.cfg.admission.bypassLimit then
        match rest.find? s.fits with
        | some e => ⟨.grantBypass, some head, some e⟩
        | none => ⟨.headWaits, some head, none⟩
      else ⟨.bypassSpent, some head, none⟩

/-- The last-pass record of a decision (R85). -/
def State.passRecord (s : State) (d : PassDecision) : PassRecord where
  time := s.time
  result := d.result
  head := d.head.map fun e => (e.bay, s.price e)
  granted := d.granted.map fun e => (e.bay, s.price e)
  headroom := s.budget.figures.headroom

/-- The values a grant carries: the priced inrush and heat for POWER_ON, none for WAKE (R86, R95). -/
def State.pricedValues (s : State) (e : QueueEntry) : Option (Nat × Nat) :=
  match e.kind with
  | .powerOn => some ((s.pricedBy e).inrush, (s.pricedBy e).heat)
  | .wake => none

/-- The grant that is sent for an entry (R86). -/
def State.grantOf (s : State) (e : QueueEntry) : Grant := ⟨e.bay, e.kind, s.pricedValues e, false⟩

/-- The grant record of a decision (R86): the bypassed head for GRANT_BYPASS. -/
def PassDecision.record (d : PassDecision) : Option GrantRecord :=
  d.granted.map fun e => ⟨e.bay, e.kind, if d.result = .grantBypass then d.head.map QueueEntry.bay else none, false⟩

/-- The arbiter after a pass: the record replaced, the mark clear, and the grant, if any, sent and awaiting (R82, R85,
R86). -/
def State.passed (s : State) : Arbiter :=
  let d := s.passDecision
  let a := { s.arbiter with pendingMark := false, lastPass := some (s.passRecord d) }
  match d.granted with
  | none => a
  | some e => { a with grantRecord := d.record, grants := a.grants ++ [s.grantOf e] }

/-! ## Blocking and triggers (R81, R82) -/

/-- A pass is blocked (R82): the stagger timer runs, a bay is in RAMPING, the start-up hold is in force, or a grant awaits
its answer. -/
def State.passBlocked (s : State) : Bool :=
  s.arbiter.stagger.isSome || allBays.any (fun b => (s.bay b).state == .ramping) || s.arbiter.startUpHold ||
    s.arbiter.grantRecord.isSome

/-- A trigger of an admission pass is taken (R81, R82): blocked, it sets the pending mark; unblocked, one pass runs and
the mark is left clear. DEDUCED (notes/assumptions/8.md): the end of a blocking condition, itself a trigger, sets the mark
while another condition holds. -/
def State.trigger (s : State) : State :=
  s.putArbiter (if s.passBlocked then { s.arbiter with pendingMark := true } else s.passed)

/-- A trigger taken when a condition holds. -/
def State.triggerIf (s : State) (c : Bool) : State := if c then s.trigger else s

/-! ## The queue (R74, R75) -/

/-- A new entry placed after the entries of its own and lower class numbers, ahead of the higher (R74). -/
def placeEntry (q : List QueueEntry) (e : QueueEntry) : List QueueEntry :=
  q.takeWhile (fun x => decide (x.cls ≤ e.cls)) ++ e :: q.dropWhile (fun x => decide (x.cls ≤ e.cls))

/-- A join with a join time (R22, R74, R99), with the bay's class at that moment; it is a trigger (R75). -/
def State.joinAt (s : State) (b : Bay) (k : EntryKind) (time : EventTime) : State :=
  (s.putArbiter { s.arbiter with
    queue := placeEntry s.arbiter.queue ⟨b, k, (s.baySettings b).cls, time, 0⟩ }).trigger

/-- A join request (R22): the join time is the event time. -/
def State.join (s : State) (b : Bay) (k : EntryKind) : State := s.joinAt b k s.time

/-- Whether the queue holds an entry of the bay. -/
def Arbiter.holds (a : Arbiter) (b : Bay) : Bool := a.queue.any (fun e => e.bay == b)

/-- The queue without the entry of a bay. -/
def withoutEntry (q : List QueueEntry) (b : Bay) : List QueueEntry := q.filter (fun e => e.bay != b)

/-- The grant record once a bay's entry is removed (R89): the bypassed head is charged no more (R92), the granted bay's
answer will be a decline. -/
def GrantRecord.without (g : GrantRecord) (b : Bay) : GrantRecord :=
  { g with bypassed := g.bypassed.filter fun h => h != b, removed := g.removed || g.bay == b }

/-- The arbiter without the entry of a bay, which a removal request takes out (R75, R89). -/
def Arbiter.without (a : Arbiter) (b : Bay) : Arbiter :=
  { a with queue := withoutEntry a.queue b, grantRecord := a.grantRecord.map fun g => g.without b }

/-- A removal request (R75): the entry leaves, which is a trigger; without an entry nothing is done. -/
def State.removeEntry (s : State) (b : Bay) : State :=
  if s.arbiter.holds b then (s.putArbiter (s.arbiter.without b)).trigger else s

/-- A removal request made only if a condition holds (R22). -/
def State.removeEntryIf (s : State) (c : Bool) (b : Bay) : State := if c then s.removeEntry b else s

/-! ## Grants answered (R87, R88) -/

/-- The bypassed head's bypass count raised by 1, if it still has an entry (R87, R92). -/
def chargeBypass (q : List QueueEntry) (head : Option Bay) : List QueueEntry :=
  match head with
  | none => q
  | some h => q.map fun e => if e.bay = h then { e with bypass := e.bypass + 1 } else e

/-- The arbiter takes a grant as carried out (R87). -/
def State.grantCarriedOut (s : State) (g : GrantRecord) : State :=
  (s.putArbiter { s.arbiter with
    queue := chargeBypass (withoutEntry s.arbiter.queue g.bay) g.bypassed
    stagger := if s.cfg.admission.stagger = 0 then none else some s.cfg.admission.stagger
    grantRecord := none }).trigger

/-- The arbiter takes a decline (R88): one of a grant sent before a warm restart is ignored. -/
def State.declineTaken (s : State) (d : Decline) : State :=
  if d.stale then s else (s.putArbiter { s.arbiter with grantRecord := none }).trigger

/-- The state notice in which a granted bay enters the state its grant is for (R87). -/
def grantAnswered (g : GrantRecord) (b : Bay) (new : BayState) : Bool :=
  g.bay == b &&
    match g.kind with
    | .powerOn => new == .ramping
    | .wake => new == .granted

end Sys2Proof.Machine
end

