-- ==== Sys2Proof/Machine/Recompute.lean ====
section
/-! DEFINITION. What the power budget unit does at a notice: the recomputation with its budget state, revocation step and
triggers (R65 to R68), fan notices (R59) and bay state notices (R62, R63, R69, with the arbiter's part of them). -/

namespace Sys2Proof.Machine

/-- An event of the budget: no subject, no detail, the headroom as value (R66). -/
def budgetEvent (k : EventKind) (h : Int) : Event := ⟨k, .none, none, some h⟩

/-- The new figures of a recomputation are formed and kept. -/
def State.withFigures (s : State) : State := s.putBudget { s.budget with figures := s.formFigures }

/-- Step 1: the budget state follows the headroom, with one event per change (R66). -/
def State.budgetState (s : State) : State :=
  let h := s.budget.figures.headroom
  if h < 0 ∧ s.budget.overcommitted = false then
    (s.putBudget { s.budget with overcommitted := true }).raise (budgetEvent .budgetOvercommit h)
  else if 0 ≤ h ∧ s.budget.overcommitted = true then
    (s.putBudget { s.budget with overcommitted := false }).raise (budgetEvent .budgetRestored h)
  else s

/-- Step 2: the revocation step (R68): while OVERCOMMITTED, with none outstanding, the newest grant is asked back. -/
def State.revocationStep (s : State) : State :=
  if s.budget.overcommitted = true ∧ s.budget.outstanding = none then
    match s.budget.grantOrder.getLast? with
    | none => s
    | some b =>
      s.putBudget { s.budget with
        outstanding := some b
        revocations := s.budget.revocations ++ [⟨b, s.budget.figures.headroom, false⟩] }
  else s

/-- Step 3: a fall of L and a rise of S_eff against the previous recomputation are each a trigger (R65). DEDUCED
(notes/assumptions/9.md): both in one recomputation are two triggers. -/
def State.budgetTriggers (s : State) (before : Figures) : State :=
  (s.triggerIf (decide (s.budget.figures.load < before.load))).triggerIf
    (decide (before.effective < s.budget.figures.effective))

/-- One recomputation, taken whole (R65). -/
def State.recompute (s : State) : State :=
  s.withFigures.budgetState.revocationStep.budgetTriggers s.budget.figures

/-- A recomputation for a change of a supply line: PSU_CHANGE carries the new effective supply and is queued before the
budget's own events (R54). -/
def State.recomputeForSlot (s : State) (k : Slot) : State :=
  let s1 := s.withFigures
  ((s1.raise ⟨.psuChange, .slot k, some (s1.budget.slots.get k).condition.byte, some s1.budget.figures.effective⟩).budgetState
    ).revocationStep.budgetTriggers s.budget.figures

/-- The fan view a notice carries: state and commanded duty, idle_mA and full_mA (R59). -/
def State.fanView (s : State) (f : Fan) : FanView :=
  ⟨(s.cooling.fans.get f).state, (s.cooling.fans.get f).duty, (s.cfg.fans.get f).idle, (s.cfg.fans.get f).full⟩

/-- A fan notice: the view is replaced, and one recomputation follows (R59). -/
def State.fanNotice (s : State) (f : Fan) : State :=
  (s.putBudget { s.budget with fanViews := Table.put s.budget.fanViews f (s.fanView f) }).recompute

/-- The commitment table, grant order list and outstanding mark after a bay's state notice (R62, R63, R69). -/
def Budget.noticed (x : Budget) (b : Bay) (old new : BayState) (commitment : Nat) : Budget :=
  { x with
    commitments := Table.put x.commitments b commitment
    grantOrder :=
      if new = .granted ∧ old ≠ .granted then x.grantOrder ++ [b]
      else if old = .granted ∧ new ≠ .granted then x.grantOrder.filter (fun c => c != b)
      else x.grantOrder
    outstanding :=
      if old = .granted ∧ new ≠ .granted ∧ x.outstanding = some b then none else x.outstanding }

/-- The spin count after a bay's state notice (R91). -/
def spinCountAfter (n : Nat) (old new : BayState) : Nat :=
  if new.drawsInrush ∧ ¬ old.drawsInrush then n + 1
  else if old.drawsInrush ∧ ¬ new.drawsInrush then n - 1
  else n

/-- The arbiter takes a granted bay's state notice as the grant carried out (R87). -/
def State.answerGrant (s : State) (b : Bay) (new : BayState) : State :=
  match s.arbiter.grantRecord with
  | none => s
  | some g => if grantAnswered g b new then s.grantCarriedOut g else s

/-- The power budget unit, the arbiter within it, takes a bay's state notice: the commitment and the lists, the spin
count, one recomputation (R62, R65), then the answer to a grant (R87) and the trigger of a bay's leaving RAMPING, SPINNING
or GRANTED (R81). -/
def State.budgetNotice (s : State) (b : Bay) (old new : BayState) : State :=
  let s1 := s.putBudget (s.budget.noticed b old new (s.bay b).commitment)
  let s2 := s1.putArbiter { s1.arbiter with spinCount := spinCountAfter s1.arbiter.spinCount old new }
  (s2.recompute.answerGrant b new).triggerIf (old.drawsInrush && decide (old ≠ new))

end Sys2Proof.Machine
end

