-- ==== Sys2Proof/Machine/CoolingOps.lean ====
section
/-! DEFINITION. What the cooling controller does when an input changes: targets and zone duties (R135, R137, R138), fan
moves with their notices (R120), thermal states (R139, R140). -/

namespace Sys2Proof.Machine

/-- A fan record replaced. -/
def State.putFan (s : State) (f : Fan) (r : FanRecord) : State :=
  s.putCooling { s.cooling with fans := Table.put s.cooling.fans f r }

/-- A fan record. -/
def State.fan (s : State) (f : Fan) : FanRecord := s.cooling.fans.get f

/-- A zone record replaced. -/
def State.putZone (s : State) (z : Zone) (r : ZoneRecord) : State :=
  s.putCooling { s.cooling with zones := Table.put s.cooling.zones z.number r }

/-- A zone record. -/
def State.zone (s : State) (z : Zone) : ZoneRecord := s.cooling.zones.get z.number

/-- A RUNNING fan is commanded the zone duty, and its change goes to the budget unit by its fan notice (R138). Fans in
other states are not moved. -/
def State.commandFan (s : State) (duty : Nat) (f : Fan) : State :=
  if (s.fan f).state = .running ∧ (s.fan f).duty ≠ duty then
    (s.putFan f { s.fan f with duty := duty }).fanNotice f
  else s

/-- A zone duty is set, and the zone's RUNNING fans follow it (R138, R120). DESIGN CHOICE (notes/assumptions/36.md): the
lower-numbered fan first. -/
def State.setZoneDuty (s : State) (z : Zone) (duty : Nat) : State :=
  z.fans.foldl (fun t f => t.commandFan duty f) (s.putZone z { s.zone z with duty := duty })

/-- The duty a zone is given when its target is recomputed (R137): up at once; down by at most 5 points, at an evaluation
only; held while the fan check runs. -/
def dutyAfter (checking atEvaluation : Bool) (target duty : Nat) : Nat :=
  if checking then duty
  else if duty < target then target
  else if atEvaluation then max target (duty - 5)
  else duty

/-- A zone's target is recomputed and its duty handled (R135, R137). -/
def State.retarget (s : State) (atEvaluation : Bool) (z : Zone) : State :=
  let duty := dutyAfter s.cooling.fanCheck.isSome atEvaluation (s.zoneTarget z) (s.zone z).duty
  if duty = (s.zone z).duty then s else s.setZoneDuty z duty

/-- A zone's thermal state is judged: a change raises THERMAL, and a leaving of CRITICAL is a trigger (R139, R140). -/
def State.judgeZone (s : State) (z : Zone) : State :=
  let now := (s.zone z).thermal
  let next := judgeThermal (s.thermalSources z) now
  if next = now then s
  else
    ((s.putZone z { s.zone z with thermal := next }).raise
      ⟨.thermal, .zone z, some next.byte, s.airInput z⟩).triggerIf (decide (now = .critical))

/-- The target and the thermal state of a zone are recomputed after a change of an input. -/
def State.reviewZone (s : State) (z : Zone) : State := (s.retarget false z).judgeZone z

/-- The targets and thermal states of several zones, in order. DESIGN CHOICE (notes/assumptions/36.md): where one event
reviews several zones the manual gives no order; each list of zones is A, B, C, but for a zone notice, and a zone's target is
formed before its thermal state is judged. -/
def State.reviewZones (s : State) (zs : List Zone) : State := zs.foldl State.reviewZone s

/-- The cooling controller takes a bay's state notice: the heat adder and drive term of its zone (R17, R134, R135). -/
def State.coolingNotice (s : State) (b : Bay) : State := s.retarget false (s.zoneOf b)

/-- A zone notice (R34, R119): the targets and thermal states of the old and the new zone. DESIGN CHOICE
(notes/assumptions/36.md): the old zone first; the manual gives no order. -/
def State.zoneNotice (s : State) (old new : Zone) : State := s.reviewZones [old, new]

/-- A fan moves to FAILED: commanded 100, both counts 0 (R122, R142). -/
def FanRecord.fail (r : FanRecord) : FanRecord := { r with state := .failed, duty := 100, low := 0, good := 0 }

/-- A fan moves to RUNNING at a zone duty with both counts 0 (R123, R142, R124). -/
def FanRecord.run (r : FanRecord) (duty : Nat) : FanRecord := { r with state := .running, duty := duty, low := 0, good := 0 }

/-- A fan becomes ABSENT: commanded 0, window abandoned, counts and last judgment cleared (R121, R124). -/
def FanRecord.remove (r : FanRecord) : FanRecord :=
  { r with state := .absent, duty := 0, low := 0, good := 0, judgment := none, window := none }

/-- A window starting now. -/
def TachWindow.fresh (length : Nat) : TachWindow := ⟨length, length, 0⟩

/-- A fan leaves ABSENT (R124, R141): CHECKING at 100 while the fan check runs, else RUNNING at the zone duty, with a fresh
window (R121). -/
def FanRecord.install (r : FanRecord) (checking : Bool) (duty windowMs : Nat) : FanRecord :=
  let r' := { r with window := some (TachWindow.fresh windowMs) }
  if checking then { r' with state := .checking, duty := 100 } else r'.run duty

/-- The fan record after an absent setting is written (R124). -/
def State.fanAfterSetting (s : State) (f : Fan) (absent : Bool) : FanRecord :=
  if absent then (if (s.fan f).state = .absent then s.fan f else (s.fan f).remove)
  else if (s.fan f).state = .absent then
    (s.fan f).install s.cooling.fanCheck.isSome (s.zone (zoneOfFan f)).duty s.cfg.common.windowMs
  else s.fan f

end Sys2Proof.Machine
end

