-- ==== Sys2Proof/Machine/Notices.lean ====
section
/-! DEFINITION. The light controller's part of a notice, and the state notice of R17 to the three blocks. -/

namespace Sys2Proof.Machine

/-- The lights of one bay replaced. -/
def State.putBayLights (s : State) (b : Bay) (l : BayLights) : State :=
  s.putLights { s.lights with bays := Table.put s.lights.bays b l }

/-- The lights of one bay. -/
def State.bayLights (s : State) (b : Bay) : BayLights := s.lights.bays.get b

/-- One condition of a bay set or cleared (R146). -/
def State.setCond (s : State) (b : Bay) (c : Fin 9) (v : Bool) : State :=
  s.putBayLights b { s.bayLights b with conditions := Table.put (s.bayLights b).conditions c v }

/-- The ACT light of a bay driven anew (R157). -/
def State.driveAct (s : State) (b : Bay) : State := s.putBayLights b { s.bayLights b with lact := s.actLevel b }

/-- SPIN_WAIT is set in QUEUED, WAKE_QUEUED and FAULTED (R148). -/
def BayState.spinWaits : BayState → Bool
  | .queued | .wakeQueued | .faulted => true
  | .empty | .seating | .idleOff | .ramping | .spinning | .active | .standby | .granted | .poweringDown
  | .extracting => false

/-- The light controller takes a bay's state notice: SPIN_WAIT (R148) and the ACT light (R157). -/
def State.lightNotice (s : State) (b : Bay) : State := (s.setCond b condSpinWait (s.bay b).state.spinWaits).driveAct b

/-- The state notice of R17. DESIGN CHOICE (notes/assumptions/6.md): the three blocks act on it independently, and the
model takes the budget unit first, then the cooling controller, then the light controller. -/
def State.stateNotice (s : State) (b : Bay) (old new : BayState) : State :=
  ((s.budgetNotice b old new).coolingNotice b).lightNotice b

/-- The record of a bay that changes state (R17): the timer of the state left is discarded and that of the state entered
started; a state with an open switch clears the snapshot (R16); leaving SEATING clears the partial-reported mark (R20). -/
def BayRecord.enter (r : BayRecord) (new : BayState) (timer : Option Nat) : BayRecord :=
  { r with
    state := new
    timer := timer
    settling := false
    partialReported := false
    snapshot := if new.closedSwitch then r.snapshot else none }

/-- A bay changes state: the record, the bay controller's own events, then the state notice (R17; the order of the events
against the other blocks' is a DESIGN CHOICE, notes/assumptions/6.md). -/
def State.move (s : State) (b : Bay) (new : BayState) (timer : Option Nat) (events : List Event) : State :=
  ((s.onBay b (fun r => r.enter new timer)).raiseAll events).stateNotice b (s.bay b).state new

end Sys2Proof.Machine
end

