-- ==== Sys2Proof/Machine/Profiles.lean ====
section
/-! DEFINITION. The profile selector (Chapter 3): matching, selection and re-selection. -/

namespace Sys2Proof.Machine

/-- A rule names a bay: in each place of the mask the bay number agrees with the base (R46). -/
def ProfileRule.names (r : ProfileRule) (b : Bay) : Bool := b.val &&& r.mask == r.base &&& r.mask

/-- A rule matches a bay with a carrier code (R46). -/
def ProfileRule.matchesBay (r : ProfileRule) (b : Bay) (code : Option Code) : Bool :=
  match code with
  | none => false
  | some c => r.enabled && r.names b && r.carriers.getLsbD c.val

/-- The profile indexes of the rules that match (R47). -/
def Settings.matching (cfg : Settings) (b : Bay) (code : Option Code) : List (Fin 8) :=
  (cfg.rules.toList.filter fun r => r.matchesBay b code).map ProfileRule.profile

/-- The index a selection gives: the one matching rule's, else 0 (R47). -/
def selectedIndex (found : List (Fin 8)) : Fin 8 :=
  match found with
  | [i] => i
  | _ => 0

/-- The events of a selection: RULE_CONFLICT when two or more rules match (R47). -/
def selectionEvents (b : Bay) (code : Option Code) (found : List (Fin 8)) : List Event :=
  if 2 ≤ found.length then
    [bayEvent .ruleConflict b (code.map fun c => BitVec.ofNat 8 c.val) (some found.length)]
  else []

/-- One selection for a bay: its index stored, its conflict raised (R47). -/
def State.select (s : State) (b : Bay) : State :=
  let found := s.cfg.matching b (s.bay b).code
  (s.onBay b (fun r => { r with profileIndex := some (selectedIndex found) })).raiseAll
    (selectionEvents b (s.bay b).code found)

/-- Re-selection over the bays in some of the states, in bay-number order (R49, R40). -/
def State.reselect (s : State) (states : List BayState) : State :=
  allBays.foldl (fun t b => if (t.bay b).state ∈ states then t.select b else t) s

end Sys2Proof.Machine
end

