-- ==== Sys2Proof/Machine/BayControl.lean ====
section
/-! DEFINITION. The bay controller's operations on one bay (Chapters 2 and 6), shared by its commands and requests. -/

namespace Sys2Proof.Machine

/-! ## Quarantine (R114, R116) and the removal-prepared flag (R32) -/

/-- The reason of a spin outcome that is a failure (R114). -/
def reasonOf : Option SpinOutcome → Option QuarantineReason
  | some .trip => some .trip
  | some .noSpin => some .noSpin
  | some .noSettle => some .noSettle
  | some .success | some .aborted | some .extracted | none => none

/-- The reason a quarantine entry is given: the latest outcome, else the previous, else LIMIT_LOWERED (R114). -/
def BayRecord.reason (r : BayRecord) : QuarantineReason :=
  ((reasonOf r.latest).or (reasonOf r.previous)).getD .limitLowered

/-- A quarantine entry is made for a bay (R114). -/
def State.quarantineBay (s : State) (b : Bay) : State :=
  let r := s.bay b
  ((s.putQuarantine (s.quarantine ++ [⟨b, r.code, r.reason, r.failCount, s.time⟩])).setCond b condQuarantined true).raise
    (bayEvent .bayQuarantined b (some r.reason.byte) (some r.failCount))

/-- A bay's quarantine entry, if one exists, is removed, and its condition cleared (R116). -/
def State.unquarantine (s : State) (b : Bay) : State :=
  if s.isQuarantined b then
    (s.putQuarantine (s.quarantine.filter (fun e => e.bay != b))).setCond b condQuarantined false
  else s

/-- The removal-prepared flag is set or cleared, and the light controller told (R32, R148). -/
def State.setRemoval (s : State) (b : Bay) (v : Bool) : State :=
  (s.onBay b (fun r => { r with removalPrepared := v })).setCond b condRemoveOk v

/-! ## Queue and spin (R22, R25) -/

/-- A bay enters QUEUED and joins the spin queue (R22). -/
def State.enterQueued (s : State) (b : Bay) : State := (s.move b .queued none []).join b .powerOn

/-- A bay enters SPINNING: PEAK_RESET, no watch left armed, and the spin timer at the snapshot spin_ms (R25, R28, R106).
DEDUCED (notes/assumptions/34.md): R107's "no watch left armed" is kept by DISARM. -/
def State.enterSpinning (s : State) (b : Bay) (events : List Event) : State :=
  (s.toChan b (fun c => c.peakReset.disarm .both)).move b .spinning (some (s.bay b).snap.spinMs) events

/-- Duration of the backoff at a failure count (R110). -/
def backoff (failCount : Nat) : Nat := 5000 * failCount

/-! ## Entry to EMPTY and extraction (R35, R37) -/

/-- The conditions cleared as a bay enters EMPTY: FAILED, PREDICTED, REBUILD, HOT_SPARE and the POWER_FAULT latch
(R151), and REMOVE_OK with its flag (R37). -/
def clearedAtEmpty : List (Fin 9) := [1, 2, 3, 4, 5, 8]

/-- The cooling controller discards a bay's drive report and recomputes its zone (R37, R135, R139). -/
def State.discardReport (s : State) (b : Bay) : State :=
  match s.cooling.reports.get b with
  | none => s
  | some _ => (s.putCooling { s.cooling with reports := Table.put s.cooling.reports b none }).reviewZone (s.zoneOf b)

/-- BAY_REMOVED, only if the carrier code is present, with the flag as its detail (R37). -/
def removedEvents (r : BayRecord) (b : Bay) : List Event :=
  if r.code.isSome then [bayEvent .bayRemoved b (some (if r.removalPrepared then 1 else 0)) none] else []

/-- A bay enters EMPTY (R37). -/
def State.enterEmpty (s : State) (b : Bay) : State :=
  let s1 := s.move b .empty none (removedEvents (s.bay b) b)
  let s2 := s1.onBay b (fun r => { r with code := none, profileIndex := none, failCount := 0, removalPrepared := false })
  let s3 := (s2.unquarantine b)
  (clearedAtEmpty.foldl (fun t c => t.setCond b c false) s3).discardReport b

/-- An extraction (R35): OPEN, the outcome, the queue entry, EXTRACTING for 2,000 ms. -/
def State.extract (s : State) (b : Bay) : State :=
  let old := (s.bay b).state
  (((s.toChan b Channel.powerOff).onBay b (fun r => r.recordIfSpinning .extracted)).removeEntryIf
    (old == .queued || old == .wakeQueued) b).move b .extracting (some 2000) []

/-! ## Ends of a spin (R102, R103) and trips (R104, R105) -/

/-- The spin succeeds (R103), with no watch left armed in ACTIVE (R107; DISARM, notes/assumptions/34.md). -/
def State.spinSucceeds (s : State) (b : Bay) : State :=
  ((s.toChan b (fun c => c.disarm .both)).onBay b (fun r => r.record .success)).move b .active none
    [bayEvent .bayPowered b none (some (s.chan b).peak)]

/-- One failure more (R109). -/
def BayRecord.failed (r : BayRecord) (o : SpinOutcome) : BayRecord := { r.record o with failCount := r.failCount + 1 }

/-- The spin fails with an outcome and the reading that failed the check (R102). -/
def State.spinFails (s : State) (b : Bay) (o : SpinOutcome) (reading : Nat) : State :=
  ((s.toChan b Channel.powerOff).onBay b (fun r => r.failed o)).move b .faulted
    (some (backoff ((s.bay b).failCount + 1))) [bayEvent .spinFailed b (some o.byte) (some reading)]

/-- POWER_FAULT: the state the report was taken in as detail, the trip current as value (R104, R105). -/
def powerFaultEvent (b : Bay) (st : BayState) (mA : Nat) : Event :=
  bayEvent .powerFault b (some st.byte) (some mA)

/-- A TRIP report in a closed-switch state (R104). No OPEN is sent, and no watch is left armed (DEDUCED,
notes/assumptions/34.md: by DISARM). -/
def State.tripTaken (s : State) (b : Bay) (mA : Nat) : State :=
  let old := (s.bay b).state
  ((((s.toChan b (fun c => c.disarm .both)).onBay b (fun r => r.failed .trip)).removeEntryIf (old == .wakeQueued)
    b).setCond b condPowerFault true).move b
    .faulted (some (backoff ((s.bay b).failCount + 1))) [powerFaultEvent b old mA]

/-- A TRIP report taken late (R105): the latch and the event alone. -/
def State.tripTakenLate (s : State) (b : Bay) (mA : Nat) : State :=
  (s.setCond b condPowerFault true).raise (powerFaultEvent b (s.bay b).state mA)

/-! ## Power-off (R30, R31) -/

/-- POWER_OFF in a closed-switch state (R30): OPEN, ABORTED if a spin is in flight, the queue entry, POWERING_DOWN for
500 ms. -/
def State.powerDown (s : State) (b : Bay) : State :=
  let old := (s.bay b).state
  (((s.toChan b Channel.powerOff).onBay b (fun r => r.recordIfSpinning .aborted)).removeEntryIf
    (old == .wakeQueued) b).move b .poweringDown (some 500) []

/-- A QUEUED bay leaves the queue for IDLE_OFF (R30). -/
def State.dequeue (s : State) (b : Bay) : State := (s.removeEntry b).move b .idleOff none []

end Sys2Proof.Machine
end

