-- ==== Sys2Proof/Machine/BayReports.lean ====
section
/-! DEFINITION. The reports the bay controller takes from a channel (R1): CONTACT_CHANGE, SEAT_STABLE, RAMP_END, TRIP,
RISE_CROSS and FALL_CROSS. A command takes the bay's oldest report when it is of the command's kind; when it is of another
kind, or none is on its way, nothing is taken (notes/assumptions/3.md). -/

namespace Sys2Proof.Machine

/-- CONTACT_CHANGE in SEATING (R19). -/
def State.contactInSeating (s : State) (b : Bay) (early seated : Bool) : State :=
  if !early then s.enterEmpty b
  else if seated then s.onBay b (fun r => { r with timer := none })
  else s.onBay b (fun r => { r with timer := if r.partialReported then none else some 10000 })

/-- CONTACT_CHANGE in EXTRACTING (R36). -/
def State.contactInExtracting (s : State) (b : Bay) (early late seated : Bool) : State :=
  if !early && !late then s.enterEmpty b
  else if seated then s.move b .seating none [bayEvent .bayDisturbed b none none]
  else s

/-- CONTACT_CHANGE in EMPTY (R18). -/
def State.contactInEmpty (s : State) (b : Bay) (early seated : Bool) : State :=
  if early then s.move b .seating (if seated then none else some 10000) [] else s

/-- CONTACT_CHANGE in the other ten states (R35). -/
def State.contactInService (s : State) (b : Bay) (early late seated : Bool) : State :=
  if seated then s
  else if !early && !late then (s.extract b).enterEmpty b
  else s.extract b

/-- A CONTACT_CHANGE report is taken (R18, R19, R35, R36). -/
def State.contactTaken (s : State) (b : Bay) (early late seated : Bool) : State :=
  match (s.bay b).state with
  | .empty => s.contactInEmpty b early seated
  | .seating => s.contactInSeating b early seated
  | .extracting => s.contactInExtracting b early late seated
  | .idleOff | .queued | .ramping | .spinning | .active | .standby | .wakeQueued | .granted | .poweringDown
  | .faulted => s.contactInService b early late seated

/-- CONTACT_CHANGE (R35). -/
def execContactChange (b : Bay) (s : State) : Host.Outcome State Fault Refusal :=
  .next (match s.takeReport b with
    | some (.contactChange early late seated _, t) => t.contactTaken b early late seated
    | _ => s)

/-- BAY_INSERTED (R21): the carrier code as detail, the profile index as value. -/
def insertedEvent (b : Bay) (code : Code) (index : Fin 8) : Event :=
  bayEvent .bayInserted b (some (BitVec.ofNat 8 code.val)) (some index.val)

/-- An AUTO bay goes on to QUEUED when its flag is clear and it has no quarantine entry (R21). -/
def State.mayQueue (s : State) (b : Bay) : Bool :=
  (s.baySettings b).policy == .auto && !(s.bay b).removalPrepared && !s.isQuarantined b

/-- A SEAT_STABLE report taken in SEATING completes the seating (R21). -/
def State.seatCompleted (s : State) (b : Bay) (code : Code) : State :=
  let s1 := (s.onBay b (fun r => { r with code := some code })).select b
  let s2 := s1.move b .idleOff none [insertedEvent b code ((s1.bay b).profileIndex.getD 0)]
  if s2.mayQueue b then s2.enterQueued b else s2

/-- A SEAT_STABLE report is taken; in any state other than SEATING it is ignored (R21). -/
def State.seatStableTaken (s : State) (b : Bay) (code : Code) : State :=
  if (s.bay b).state = .seating then s.seatCompleted b code else s

/-- SEAT_STABLE (R21). -/
def execSeatStable (b : Bay) (s : State) : Host.Outcome State Fault Refusal :=
  .next (match s.takeReport b with
    | some (.seatStable code, t) => t.seatStableTaken b code
    | _ => s)

/-- A RAMP_END report is taken; outside RAMPING it is ignored (R25). -/
def State.rampEndTaken (s : State) (b : Bay) : State :=
  if (s.bay b).state = .ramping then s.enterSpinning b [] else s

/-- RAMP_END (R25). -/
def execRampEnd (b : Bay) (s : State) : Host.Outcome State Fault Refusal :=
  .next (match s.takeReport b with
    | some (.rampEnd, t) => t.rampEndTaken b
    | _ => s)

/-- A TRIP report is taken: in a closed-switch state by R104, in six others by R105, and ignored in EMPTY. -/
def State.tripReport (s : State) (b : Bay) (mA : Nat) : State :=
  match (s.bay b).state with
  | .ramping | .spinning | .active | .standby | .wakeQueued | .granted => s.tripTaken b mA
  | .poweringDown | .extracting | .faulted | .idleOff | .queued | .seating => s.tripTakenLate b mA
  | .empty => s

/-- TRIP (R104). -/
def execTrip (b : Bay) (s : State) : Host.Outcome State Fault Refusal :=
  .next (match s.takeReport b with
    | some (.trip mA, t) => t.tripReport b mA
    | _ => s)

/-- UNSCHEDULED_SPIN (R106): the state left as detail, the live current as value. -/
def unscheduledEvent (b : Bay) (st : BayState) (mA : Nat) : Event :=
  bayEvent .unscheduledSpin b (some st.byte) (some mA)

/-- A RISE_CROSS report is taken: the granted spin in GRANTED (R28), an unscheduled spin in STANDBY and WAKE_QUEUED
(R106), ignored elsewhere. -/
def State.riseTaken (s : State) (b : Bay) (mA : Nat) : State :=
  match (s.bay b).state with
  | .granted => s.enterSpinning b []
  | .standby => s.enterSpinning b [unscheduledEvent b .standby mA]
  | .wakeQueued => (s.removeEntry b).enterSpinning b [unscheduledEvent b .wakeQueued mA]
  | .empty | .seating | .idleOff | .queued | .ramping | .spinning | .active | .poweringDown | .extracting
  | .faulted => s

/-- RISE_CROSS (R106). -/
def execRiseCross (b : Bay) (s : State) : Host.Outcome State Fault Refusal :=
  .next (match s.takeReport b with
    | some (.riseCross mA, t) => t.riseTaken b mA
    | _ => s)

/-- A FALL_CROSS report is taken: during the settle extension the spin succeeds, elsewhere it is ignored (R101). -/
def State.fallTaken (s : State) (b : Bay) : State :=
  if (s.bay b).state = .spinning ∧ (s.bay b).settling = true then s.spinSucceeds b else s

/-- FALL_CROSS (R101). -/
def execFallCross (b : Bay) (s : State) : Host.Outcome State Fault Refusal :=
  .next (match s.takeReport b with
    | some (.fallCross _, t) => t.fallTaken b
    | _ => s)

end Sys2Proof.Machine
end

