-- ==== Sys2Proof/Machine/BayTimers.lean ====
section
/-! DEFINITION. The bay controller's timers (Table 2-2). An expiry command is the word that the timer has run out
(notes/assumptions/2.md); in a state whose timer does not run the expiry has been discarded with it (R17), and nothing is
changed. -/

namespace Sys2Proof.Machine

/-- The bay is in a state with its state timer running. -/
def State.timing (s : State) (b : Bay) (st : BayState) : Bool :=
  (s.bay b).state == st && (s.bay b).timer.isSome

/-- PARTIAL_TIMER_EXPIRY (R20). -/
def execPartialTimerExpiry (b : Bay) (s : State) : Host.Outcome State Fault Refusal :=
  .next (if s.timing b .seating then
      (s.onBay b (fun r => { r with timer := none, partialReported := true })).raise
        (bayEvent .bayPartial b none none)
    else s)

/-- The settle extension begins (R100): ARM_FALL at settle_mA, 2,000 ms, still SPINNING. -/
def State.beginSettling (s : State) (b : Bay) : State :=
  (s.toChan b (fun c => c.armFall (s.bay b).snap.settle)).onBay b
    (fun r => { r with timer := some 2000, settling := true })

/-- The checks at the end of the spin timer, in their order (R100). -/
def State.spinChecked (s : State) (b : Bay) : State :=
  if (s.chan b).peak < (s.bay b).snap.steady then s.spinFails b .noSpin (s.chan b).peak
  else if (s.chan b).live ≤ (s.bay b).snap.settle then s.spinSucceeds b
  else s.beginSettling b

/-- SPIN_TIMER_EXPIRY (R100). -/
def execSpinTimerExpiry (b : Bay) (s : State) : Host.Outcome State Fault Refusal :=
  .next (if s.timing b .spinning && !(s.bay b).settling then s.spinChecked b else s)

/-- SETTLE_EXTENSION_EXPIRY (R101). -/
def execSettleExtensionExpiry (b : Bay) (s : State) : Host.Outcome State Fault Refusal :=
  .next (if s.timing b .spinning && (s.bay b).settling then s.spinFails b .noSettle (s.chan b).live else s)

/-- GRANT_WINDOW_EXPIRY (R28). -/
def execGrantWindowExpiry (b : Bay) (s : State) : Host.Outcome State Fault Refusal :=
  .next (if s.timing b .granted then s.move b .standby none [bayEvent .grantExpired b none none] else s)

/-- DISCHARGE_EXPIRY (R33). -/
def execDischargeExpiry (b : Bay) (s : State) : Host.Outcome State Fault Refusal :=
  .next (if s.timing b .poweringDown then s.move b .idleOff none [] else s)

/-- The end of the extraction window, by the bay's contacts (R36). DEDUCED (notes/assumptions/13.md): the contacts are the
channel's accepted levels, and without the early contact the bay enters EMPTY. -/
def State.extractionEnds (s : State) (b : Bay) : State :=
  if (s.chan b).early.accepted then s.move b .seating (some 10000) [] else s.enterEmpty b

/-- EXTRACTION_WINDOW_EXPIRY (R36). -/
def execExtractionWindowExpiry (b : Bay) (s : State) : Host.Outcome State Fault Refusal :=
  .next (if s.timing b .extracting then s.extractionEnds b else s)

/-- The end of the backoff: a retry within the limit, else quarantine (R110). -/
def State.backoffEnds (s : State) (b : Bay) : State :=
  if (s.bay b).failCount ≤ s.cfg.admission.retryLimit then s.enterQueued b
  else (s.move b .idleOff none []).quarantineBay b

/-- BACKOFF_EXPIRY (R110). -/
def execBackoffExpiry (b : Bay) (s : State) : Host.Outcome State Fault Refusal :=
  .next (if s.timing b .faulted then s.backoffEnds b else s)

end Sys2Proof.Machine
end

