-- ==== Sys2Proof/Machine/CoolingCommands.lean ====
section
/-! DEFINITION. The commands of the cooling controller (Chapter 7): tachometer pulses and windows, sensor reads, the age of
drive reports, the evaluation and the end of the fan check. -/

namespace Sys2Proof.Machine

/-! ## Tachometers (R121 to R123) -/

/-- A pulse is counted in the window that runs (R121). -/
def FanRecord.pulse (r : FanRecord) : FanRecord :=
  { r with window := r.window.map fun w => { w with pulses := w.pulses + 1 } }

/-- TACH_PULSE (R121): an ABSENT fan has no window and counts nothing. -/
def execTachPulse (f : Fan) (s : State) : Host.Outcome State Fault Refusal :=
  .next (s.putFan f (s.fan f).pulse)

/-- The measured rpm of a window (R121). -/
def windowRpm (w : TachWindow) (ppr : Nat) : Nat := w.pulses * 60000 / (ppr * w.length)

/-- The judgment of a sample (R122). -/
def judgeSample (rpm minRpm duty : Nat) : Judgment :=
  if minRpm ≤ rpm then .good else if 20 ≤ duty then .low else .neutral

/-- A sample is formed and judged: the measured rpm and last judgment are kept, and the next window starts at the length
then set (R121, R122). -/
def FanRecord.sampled (r : FanRecord) (rpm minRpm windowMs : Nat) : FanRecord :=
  { r with rpm := rpm, judgment := some (judgeSample rpm minRpm r.duty), window := some (TachWindow.fresh windowMs) }

/-- FAN_FAILED: 0 RUNNING or 1 CHECK as detail, the rpm as value (R122, R142, Table 11-2). -/
def fanFailedEvent (f : Fan) (detail : Byte) (rpm : Nat) : Event := ⟨.fanFailed, .fan f, some detail, some rpm⟩

/-- FAN_RECOVERED: the rpm as value (R123). -/
def fanRecoveredEvent (f : Fan) (rpm : Nat) : Event := ⟨.fanRecovered, .fan f, none, some rpm⟩

/-- A fan moves, its event is raised, its notice goes to the budget unit, and its zone's target is recomputed (R120,
R122, R123, R135). -/
def State.fanMoves (s : State) (f : Fan) (r : FanRecord) (e : Event) : State :=
  (((s.putFan f r).raise e).fanNotice f).retarget false (zoneOfFan f)

/-- A sample of a RUNNING fan (R122): the third LOW sample in a row moves it to FAILED. -/
def State.runningSample (s : State) (f : Fan) (r : FanRecord) : State :=
  match r.judgment with
  | some .low =>
    if r.low + 1 < 3 then s.putFan f { r with low := r.low + 1 }
    else s.fanMoves f r.fail (fanFailedEvent f 0 r.rpm)
  | some .good => s.putFan f { r with low := 0 }
  | some .neutral | none => s.putFan f r

/-- A sample of a FAILED fan (R123): the third GOOD sample in a row moves it to RUNNING at the zone duty. -/
def State.failedSample (s : State) (f : Fan) (r : FanRecord) : State :=
  match r.judgment with
  | some .good =>
    if r.good + 1 < 3 then s.putFan f { r with good := r.good + 1 }
    else s.fanMoves f (r.run (s.zone (zoneOfFan f)).duty) (fanRecoveredEvent f r.rpm)
  | some .low => s.putFan f { r with good := 0 }
  | some .neutral | none => s.putFan f r

/-- A judged sample acts by the fan's state (R122); in CHECKING it is only kept. -/
def State.sampleTaken (s : State) (f : Fan) (r : FanRecord) : State :=
  match r.state with
  | .running => s.runningSample f r
  | .failed => s.failedSample f r
  | .checking => s.putFan f r
  | .absent => s

/-- The end of a fan's window (R121, R122). -/
def State.windowEnds (s : State) (f : Fan) (w : TachWindow) : State :=
  s.sampleTaken f
    ((s.fan f).sampled (windowRpm w (s.cfg.fans.get f).ppr) (s.cfg.fans.get f).minRpm s.cfg.common.windowMs)

/-- TACH_WINDOW_END (R122). -/
def execTachWindowEnd (f : Fan) (s : State) : Host.Outcome State Fault Refusal :=
  .next (match (s.fan f).window with
    | none => s
    | some w => s.windowEnds f w)

/-! ## Sensors (R125, R126) -/

/-- SENSOR_READ_START (R125): a read of each sensor begins, and the next start is 1,000 ms away. -/
def execSensorReadStart (s : State) : Host.Outcome State Fault Refusal :=
  .next (s.putCooling { s.cooling with
    sensorRead := 1000
    sensors := Table.each (fun k => { k with reading := true }) s.cooling.sensors })

/-- A sensor record after a result (R126): a good read clamped and held, or one failure more, FAILED at the third. -/
def SensorRecord.result (k : SensorRecord) (result : Option Int) : SensorRecord :=
  match result with
  | some t => ⟨.ok, some (clampTemp t), 0, false⟩
  | none =>
    { k with
      state := if k.failures + 1 < 3 then .holding else .failed
      failures := min 3 (k.failures + 1)
      reading := false }

/-- SENSOR_FAILED when a sensor reaches FAILED, with the held value if there is one (R126). -/
def sensorEvents (k : Sensor) (before after : SensorRecord) : List Event :=
  if after.state = .failed ∧ before.state ≠ .failed then [⟨.sensorFailed, .sensor k, none, after.held⟩] else []

/-- The zones that read a sensor (R126): its own, or all three for the inlet sensor. -/
def zonesReading (k : Sensor) : List Zone := allZones.filter fun z => z.sensor == k || k == inletSensor

/-- A sensor's result is taken (R126). -/
def State.sensorResult (s : State) (k : Sensor) (result : Option Int) : State :=
  let before := s.cooling.sensors.get k
  let after := before.result result
  let s1 := (s.putCooling { s.cooling with sensors := Table.put s.cooling.sensors k after }).raiseAll
    (sensorEvents k before after)
  if after.state = before.state ∧ after.held = before.held then s1 else s1.reviewZones (zonesReading k)

/-- SENSOR_READ_COMPLETE (R126). A read completes only where one is in progress (R125; notes/assumptions/25.md). -/
def execSensorReadComplete (k : Sensor) (result : Option Int) (s : State) : Host.Outcome State Fault Refusal :=
  .next (if (s.cooling.sensors.get k).reading then s.sensorResult k result else s)

/-! ## Drive reports (R129) -/

/-- A report's age timer expires (R129): STALE, TEMP_STALE, and the bay's zone recomputed. -/
def State.reportStale (s : State) (b : Bay) (r : DriveReport) : State :=
  ((s.putCooling { s.cooling with reports := Table.put s.cooling.reports b (some { r with age := none }) }).raise
    (bayEvent .tempStale b none (some r.temp))).reviewZone (s.zoneOf b)

/-- The age timer can have run out: it runs, and a millisecond has passed since a report restarted it (R129: a report taken
first leaves no expiry). -/
def DriveReport.mayExpire (r : DriveReport) : Bool :=
  match r.age with
  | none => false
  | some left => left != 60000

/-- DRIVE_TEMP_AGE_EXPIRY (R129). -/
def execDriveTempAgeExpiry (b : Bay) (s : State) : Host.Outcome State Fault Refusal :=
  .next (match s.cooling.reports.get b with
    | none => s
    | some r => if r.mayExpire then s.reportStale b r else s)

/-! ## Evaluation (R137) and the end of the fan check (R142) -/

/-- The targets of all three zones recomputed. DESIGN CHOICE (notes/assumptions/36.md): the manual gives no order between the
zones of one EVALUATION (R137), nor of one end of the fan check (R142); the order is A, B, C, the fans of a zone in number
order. -/
def State.retargetAll (s : State) (atEvaluation : Bool) : State := allZones.foldl (fun t z => t.retarget atEvaluation z) s

/-- EVALUATION (R137). -/
def execEvaluation (s : State) : Host.Outcome State Fault Refusal :=
  .next ((s.putCooling { s.cooling with evaluation := 1000 }).retargetAll true)

/-- The check's end for one fan (R142): a CHECKING fan last judged LOW moves to FAILED with FAN_FAILED, any other CHECKING
fan to RUNNING. A NEUTRAL judgment cannot stand in CHECKING, where the fan is commanded 100. -/
def State.checkFan (s : State) (f : Fan) : State :=
  let r := s.fan f
  if r.state = .checking then
    if r.judgment = some .low then (s.putFan f r.fail).raise (fanFailedEvent f 1 r.rpm)
    else s.putFan f (r.run (s.zone (zoneOfFan f)).duty)
  else s

/-- The fan check ends (R142, R96): each CHECKING fan judged in fan order, the hold on zone duties released, the fan
notices sent, the targets recomputed, and the start-up hold ended, which is a trigger. -/
def State.checkEnds (s : State) : State :=
  let judged := allFans.foldl State.checkFan s
  let released := judged.putCooling { judged.cooling with fanCheck := none }
  let noticed := (allFans.filter fun f => (s.fan f).state == .checking).foldl State.fanNotice released
  let t := noticed.retargetAll false
  (t.putArbiter { t.arbiter with startUpHold := false }).trigger

/-- FAN_CHECK_END (R142). -/
def execFanCheckEnd (s : State) : Host.Outcome State Fault Refusal :=
  .next (if s.cooling.fanCheck.isSome then s.checkEnds else s)

end Sys2Proof.Machine
end

