-- ==== Sys2Proof/Machine/FrontEnd.lean ====
section
/-! DEFINITION. The commands of the bay front end (Chapter 1): raw edges and filters, the seat and ramp timers, current
samples, trips and the activity level. -/

namespace Sys2Proof.Machine

/-! ## Presence contacts (R2 to R4) -/

/-- A raw edge on a presence contact (R2): its 5 ms filter. -/
def Channel.presenceEdge (c : Channel) (k : Contact) (level : Bool) : Channel :=
  match k with
  | .early => { c with early := c.early.edge 5 level }
  | .late => { c with late := c.late.edge 5 level }

/-- The contacts named take their new accepted levels, where their filters run (R2). -/
def Channel.acceptContacts (c : Channel) (k : Contacts) : Channel :=
  match k with
  | .early => { c with early := c.early.accept }
  | .late => { c with late := c.late.accept }
  | .both => { c with early := c.early.accept, late := c.late.accept }

/-- What the channel does at once when the bay stops being seated (R4): the seat timer stopped, the mark and the held code
cleared, and a RAMPING or CLOSED switch opened. -/
def Channel.unseat (c : Channel) : Channel :=
  { c with seatTimer := none, seatStable := false, heldCode := none }.openSwitch

/-- The seat timer starts from zero when the bay becomes seated (R3). -/
def Channel.seat (c : Channel) : Channel := { c with seatTimer := some 0 }

/-- The CONTACT_CHANGE report of a channel (R2), with a cut indication. -/
def Channel.contactReport (c : Channel) (cut : Bool) : Report :=
  .contactChange c.early.accepted c.late.accepted c.seated cut

/-- A change of accepted levels (R2 to R4): the seating it begins or ends, then one report. -/
def Channel.contactsChanged (before after : Channel) : Channel :=
  if before.seated && !after.seated then
    after.unseat.send (after.contactReport (after.switch != .opened))
  else if !before.seated && after.seated then after.seat.send (after.contactReport false)
  else after.send (after.contactReport false)

/-- The end of one or both contact filters (R2); without a running filter nothing is accepted and nothing reported. -/
def Channel.presenceAccepted (c : Channel) (k : Contacts) : Channel :=
  let c' := c.acceptContacts k
  if c'.early.accepted = c.early.accepted ∧ c'.late.accepted = c.late.accepted then c'
  else Channel.contactsChanged c c'

/-- PRESENCE_RAW_EDGE (R2). -/
def execPresenceRawEdge (b : Bay) (k : Contact) (level : Bool) (s : State) : Host.Outcome State Fault Refusal :=
  .next (s.putChan b ((s.chan b).presenceEdge k level))

/-- PRESENCE_FILTER_EXPIRY (R2). -/
def execPresenceFilterExpiry (b : Bay) (k : Contacts) (s : State) : Host.Outcome State Fault Refusal :=
  .next (s.putChan b ((s.chan b).presenceAccepted k))

/-! ## Carrier code (R5) -/

/-- A raw edge on a carrier line (R5): its 5 ms filter. -/
def Channel.carrierEdge (c : Channel) (l : CarrierLine) (level : Bool) : Channel :=
  match l with
  | .car1 => { c with car1 := c.car1.edge 5 level }
  | .car0 => { c with car0 := c.car0.edge 5 level }

/-- The end of a carrier line's filter (R5): no report. -/
def Channel.carrierAccepted (c : Channel) (l : CarrierLine) : Channel :=
  match l with
  | .car1 => { c with car1 := c.car1.accept }
  | .car0 => { c with car0 := c.car0.accept }

/-- The carrier code of the accepted lines, CAR1 the high bit (R5). -/
def Channel.carrierCode (c : Channel) : Code :=
  match c.car1.accepted, c.car0.accepted with
  | false, false => 0
  | false, true => 1
  | true, false => 2
  | true, true => 3

/-- CARRIER_RAW_EDGE (R5). -/
def execCarrierRawEdge (b : Bay) (l : CarrierLine) (level : Bool) (s : State) : Host.Outcome State Fault Refusal :=
  .next (s.putChan b ((s.chan b).carrierEdge l level))

/-- CARRIER_FILTER_EXPIRY (R5). -/
def execCarrierFilterExpiry (b : Bay) (l : CarrierLine) (s : State) : Host.Outcome State Fault Refusal :=
  .next (s.putChan b ((s.chan b).carrierAccepted l))

/-! ## Seat and ramp timers (R3, R6) -/

/-- The seat timer reaches 250 ms (R3, R5): the code sampled, held and sent, the timer stopped, the mark set. -/
def Channel.seatStabilised (c : Channel) : Channel :=
  match c.seatTimer with
  | none => c
  | some _ =>
    { c with seatTimer := none, seatStable := true, heldCode := some c.carrierCode }.send (.seatStable c.carrierCode)

/-- SEAT_TIMER_EXPIRY (R3). -/
def execSeatTimerExpiry (b : Bay) (s : State) : Host.Outcome State Fault Refusal :=
  .next (s.putChan b (s.chan b).seatStabilised)

/-- The ramp timer expires (R6): CLOSED, and RAMP_END unless a warm restart withheld it (R15). -/
def Channel.ramped (c : Channel) : Channel :=
  match c.switch with
  | .ramping =>
    let c' := { c with switch := .closed, rampTimer := none, rampEndWithheld := false }
    if c.rampEndWithheld then c' else c'.send .rampEnd
  | .opened | .closed => c

/-- RAMP_TIMER_EXPIRY (R6). -/
def execRampTimerExpiry (b : Bay) (s : State) : Host.Outcome State Fault Refusal :=
  .next (s.putChan b (s.chan b).ramped)

/-! ## Current sense and trip comparator (R8 to R11) -/

/-- The rise watch tested on the latest sample (R10). -/
def Channel.testRise (c : Channel) : Channel :=
  match c.riseWatch with
  | none => c
  | some level => if level < c.live then (c.disarm .rise).send (.riseCross c.live) else c

/-- The fall watch tested on the latest sample (R10). -/
def Channel.testFall (c : Channel) : Channel :=
  match c.fallWatch with
  | none => c
  | some level => if c.live ≤ level then (c.disarm .fall).send (.fallCross c.live) else c

/-- A sample becomes the live current, raises the peak, and is tested against the watches (R8 to R10); the rise watch
first (notes/assumptions/27.md). -/
def Channel.sampled (c : Channel) (mA : Nat) : Channel :=
  { c with live := recorded mA, peak := max c.peak (recorded mA) }.testRise.testFall

/-- CURRENT_SAMPLE (R8). -/
def execCurrentSample (b : Bay) (mA : Nat) (s : State) : Host.Outcome State Fault Refusal :=
  .next (s.putChan b ((s.chan b).sampled mA))

/-- An excursion (R11): above the trip level of an armed comparator it opens the switch, enters the peak and is
reported. -/
def Channel.excursion (c : Channel) (mA : Nat) : Channel :=
  match c.tripLevel with
  | none => c
  | some level =>
    if level < mA then { c.openSwitch with peak := max c.peak (recorded mA) }.send (.trip (recorded mA)) else c

/-- TRIP_EXCURSION (R11). -/
def execTripExcursion (b : Bay) (mA : Nat) (s : State) : Host.Outcome State Fault Refusal :=
  .next (s.putChan b ((s.chan b).excursion mA))

/-! ## Activity (R13) -/

/-- ACTI is asserted (R13): the level asserted and its 50 ms stretch restarted. -/
def Channel.acti (c : Channel) : Channel := { c with activity := true, stretch := some 50 }

/-- The stretch ends (R13). -/
def Channel.actiEnd (c : Channel) : Channel :=
  match c.stretch with
  | none => c
  | some _ => { c with activity := false, stretch := none }

/-- The channel's activity level changes, and the light controller drives the bay's ACT light at the change (R13,
R157). -/
def State.activityTo (s : State) (b : Bay) (c : Channel) : State :=
  if (s.chan b).activity = c.activity then s.putChan b c else (s.putChan b c).driveAct b

/-- ACTI_ASSERT (R13). -/
def execActiAssert (b : Bay) (s : State) : Host.Outcome State Fault Refusal :=
  .next (s.activityTo b (s.chan b).acti)

/-- ACTIVITY_STRETCH_EXPIRY (R13). -/
def execActivityStretchExpiry (b : Bay) (s : State) : Host.Outcome State Fault Refusal :=
  .next (s.activityTo b (s.chan b).actiEnd)

end Sys2Proof.Machine
end

