-- ==== Sys2Proof/Machine/Grants.lean ====
section
/-! DEFINITION. Grants, declines and revocation requests as they are taken (R24, R88, R29), the stagger timer (R90), and
the supply lines (R53, R54). A message that is not on its way is not taken, and nothing is changed
(notes/assumptions/3.md). -/

namespace Sys2Proof.Machine

/-- The oldest message of a list that names a bay, and the list without it. -/
def takeFirst {α : Type} (p : α → Bool) : List α → Option (α × List α)
  | [] => none
  | x :: rest =>
    if p x then some (x, rest)
    else
      match takeFirst p rest with
      | none => none
      | some (y, rest') => some (y, x :: rest')

/-- The bay controller takes a grant only when the bay's state matches its kind, and a POWER_ON grant only when the current
profile holds the priced inrush and heat (R24, R51); never one sent before a warm restart (R99), nor one whose entry has
been removed by request, even if the bay has joined again (R89). -/
def State.takesGrant (s : State) (g : Grant) : Bool :=
  !g.stale && !s.arbiter.grantRecord.any GrantRecord.removed &&
    match g.kind with
    | .powerOn =>
      (s.bay g.bay).state == .queued && g.priced == some ((s.profileOf g.bay).inrush, (s.profileOf g.bay).heat)
    | .wake => (s.bay g.bay).state == .wakeQueued

/-- A POWER_ON grant is carried out (R24): snapshot, CLOSE, RAMPING. -/
def State.powerOnGranted (s : State) (b : Bay) : State :=
  ((s.onBay b (fun r => { r with snapshot := some (s.profileOf b) })).toChan b
    (fun c => c.closeSwitch (s.profileOf b).trip)).move b .ramping none []

/-- A WAKE grant is carried out (R27): GRANTED with the window, and GRANT. -/
def State.wakeGranted (s : State) (b : Bay) : State :=
  s.move b .granted (some s.cfg.admission.grantWindow)
    [bayEvent .grant b none (some s.cfg.admission.grantWindow)]

/-- A grant is carried out by its kind (R24). -/
def State.carryOut (s : State) (g : Grant) : State :=
  match g.kind with
  | .powerOn => s.powerOnGranted g.bay
  | .wake => s.wakeGranted g.bay

/-- A grant is declined: the arbiter is told (R24). -/
def State.declineGrant (s : State) (g : Grant) : State :=
  s.putArbiter { s.arbiter with declines := s.arbiter.declines ++ [⟨g.bay, g.stale⟩] }

/-- A grant reaches the bay controller (R24). -/
def State.grantReached (s : State) (g : Grant) : State := if s.takesGrant g then s.carryOut g else s.declineGrant g

/-- GRANT_TAKEN (R24). -/
def execGrantTaken (b : Bay) (s : State) : Host.Outcome State Fault Refusal :=
  .next (match takeFirst (fun g => g.bay == b) s.arbiter.grants with
    | none => s
    | some (g, rest) => (s.putArbiter { s.arbiter with grants := rest }).grantReached g)

/-- GRANT_DECLINE (R88). -/
def execGrantDecline (b : Bay) (s : State) : Host.Outcome State Fault Refusal :=
  .next (match takeFirst (fun d => d.bay == b) s.arbiter.declines with
    | none => s
    | some (d, rest) => (s.putArbiter { s.arbiter with declines := rest }).declineTaken d)

/-- A revocation is taken in GRANTED, and dropped in any other state (R29); one sent before a warm restart is dropped
(R73). DEDUCED (notes/assumptions/37.md): one whose bay has left GRANTED and is GRANTED again is taken by R29's letter. -/
def State.revoked (s : State) (x : Revocation) : State :=
  if (s.bay x.bay).state = .granted ∧ x.stale = false then
    s.move x.bay .standby none [bayEvent .grantRevoked x.bay none (some x.headroom)]
  else s

/-- REVOCATION_REQUEST (R29). -/
def execRevocationRequest (b : Bay) (s : State) : Host.Outcome State Fault Refusal :=
  .next (match takeFirst (fun x => x.bay == b) s.budget.revocations with
    | none => s
    | some (x, rest) => (s.putBudget { s.budget with revocations := rest }).revoked x)

/-- STAGGER_EXPIRY (R90): the timer stops, and the expiry is a trigger. -/
def execStaggerExpiry (s : State) : Host.Outcome State Fault Refusal :=
  .next (match s.arbiter.stagger with
    | none => s
    | some _ => (s.putArbiter { s.arbiter with stagger := none }).trigger)

/-! ## Supply lines (R53, R54) -/

/-- A raw edge on a supply line (R53): its 10 ms filter. -/
def SlotLines.edge (l : SlotLines) (line : PsuLine) (level : Bool) : SlotLines :=
  match line with
  | .present => { l with present := l.present.edge 10 level }
  | .good => { l with good := l.good.edge 10 level }

/-- The lines named take their new accepted levels, where their filters run (R53). -/
def SlotLines.acceptLines (l : SlotLines) (lines : PsuLines) : SlotLines :=
  match lines with
  | .present => { l with present := l.present.accept }
  | .good => { l with good := l.good.accept }
  | .both => { l with present := l.present.accept, good := l.good.accept }

/-- The lines of a slot replaced. -/
def State.putSlot (s : State) (k : Slot) (l : SlotLines) : State :=
  s.putBudget { s.budget with slots := Table.put s.budget.slots k l }

/-- SUPPLY_RAW_EDGE (R53). -/
def execSupplyRawEdge (k : Slot) (line : PsuLine) (level : Bool) (s : State) : Host.Outcome State Fault Refusal :=
  .next (s.putSlot k ((s.budget.slots.get k).edge line level))

/-- An accepted change of one or both lines of a slot: one PSU_CHANGE and one recomputation (R54). -/
def State.linesAccepted (s : State) (k : Slot) (lines : PsuLines) : State :=
  let l := s.budget.slots.get k
  let l' := l.acceptLines lines
  if l'.present.accepted = l.present.accepted ∧ l'.good.accepted = l.good.accepted then s.putSlot k l'
  else (s.putSlot k l').recomputeForSlot k

/-- SUPPLY_LINE_ACCEPTED (R54). -/
def execSupplyLineAccepted (k : Slot) (lines : PsuLines) (s : State) : Host.Outcome State Fault Refusal :=
  .next (s.linesAccepted k lines)

end Sys2Proof.Machine
end

