-- ==== Sys2Proof/Machine/LightCommands.lean ====
section
/-! DEFINITION. The step boundary of the light controller (R155). -/

namespace Sys2Proof.Machine

/-- The lights of one bay at a step boundary: LATN at the step of the shown pattern (R155), LACT driven anew (R157). -/
def State.bayAtBoundary (s : State) (b : Bay) : BayLights :=
  { s.bayLights b with
    latn := patternOn (s.cfg.pattern (s.shownPattern b)) s.lights.phase
    lact := s.actLevel b }

/-- The bay lights and ELF, ELL driven for the step that begins (R155, R157, R158, R159). -/
def State.driveLights (s : State) : State :=
  s.putLights { s.lights with
    bays := allBays.foldl (fun t b => Table.put t b (s.bayAtBoundary b)) s.lights.bays
    elf := s.enclosureFault
    ell := s.lights.locate && patternOn (s.cfg.pattern 3) s.lights.phase }

/-- STEP_BOUNDARY (R155): the phase advances, 7 back to 0, and every light is driven by the new phase. -/
def execStepBoundary (s : State) : Host.Outcome State Fault Refusal :=
  .next (s.putLights { s.lights with phase := s.lights.phase + 1, boundary := 125 }).driveLights

end Sys2Proof.Machine
end

