-- ==== Sys2Proof/Machine/Answers.lean ====
section
/-! DEFINITION. What a block returns for a request (R168, R169), and the handling of a bay list in sequence (R181). -/

namespace Sys2Proof.Machine

/-- The outcome of a request: the status, the payload after it, and the after-reply action (R169, R173). -/
structure Answer where
  status : Status
  body : List Byte
  action : AfterReply
  deriving DecidableEq, Repr

/-- An answer without an action. -/
def answer (st : Status) (body : List Byte) : Answer := ⟨st, body, .nothing⟩

/-- A refusal of a whole request: the status alone, and nothing changed (R180). -/
def refuse (s : State) (st : Status) : State × Answer := (s, answer st [])

/-- A request that only reads. -/
def reads (s : State) (body : List Byte) : State × Answer := (s, answer .ok body)

/-- Bay numbers handled one at a time, in sequence order; a number above 23 gets BAD_BAY in its place (R181). -/
def handleBays (f : State → Bay → State × Status) : State → List Nat → State × List Status
  | s, [] => (s, [])
  | s, n :: rest =>
    match bayOfNumber n with
    | none =>
      match handleBays f s rest with
      | (u, sts) => (u, .badBay :: sts)
    | some b =>
      match f s b with
      | (t, st) =>
        match handleBays f t rest with
        | (u, sts) => (u, st :: sts)

/-- The answer to a bay-list request (R181): the first status, the count, the statuses. -/
def listAnswer (first : Status) (r : State × List Status) : State × Answer :=
  (r.1, answer first (u8 r.2.length ++ r.2.map Status.byte))

/-- A bay list is expanded and handled, or refuses the whole request (R181). -/
def onBayList (s : State) (list : List Byte) (first : Status) (f : State → Bay → State × Status) : State × Answer :=
  match expandBayList list with
  | .error st => refuse s st
  | .ok bays => listAnswer first (handleBays f s bays)

end Sys2Proof.Machine
end

