-- ==== Sys2Proof/Machine/BayRequests.lean ====
section
/-! DEFINITION. The requests the bay controller carries out (Chapters 2 and 6): power, spin, policy, status, quarantine. -/

namespace Sys2Proof.Machine

/-! ## Power and spin (Tables 2-4 to 2-7) -/

/-- POWER_ON for one bay (Table 2-4). -/
def State.powerOnBay (s : State) (b : Bay) : State × Status :=
  match (s.bay b).state with
  | .idleOff =>
    if s.isQuarantined b then (s, .quarantined) else ((s.setRemoval b false).enterQueued b, .accepted)
  | .queued | .ramping | .spinning | .active => (s, .ok)
  | .standby | .wakeQueued | .granted => (s, .wrongState)
  | .seating | .poweringDown | .extracting | .faulted => (s, .bayBusy)
  | .empty => (s, .wrongState)

/-- POWER_OFF for one bay (Table 2-6). -/
def State.powerOffBay (s : State) (b : Bay) : State × Status :=
  match (s.bay b).state with
  | .queued => (s.dequeue b, .ok)
  | .faulted => (s.move b .idleOff none [], .ok)
  | .ramping | .spinning | .active | .standby | .wakeQueued | .granted => (s.powerDown b, .accepted)
  | .idleOff | .poweringDown => (s, .ok)
  | .empty | .seating | .extracting => (s, .wrongState)

/-- PREPARE_REMOVAL for one bay (Table 2-7). -/
def State.prepareBay (s : State) (b : Bay) : State × Status :=
  match (s.bay b).state with
  | .idleOff | .poweringDown => (s.setRemoval b true, .ok)
  | .queued => (((s.removeEntry b).setRemoval b true).move b .idleOff none [], .ok)
  | .faulted => ((s.setRemoval b true).move b .idleOff none [], .ok)
  | .ramping | .spinning | .active | .standby | .wakeQueued | .granted =>
    ((s.powerDown b).setRemoval b true, .accepted)
  | .empty | .seating | .extracting => (s, .wrongState)

/-- SPIN_REQUEST for one bay (Table 2-5). -/
def State.spinRequestBay (s : State) (b : Bay) : State × Status :=
  match (s.bay b).state with
  | .standby => ((s.move b .wakeQueued none []).join b .wake, .accepted)
  | .wakeQueued | .granted => (s, .ok)
  | .empty | .seating | .idleOff | .queued | .ramping | .spinning | .active | .poweringDown | .extracting
  | .faulted => (s, .wrongState)

/-- SPIN_DOWN_NOTE for one bay (Table 2-5): STANDBY with the rise watch armed at the snapshot steady_mA (R26). -/
def State.spinDownBay (s : State) (b : Bay) : State × Status :=
  match (s.bay b).state with
  | .active => ((s.toChan b (fun c => c.armRise (s.bay b).snap.steady)).move b .standby none [], .ok)
  | .standby => (s, .ok)
  | .empty | .seating | .idleOff | .queued | .ramping | .spinning | .wakeQueued | .granted | .poweringDown
  | .extracting | .faulted => (s, .wrongState)

/-- POWER_ON (R23). -/
def State.powerOn (s : State) (p : List Byte) : State × Answer := onBayList s p .ok State.powerOnBay
/-- POWER_OFF (R30). -/
def State.powerOff (s : State) (p : List Byte) : State × Answer := onBayList s p .ok State.powerOffBay
/-- PREPARE_REMOVAL (R31). -/
def State.prepareRemoval (s : State) (p : List Byte) : State × Answer := onBayList s p .ok State.prepareBay
/-- SPIN_REQUEST (R26). -/
def State.spinRequest (s : State) (p : List Byte) : State × Answer := onBayList s p .ok State.spinRequestBay
/-- SPIN_DOWN_NOTE (R26). -/
def State.spinDownNote (s : State) (p : List Byte) : State × Answer := onBayList s p .ok State.spinDownBay

/-! ## SET_BAY_POLICY (R34, R182) -/

/-- The three fields of SET_BAY_POLICY after validation; none leaves a field as it is (R182). -/
structure PolicyWrite where
  policy : Option Policy
  cls : Option (Fin 3)
  zone : Option Zone
  deriving DecidableEq, Repr

/-- A class code clamped to 2 (R182). -/
def classOfCode (n : Nat) : Fin 3 := if n = 0 then 0 else if n = 1 then 1 else 2

/-- The settings of a bay after a write (R34). -/
def BaySettings.written (x : BaySettings) (w : PolicyWrite) : BaySettings :=
  ⟨w.policy.getD x.policy, w.cls.getD x.cls, w.zone.getD x.zone⟩

/-- SET_BAY_POLICY for one bay (R34): the fields written, and the zone notice where a zone is written. -/
def State.setPolicyBay (w : PolicyWrite) (s : State) (b : Bay) : State × Status :=
  let old := s.zoneOf b
  let s1 := s.putCfg { s.cfg with bays := Table.put s.cfg.bays b ((s.baySettings b).written w) }
  (match w.zone with
    | none => s1
    | some z => s1.zoneNotice old z, .ok)

/-- A field of SET_BAY_POLICY: FFh keeps it (R182). -/
def unlessFF {α : Type} (n : Nat) (x : α) : Option α := if n = 255 then none else some x

/-- A class or zone code that was clamped (R182). -/
def clampedCode (n : Nat) : Bool := 2 < n ∧ n ≠ 255

/-- SET_BAY_POLICY (R34, R182): a policy code of no policy refuses the request, before the bay list is expanded
(notes/assumptions/14.md). -/
def State.setBayPolicy (s : State) (p : List Byte) : State × Answer :=
  let policy := byteAt p 0
  let cls := byteAt p 1
  let zone := byteAt p 2
  if 1 < policy ∧ policy ≠ 255 then refuse s .badValue
  else
    onBayList s (p.drop 3) (writtenStatus (clampedCode cls || clampedCode zone))
      (State.setPolicyBay
        ⟨unlessFF policy (if policy = 0 then .auto else .hold), unlessFF cls (classOfCode cls),
          unlessFF zone (zoneOfCode zone)⟩)

/-! ## Quarantine (R116, R117) -/

/-- CLEAR_QUARANTINE for one bay (R116). -/
def State.clearQuarantineBay (s : State) (b : Bay) : State × Status :=
  (if s.isQuarantined b then (s.unquarantine b).onBay b (fun r => { r with failCount := 0 }) else s, .ok)

/-- CLEAR_QUARANTINE (R116). -/
def State.clearQuarantine (s : State) (p : List Byte) : State × Answer := onBayList s p .ok State.clearQuarantineBay

/-- A code in one byte, FFh for none. -/
def codeByte {n : Nat} (o : Option (Fin n)) : Byte := byteOrFF (o.map fun c => BitVec.ofNat 8 c.val)

/-- A quarantine entry in its 8 bytes (R187). -/
def QuarantineEntry.bytes (e : QuarantineEntry) : List Byte :=
  u8 e.bay.val ++ [codeByte e.code] ++ [e.reason.byte] ++ u8 e.failCount ++ u32 e.time.toNat

/-- QUARANTINE_LIST (R117). -/
def State.quarantineList (s : State) (_ : List Byte) : State × Answer :=
  reads s (u8 s.quarantine.length ++ s.quarantine.flatMap QuarantineEntry.bytes)

/-! ## Status (R183) -/

/-- The outcome in one byte, FFh for none. -/
def outcomeByte (o : Option SpinOutcome) : Byte := byteOrFF (o.map SpinOutcome.byte)

/-- The snapshot in its 13 bytes, all 0 when absent (R183). -/
def snapshotBytes (o : Option Profile) : List Byte :=
  match o with
  | some p => p.bytes
  | none => List.replicate 13 0

/-- The condition set as a two-byte field, bit `n` for condition `n` (R179). -/
def conditionBits (l : BayLights) : Nat := bitSet (allConditions.map l.conditions.get)

/-- The 37 bytes of a bay (Table 10-4). -/
def State.bayBytes (s : State) (b : Bay) : List Byte :=
  let r := s.bay b
  u8 b.val ++ [r.state.byte, codeByte r.code, codeByte r.profileIndex, (s.baySettings b).policy.byte] ++
    u8 (s.baySettings b).cls.val ++ [(s.zoneOf b).byte] ++
    u8 (bitSet [r.removalPrepared, s.isQuarantined b, r.snapshot.isSome, r.settling, r.partialReported]) ++
    u8 r.failCount ++ [outcomeByte r.latest, outcomeByte r.previous] ++
    u16 (s.chan b).live ++ u16 (s.chan b).peak ++ u16OrFFFF r.timer ++ u16 (s.budget.commitments.get b) ++
    snapshotBytes r.snapshot ++ u16 (conditionBits (s.bayLights b)) ++ [codeByte (s.resolved b)] ++
    u8 (s.shownPattern b).val ++ [r.state.actSource.byte]

/-- BAY_STATUS (R183). -/
def State.bayStatus (s : State) (p : List Byte) : State × Answer :=
  match bayOfNumber (byteAt p 0) with
  | none => refuse s .badBay
  | some b => reads s (s.bayBytes b)

/-- BAY_SUMMARY (R183). -/
def State.baySummary (s : State) (_ : List Byte) : State × Answer := reads s (allBays.map fun b => (s.bay b).state.byte)

end Sys2Proof.Machine
end

