-- ==== Sys2Proof/Machine/Restart.lean ====
section
/-! DEFINITION. The cold start, the warm restart with its reload, the quarantine check, and the completion of a settings
write (R14, R15, R38 to R40, R72, R73, R98, R99, R113, R144, R145, R160, R161, R178, R193 to R195). -/

namespace Sys2Proof.Machine

/-! ## Cold start -/

/-- The check stored with the items agrees with the check formed of them (R194). -/
def SettingsImage.ok (i : SettingsImage) : Bool := i.check == Config.settingsCheck i.items

/-- The configuration a load gives: the image's items when its check agrees, else the factory defaults (R194). -/
def SettingsImage.load (i : SettingsImage) : Settings := if i.ok then i.items else factorySettings

/-- The image that a completed write leaves: the items with their check (R195). -/
def imageOf (items : Settings) : SettingsImage := ⟨items, Config.settingsCheck items⟩

/-- The image with a check that differs. -/
def SettingsImage.spoilt (i : SettingsImage) : SettingsImage := { i with check := Config.settingsCheck i.items + 1 }

/-- The image a cold start finds: a write it cuts short leaves one whose check fails (R195; which items and which check
stand in it is a DESIGN CHOICE, notes/assumptions/7.md). -/
def Store.imageAtStart (x : Store) : SettingsImage :=
  if x.writing.isSome then x.image.spoilt else x.image

/-- SETTINGS_DEFAULTED when a load's check differs (R194): detail 0 at a cold start, 1 at a warm restart. -/
def defaultedEvents (i : SettingsImage) (detail : Byte) : List Event :=
  if i.ok then [] else [⟨.settingsDefaulted, .none, some detail, none⟩]

/-- A channel at a cold start: its pins keep the levels they hold (R14). -/
def Channel.restarted (c : Channel) : Channel := .cold c.early.raw c.late.raw c.car1.raw c.car0.raw

/-- A slot's lines at a cold start (R72). -/
def SlotLines.restarted (l : SlotLines) : SlotLines := ⟨.cold 10 l.present.raw, .cold 10 l.good.raw⟩

/-- Every block in its state of a cold start, before the first budget computation (R14, R38, R72, R98, R144, R160, R178,
R193, R194). Messages on their way are gone (notes/assumptions/18.md). -/
def State.blocksCold (s : State) (straps : BitVec 3) : State :=
  let image := s.store.imageAtStart
  let cfg := image.load
  { chans := Table.each Channel.restarted s.chans
    bays := .replicate 24 .cold
    quarantine := []
    budget := .cold cfg (Table.each SlotLines.restarted s.budget.slots)
    arbiter := .cold
    cooling := .cold cfg
    lights := .cold
    link := .cold straps
    events := ⟨[], false⟩
    time := 0
    store := ⟨image, none, !image.ok, none⟩
    cfg := cfg
    resetLow := false
    pending := s.pending }

/-- A cold start: COLD_START is queued first, SETTINGS_DEFAULTED next where the image fails (R193, R194), then the first
budget computation follows (R72), and the fan notices (R144). -/
def State.coldStart (s : State) (straps : BitVec 3) : State :=
  allFans.foldl State.fanNotice
    ((s.blocksCold straps).raiseAll
      (⟨.coldStart, .none, none, none⟩ :: defaultedEvents s.store.imageAtStart 0)).recompute

/-- STANDBY_POWER_UP (R14). -/
def execStandbyPowerUp (straps : BitVec 3) (s : State) : Host.Outcome State Fault Refusal := .next (s.coldStart straps)

/-- RESET_ASSERTED (R14): the cold start, with RESET held low until the block idles (DESIGN CHOICE,
notes/assumptions/19.md). -/
def execResetAsserted (straps : BitVec 3) (s : State) : Host.Outcome State Fault Refusal :=
  .next ((s.coldStart straps).putReset true)

/-! ## Quarantine check (R113) -/

/-- The states in which the quarantine check acts on a bay (R113). -/
def BayState.checkable : BayState → Bool
  | .queued | .faulted => true
  | .empty | .seating | .idleOff | .ramping | .spinning | .active | .standby | .wakeQueued | .granted
  | .poweringDown | .extracting => false

/-- A bay over the retry limit in QUEUED or FAULTED is quarantined (R113). -/
def State.checkBay (s : State) (b : Bay) : State :=
  if (s.bay b).state.checkable ∧ s.cfg.admission.retryLimit < (s.bay b).failCount then
    ((s.removeEntryIf ((s.bay b).state == .queued) b).move b .idleOff none []).quarantineBay b
  else s

/-- The quarantine check, in bay-number order (R113). -/
def State.quarantineCheck (s : State) : State := allBays.foldl State.checkBay s

/-! ## Warm restart: what happens at once -/

/-- A channel at a warm restart (R15): the watches disarmed, a ramp's RAMP_END withheld, a running seat timer from zero,
and the contact re-sample. -/
def Channel.warm (c : Channel) : Channel :=
  let c' := { c.disarm .both with
    rampEndWithheld := c.switch == SwitchPos.ramping
    seatTimer := c.seatTimer.map fun _ => 0 }
  c'.send (c'.contactReport false)

/-- A bay mapped to another state (R39): the record, and the light controller's notice (R161). The other blocks rebuild
what they hold from the mapped states (R73, R99, R145). -/
def State.mapTo (s : State) (b : Bay) (new : BayState) (timer : Option Nat) : State :=
  (s.onBay b (fun r => r.enter new timer)).lightNotice b

/-- A bay across a warm restart (Table 2-8). -/
def State.mapBay (s : State) (b : Bay) : State :=
  match (s.bay b).state with
  | .empty | .idleOff | .active | .standby | .poweringDown | .extracting => s
  | .seating => s.onBay b (fun r => { r with timer := r.timer.map fun _ => 10000 })
  | .queued => s.mapTo b .idleOff none
  | .ramping | .spinning | .granted =>
    (s.toChan b Channel.peakReset).mapTo b .spinning (some (s.bay b).snap.spinMs)
  | .wakeQueued => (s.mapTo b .standby none).raise (bayEvent .wakeDropped b none none)
  | .faulted => s.onBay b (fun r => { r with timer := some (backoff r.failCount) })

/-- The arbiter at a warm restart (R99): the queue emptied, timer, mark and records cleared, the messages on their way
marked as sent before it. DEDUCED (notes/assumptions/35.md): the emptying itself is no trigger. -/
def Arbiter.warm (a : Arbiter) : Arbiter where
  queue := []
  spinCount := a.spinCount
  stagger := none
  pendingMark := false
  grantRecord := none
  lastPass := none
  startUpHold := a.startUpHold
  grants := a.grants.map fun g => { g with stale := true }
  declines := a.declines.map fun d => { d with stale := true }

/-- The number of bays in RAMPING, SPINNING or GRANTED (R91). -/
def State.countSpins (s : State) : Nat := (allBays.filter fun b => (s.bay b).state.drawsInrush).length

/-- The commitment table rebuilt from every bay (R73). -/
def State.rebuiltCommitments (s : State) : Table Nat 24 := Table.each BayRecord.commitment s.bays

/-- A STANDBY bay's rise watch is armed after a warm restart (R107, R40). -/
def State.rearm (s : State) (b : Bay) : State :=
  if (s.bay b).state = .standby then s.toChan b (fun c => c.armRise (s.bay b).snap.steady) else s

/-- The budget unit's part of a warm restart that does not wait for the reload (R73): the commitment table rebuilt, the
grant order list and the outstanding revocation cleared, the requests on their way marked as sent before it. -/
def Budget.warm (x : Budget) (commitments : Table Nat 24) : Budget :=
  { x with
    commitments := commitments
    grantOrder := []
    outstanding := none
    revocations := x.revocations.map fun r => { r with stale := true } }

/-- The bays to move back to QUEUED (R40): those QUEUED before the restart, with those an earlier restart still waiting
for its reload had found (DESIGN CHOICE, notes/assumptions/38.md). -/
def State.requeueSet (s : State) : List Bay :=
  allBays.filter fun b =>
    (s.bay b).state == .queued || s.store.reloadAwaited.any (fun a => a.queued.contains b)

/-- The part of a warm restart that does not wait for the reload (R195): WARM_RESTART, the channels, the arbiter, the
mapping, the rebuilt counts and lists, the watches. -/
def State.warmAtOnce (s : State) : State :=
  let s1 := s.raise ⟨.warmRestart, .none, none, none⟩
  let s2 := { s1 with chans := Table.each Channel.warm s1.chans }
  let s3 := s2.putArbiter s2.arbiter.warm
  let s4 := allBays.foldl State.mapBay s3
  let s5 := s4.putArbiter { s4.arbiter with spinCount := s4.countSpins }
  let s6 := s5.putBudget (s5.budget.warm s5.rebuiltCommitments)
  allBays.foldl State.rearm s6

/-! ## Warm restart: the reload and what follows it -/

/-- The store loads the image (R194). -/
def State.reload (s : State) : State :=
  ((s.putCfg s.store.image.load).putStore { s.store with
    defaulted := !s.store.image.ok, reloadAwaited := none }).raiseAll (defaultedEvents s.store.image 1)

/-- A fan at the reload (R145): the absent setting applied as SET_FAN would, and a fresh window at the reloaded length.
DEDUCED (notes/assumptions/12.md): where the reload waits for a settings write, the running window is abandoned at the reload
and not at the restart, so a window that ends during the wait gives its sample. -/
def State.fanReloaded (s : State) (f : Fan) : State :=
  let r := s.fanAfterSetting f (s.cfg.fans.get f).absent
  s.putFan f { r with
    window := if r.state = .absent then none else some (TachWindow.fresh s.cfg.common.windowMs) }

/-- A zone's duty raised to a higher target at the reload, with its RUNNING fans (R145, R138); the budget unit takes every
fan's notice after all three zones. -/
def State.retargetQuietly (s : State) (z : Zone) : State :=
  let duty := dutyAfter s.cooling.fanCheck.isSome false (s.zoneTarget z) (s.zone z).duty
  z.fans.foldl
    (fun t f => if (t.fan f).state = .running then t.putFan f { t.fan f with duty := duty } else t)
    (s.putZone z { s.zone z with duty := duty })

/-- The budget unit takes the fan views of all fans and one recomputation (R73). -/
def State.budgetReloaded (s : State) : State :=
  (s.putBudget { s.budget with
    fanViews := allFans.foldl (fun t f => Table.put t f (s.fanView f)) s.budget.fanViews }).recompute

/-- A bay found QUEUED is moved back if its reloaded policy is AUTO, its flag clear and it has no entry (R40), with the
restart's event time as its join time (R99). DESIGN CHOICE (notes/assumptions/38.md): where the reload waited for a settings
write, each bay found QUEUED that stands in IDLE_OFF then is moved back, whatever the host or a technician did with it
meanwhile, and no other. -/
def State.requeue (s : State) (time : EventTime) (b : Bay) : State :=
  if (s.bay b).state = .idleOff ∧ s.mayQueue b then (s.move b .queued none []).joinAt b .powerOn time else s

/-- The reload of a warm restart and the work that follows it (R145, R73, R40; the order of the blocks is a DESIGN CHOICE,
notes/assumptions/11.md), for the bays found QUEUED and the restart's event time. -/
def State.finishRestart (s : State) (awaited : AwaitedReload) : State :=
  let s1 := s.reload
  let s2 := allFans.foldl State.fanReloaded s1
  let s3 := allZones.foldl State.retargetQuietly s2
  let s4 := s3.budgetReloaded
  let s5 := allZones.foldl State.judgeZone s4
  let s6 := s5.reselect [.idleOff, .queued, .faulted]
  let s7 := awaited.queued.foldl (State.requeue · awaited.time ·) s6
  s7.quarantineCheck

/-- A warm restart (R39, R40, R195): its reload waits while a settings write is in progress. -/
def State.warmRestart (s : State) : State :=
  let t := s.warmAtOnce
  let awaited : AwaitedReload := ⟨s.requeueSet, s.time⟩
  if s.store.writing.isSome then t.putStore { t.store with reloadAwaited := some awaited } else t.finishRestart awaited

/-! ## Completion of a settings write (R195) -/

/-- A settings write completes: the image is the copied items with their check, and an awaited reload follows. -/
def State.writeCompletes (s : State) (items : Settings) : State :=
  let t := s.putStore { s.store with image := imageOf items, writing := none }
  match s.store.reloadAwaited with
  | none => t
  | some awaited => t.finishRestart awaited

/-- SETTINGS_WRITE_COMPLETE (R195): at any moment of the 200 ms. -/
def execSettingsWriteComplete (s : State) : Host.Outcome State Fault Refusal :=
  .next (match s.store.writing with
    | none => s
    | some w => s.writeCompletes w.items)

end Sys2Proof.Machine
end

