-- ==== Sys2Proof/Machine/BudgetRequests.lean ====
section
/-! DEFINITION. The requests the power budget unit and the admission arbiter carry out (Chapters 4 and 5). -/

namespace Sys2Proof.Machine

/-! ## SET_SUPPLY and BUDGET_STATUS (R58, R71) -/

/-- The parameters a SET_SUPPLY carries (R186). -/
def supplyAt (p : List Byte) : SupplyParams :=
  ⟨#v[u32At p 0, u32At p 4, u32At p 8, u32At p 12], if byteAt p 16 = 0 then .shared else .redundant, byteAt p 17,
    u16At p 18⟩

/-- The parameters saturated and clamped (R58). -/
def SupplyParams.clamped (x : SupplyParams) : SupplyParams :=
  ⟨Table.each (min 200000) x.capacities, x.policy, clampNat 50 100 x.derate, min 60000 x.base⟩

/-- The parameters in their 20 bytes (R186). -/
def SupplyParams.bytes (x : SupplyParams) : List Byte :=
  allSlots.flatMap (fun k => u32 (x.capacities.get k)) ++ [x.policy.byte] ++ u8 x.derate ++ u16 x.base

/-- SET_SUPPLY (R58): one recomputation follows the write. -/
def State.setSupply (s : State) (p : List Byte) : State × Answer :=
  if 1 < byteAt p 16 then refuse s .badValue
  else
    let sent := supplyAt p
    let x := sent.clamped
    ((s.putCfg { s.cfg with supply := x }).recompute, answer (writtenStatus (x != sent)) x.bytes)

/-- A slot's 5 bytes (R186). -/
def State.slotBytes (s : State) (k : Slot) : List Byte :=
  let l := s.budget.slots.get k
  u32 (s.cfg.supply.capacities.get k) ++ u8 (bitSet [l.present.accepted, l.good.accepted] + 16 * l.condition.byte.toNat)

/-- Bay numbers in 24 places, FFh in the unused ones (R186). -/
def bayPlaces (bays : List Bay) : List Byte :=
  (bays.map fun b => BitVec.ofNat 8 b.val) ++ List.replicate (24 - bays.length) 0xff

/-- BUDGET_STATUS (R71, R186). -/
def State.budgetStatus (s : State) (_ : List Byte) : State × Answer :=
  let x := s.budget
  reads s (allSlots.flatMap s.slotBytes ++ [s.cfg.supply.policy.byte] ++ u8 s.cfg.supply.derate ++
    u16 s.cfg.supply.base ++ u32 x.figures.raw ++ u32 x.figures.effective ++ u16 x.figures.fanLoad ++
    allFans.flatMap (fun f => u16 (x.fanViews.get f).price) ++ u32 x.committed ++
    allBays.flatMap (fun b => u16 (x.commitments.get b)) ++ u32 x.figures.load ++ s32 x.figures.headroom ++
    flag8 x.overcommitted ++ u8 x.grantOrder.length ++ bayPlaces x.grantOrder.reverse ++
    [byteOrFF (x.outstanding.map fun b => BitVec.ofNat 8 b.val)])

/-! ## SET_ADMISSION and QUEUE_STATUS (R77, R97) -/

/-- The parameters a SET_ADMISSION carries (R186). -/
def admissionAt (p : List Byte) : AdmissionParams := ⟨byteAt p 0, u16At p 1, byteAt p 3, byteAt p 4, u16At p 5⟩

/-- The parameters clamped to Table 5-2 (R77). -/
def AdmissionParams.clamped (x : AdmissionParams) : AdmissionParams :=
  ⟨clampNat 1 8 x.k, min 10000 x.stagger, min 8 x.bypassLimit, min 3 x.retryLimit, clampNat 500 30000 x.grantWindow⟩

/-- The parameters in their 7 bytes (R186). -/
def AdmissionParams.bytes (x : AdmissionParams) : List Byte :=
  u8 x.k ++ u16 x.stagger ++ u8 x.bypassLimit ++ u8 x.retryLimit ++ u16 x.grantWindow

/-- The quarantine check made only for a lowered retry limit (R113). -/
def State.quarantineCheckIf (s : State) (c : Bool) : State := if c then s.quarantineCheck else s

/-- The admission parameters written (R77): the quarantine check on a lowered retry limit, then the trigger of a raised K,
bypass limit or retry limit. -/
def State.writeAdmission (s : State) (x : AdmissionParams) : State :=
  let old := s.cfg.admission
  ((s.putCfg { s.cfg with admission := x }).quarantineCheckIf (x.retryLimit < old.retryLimit)).triggerIf
    (decide (old.k < x.k) || decide (old.bypassLimit < x.bypassLimit) || decide (old.retryLimit < x.retryLimit))

/-- SET_ADMISSION (R77). -/
def State.setAdmission (s : State) (p : List Byte) : State × Answer :=
  let sent := admissionAt p
  let x := sent.clamped
  (s.writeAdmission x, answer (writtenStatus (x != sent)) x.bytes)

/-- A queue entry in its 8 bytes (R186). -/
def QueueEntry.bytes (e : QueueEntry) : List Byte :=
  u8 e.bay.val ++ [e.kind.byte] ++ u8 e.cls.val ++ u32 e.joinTime.toNat ++ u8 e.bypass

/-- A bay and a price, FFh and FFFFh for none (R186). -/
def bayAndPrice (o : Option (Bay × Nat)) : List Byte :=
  [byteOrFF (o.map fun x => BitVec.ofNat 8 x.1.val)] ++ u16OrFFFF (o.map Prod.snd)

/-- The last-pass record in its 16 bytes (R186). DEDUCED (notes/assumptions/16.md): with no record the present byte is 0
and every byte after it FFh. -/
def lastPassBytes (o : Option PassRecord) : List Byte :=
  match o with
  | none => u8 0 ++ List.replicate 15 0xff
  | some r => u8 1 ++ u32 r.time.toNat ++ [r.result.byte] ++ bayAndPrice r.head ++ bayAndPrice r.granted ++ s32 r.headroom

/-- QUEUE_STATUS (R97, R186). -/
def State.queueStatus (s : State) (_ : List Byte) : State × Answer :=
  let a := s.arbiter
  reads s (s.cfg.admission.bytes ++ u8 a.queue.length ++ a.queue.flatMap QueueEntry.bytes ++
    List.replicate (8 * (24 - a.queue.length)) 0xff ++ u8 a.spinCount ++ u16OrFFFF a.stagger ++
    flag8 (allBays.any fun b => (s.bay b).state == .ramping) ++ flag8 a.startUpHold ++
    [byteOrFF (a.grantRecord.map fun g => BitVec.ofNat 8 g.bay.val), byteOrFF (a.grantRecord.map fun g => g.kind.byte)] ++
    flag8 a.pendingMark ++ lastPassBytes a.lastPass)

end Sys2Proof.Machine
end

