-- ==== Sys2Proof/Machine/CoolingRequests.lean ====
section
/-! DEFINITION. The requests the cooling controller carries out (Chapter 7). -/

namespace Sys2Proof.Machine

/-! ## DRIVE_TEMPS (R128) -/

/-- A bay's drive report replaced. -/
def State.putReport (s : State) (b : Bay) (r : Option DriveReport) : State :=
  s.putCooling { s.cooling with reports := Table.put s.cooling.reports b r }

/-- One pair of DRIVE_TEMPS: a bay number and a temperature as sent (R128). -/
def State.drivePair (s : State) (n : Nat) (t : Int) : State × Status :=
  match bayOfNumber n with
  | none => (s, .badBay)
  | some b =>
    if (s.bay b).state = .empty then (s, .wrongState)
    else if t = 127 then (s.putReport b none, .ok)
    else (s.putReport b (some ⟨clampTemp t, some 60000⟩), writtenStatus (clampTemp t != t))

/-- The pairs of DRIVE_TEMPS in order, each with its status (R128). -/
def State.drivePairs : State → List Byte → State × List Status
  | s, n :: t :: rest =>
    match s.drivePair n.toNat t.toInt with
    | (s', st) =>
      match State.drivePairs s' rest with
      | (u, sts) => (u, st :: sts)
  | s, _ => (s, [])

/-- The zones that hold a bay whose report differs from what it was (R128). -/
def State.zonesReported (s : State) (before : Table (Option DriveReport) 24) : List Zone :=
  allZones.filter fun z => (s.baysOf z).any fun b => s.cooling.reports.get b != before.get b

/-- DRIVE_TEMPS (R128): a count of 0 or above 24 refuses it (R185). -/
def State.driveTemps (s : State) (p : List Byte) : State × Answer :=
  let n := byteAt p 0
  if n = 0 ∨ 24 < n then refuse s .badValue
  else
    let r := s.drivePairs (p.drop 1)
    (r.1.reviewZones (r.1.zonesReported s.cooling.reports), answer .ok (u8 n ++ r.2.map Status.byte))

/-! ## SET_ZONE (R131, R132) -/

/-- A zone's air curve written, and its target recomputed (R131). -/
def State.writeAirCurve (s : State) (z : Zone) (c : Curve) : State :=
  (s.putCfg { s.cfg with airCurves := Table.put s.cfg.airCurves z.number c }).retarget false z

/-- SET_ZONE in its zone form (R131). -/
def State.setZoneCurve (s : State) (p : List Byte) : State × Answer :=
  let sent := curveAt p 1
  let c := sent.clamped
  if 3 < byteAt p 0 then refuse s .badValue
  else if !c.ok then refuse s .badValue
  else (s.writeAirCurve (zoneOfCode (byteAt p 0)) c, answer (writtenStatus (c != sent)) (u8 (byteAt p 0) ++ c.bytes))

/-- The common settings a payload carries (R185). -/
def commonAt (p : List Byte) : CoolingCommon :=
  ⟨curveAt p 1, byteAt p 9, byteAt p 10, byteAt p 11, s8At p 12, s8At p 13, s8At p 14, s8At p 15, u16At p 16⟩

/-- The common settings clamped (R132). -/
def CoolingCommon.clamped (c : CoolingCommon) : CoolingCommon :=
  ⟨c.driveCurve.clamped, min 100 c.floorDuty, min 100 c.staleDuty, min 100 c.failoverDuty, clampTemp c.airWarning,
    clampTemp c.airCritical, clampTemp c.driveWarning, clampTemp c.driveCritical, c.windowMs⟩

/-- The checks on the clamped settings (R132). -/
def CoolingCommon.ok (c : CoolingCommon) : Bool :=
  c.driveCurve.ok ∧ c.airWarning < c.airCritical ∧ c.driveWarning < c.driveCritical

/-- The tachometer windows there are (R121). -/
def windowAllowed (ms : Nat) : Bool := ms = 250 ∨ ms = 500 ∨ ms = 1000

/-- The common settings in their 17 bytes (Tables 10-6 and 10-7). -/
def CoolingCommon.bytes (c : CoolingCommon) : List Byte :=
  c.driveCurve.bytes ++ u8 c.floorDuty ++ u8 c.staleDuty ++ u8 c.failoverDuty ++ s8 c.airWarning ++ s8 c.airCritical ++
    s8 c.driveWarning ++ s8 c.driveCritical ++ u16 c.windowMs

/-- SET_ZONE in its common form (R132). -/
def State.setZoneCommon (s : State) (p : List Byte) : State × Answer :=
  let sent := commonAt p
  let c := sent.clamped
  if !windowAllowed c.windowMs then refuse s .badValue
  else if !c.ok then refuse s .badValue
  else
    ((s.putCfg { s.cfg with common := c }).reviewZones allZones,
      answer (writtenStatus (c != sent)) (u8 3 ++ c.bytes))

/-- SET_ZONE, by its zone code (R185). -/
def State.setZone (s : State) (p : List Byte) : State × Answer :=
  if byteAt p 0 = 3 then s.setZoneCommon p else s.setZoneCurve p

/-! ## SET_FAN (R124) -/

/-- The fan settings a payload carries (R185). -/
def fanSettingsAt (p : List Byte) : FanSettings :=
  ⟨byteAt p 1 == 1, u16At p 2, byteAt p 4, u16At p 5, u16At p 7⟩

/-- The fan settings clamped, full_mA into the range from the stored idle_mA (R124). -/
def FanSettings.clamped (x : FanSettings) : FanSettings :=
  ⟨x.absent, min 20000 x.minRpm, clampNat 1 4 x.ppr, min 2000 x.idle, clampNat (min 2000 x.idle) 6000 x.full⟩

/-- The fan settings in their bytes (R185). -/
def FanSettings.bytes (x : FanSettings) : List Byte :=
  flag8 x.absent ++ u16 x.minRpm ++ u8 x.ppr ++ u16 x.idle ++ u16 x.full

/-- A fan's settings are written (R124): the state follows the absent setting, a change goes to the budget unit (R120),
and a change of state recomputes the zone's target (R135). -/
def State.writeFan (s : State) (f : Fan) (x : FanSettings) : State :=
  let before := s.fan f
  let limits := s.cfg.fans.get f
  let s1 := s.putCfg { s.cfg with fans := Table.put s.cfg.fans f x }
  let after := s1.fanAfterSetting f x.absent
  let s2 := s1.putFan f after
  let s3 :=
    if after.state = before.state ∧ after.duty = before.duty ∧ x.idle = limits.idle ∧ x.full = limits.full then s2
    else s2.fanNotice f
  if after.state = before.state then s3 else s3.retarget false (zoneOfFan f)

/-- A fan number. -/
def fanOfNumber (n : Nat) : Option Fan := if h : n < 6 then some ⟨n, h⟩ else none

/-- SET_FAN (R124). -/
def State.setFan (s : State) (p : List Byte) : State × Answer :=
  match fanOfNumber (byteAt p 0) with
  | none => refuse s .badValue
  | some f =>
    if 1 < byteAt p 1 then refuse s .badValue
    else
      let sent := fanSettingsAt p
      let x := sent.clamped
      let t := s.writeFan f x
      (t, answer (writtenStatus (x != sent)) (u8 f.val ++ x.bytes ++ [(t.fan f).state.byte]))

/-! ## COOLING_STATUS (R143) -/

/-- A zone's 9 bytes (Table 10-7). -/
def State.zoneBytes (s : State) (z : Zone) : List Byte :=
  tempOr7F (s.airInput z) ++ tempOr7F (s.highestFresh z) ++ u8 (s.airTerm z) ++ u8 (s.driveTerm z) ++
    u16 (s.heatAdder z) ++ u8 (s.zoneTarget z) ++ u8 (s.zone z).duty ++ [(s.zone z).thermal.byte]

/-- A fan's 12 bytes (Table 10-7). -/
def State.fanBytes (s : State) (f : Fan) : List Byte :=
  let r := s.fan f
  let x := s.cfg.fans.get f
  [r.state.byte] ++ u8 r.duty ++ rpmField r.rpm ++ u8 (r.low + 16 * r.good) ++ u16 x.minRpm ++ u8 x.ppr ++ u16 x.idle ++
    u16 x.full

/-- A sensor's 3 bytes (Table 10-7). -/
def SensorRecord.bytes (k : SensorRecord) : List Byte := [k.state.byte] ++ tempOr7F k.held ++ u8 k.failures

/-- A bay report's 3 bytes (Table 10-7). -/
def reportBytes (o : Option DriveReport) : List Byte :=
  tempOr7F (o.map DriveReport.temp) ++ u16OrFFFF (o.bind DriveReport.age)

/-- COOLING_STATUS (R143). -/
def State.coolingStatus (s : State) (_ : List Byte) : State × Answer :=
  reads s (allZones.flatMap s.zoneBytes ++ allFans.flatMap s.fanBytes ++
    allSensors.flatMap (fun k => (s.cooling.sensors.get k).bytes) ++
    allBays.flatMap (fun b => reportBytes (s.cooling.reports.get b)) ++
    allZones.flatMap (fun z => (s.cfg.airCurves.get z.number).bytes) ++ s.cfg.common.bytes ++
    u16OrFFFF s.cooling.fanCheck)

end Sys2Proof.Machine
end

