-- ==== Sys2Proof/Machine/LightRequests.lean ====
section
/-! DEFINITION. The requests the light controller carries out (Chapter 8). -/

namespace Sys2Proof.Machine

/-- SET_CONDITION for one bay (R147). -/
def State.setConditionBay (c : Fin 9) (v : Bool) (s : State) (b : Bay) : State × Status := (s.setCond b c v, .ok)

/-- The condition of a number in SET_CONDITION, if it is of host origin (R147). -/
def hostCondition (n : Nat) : Option (Fin 9) := if h : n < 5 then some ⟨n, by omega⟩ else none

/-- SET_CONDITION (R147): its refusals come before the bay list is expanded (R182). -/
def State.setCondition (s : State) (p : List Byte) : State × Answer :=
  match hostCondition (byteAt p 0) with
  | none => refuse s .badValue
  | some c =>
    if 1 < byteAt p 1 then refuse s .badValue
    else onBayList s (p.drop 2) .ok (State.setConditionBay c (byteAt p 1 == 1))

/-- A bay's POWER_FAULT latch is cleared (R150). -/
def State.clearLatchOf (s : State) (b : Bay) : State := s.setCond b condPowerFault false

/-- CLEAR_LATCH (R150): FFh names all bays (Table 10-5). -/
def State.clearLatch (s : State) (p : List Byte) : State × Answer :=
  if byteAt p 0 = 255 then (allBays.foldl State.clearLatchOf s, answer .ok [])
  else
    match bayOfNumber (byteAt p 0) with
    | none => refuse s .badBay
    | some b => (s.clearLatchOf b, answer .ok [])

/-- SET_LIGHT_MASK (R152). -/
def State.setLightMask (s : State) (p : List Byte) : State × Answer :=
  let mask := min 6 (byteAt p 0)
  (s.putLights { s.lights with mask := mask }, answer (writtenStatus (mask != byteAt p 0)) (u8 mask))

/-- The place of a writable pattern, 4-7, in the running configuration (R154). -/
def writablePattern (n : Nat) : Option (Fin 4) := if h : 4 ≤ n ∧ n < 8 then some ⟨n - 4, by omega⟩ else none

/-- SET_PATTERN (R154). -/
def State.setPattern (s : State) (p : List Byte) : State × Answer :=
  match writablePattern (byteAt p 0) with
  | none => refuse s .badValue
  | some i =>
    (s.putCfg { s.cfg with patterns := Table.put s.cfg.patterns i (p.getD 1 0) },
      answer .ok (u8 (byteAt p 0) ++ [p.getD 1 0]))

/-- A number below a bound as an index. -/
def below (n bound : Nat) : Option (Fin bound) := if h : n < bound then some ⟨n, h⟩ else none

/-- SET_CONDITION_PATTERN (R156). -/
def State.setConditionPattern (s : State) (p : List Byte) : State × Answer :=
  match below (byteAt p 0) 9, below (byteAt p 1) 8 with
  | some c, some i =>
    (s.putCfg { s.cfg with assign := Table.put s.cfg.assign c i }, answer .ok (u8 c.val ++ u8 i.val))
  | _, _ => refuse s .badValue

/-- SET_LOCATE (R159). -/
def State.setLocate (s : State) (p : List Byte) : State × Answer :=
  if 1 < byteAt p 0 then refuse s .badValue
  else (s.putLights { s.lights with locate := byteAt p 0 == 1 }, answer .ok [])

end Sys2Proof.Machine
end

