-- ==== Sys2Proof/Machine/ProfileRequests.lean ====
section
/-! DEFINITION. The requests the profile selector carries out (Chapter 3). -/

namespace Sys2Proof.Machine

/-- The profile a SET_PROFILE carries (R187). -/
def profileAt (p : List Byte) : Profile :=
  ⟨u16At p 1, u16At p 3, u16At p 5, u16At p 7, u16At p 9, u16At p 11, byteAt p 13⟩

/-- Each field clamped to its range in Table 3-1 (R42). -/
def Profile.clamped (x : Profile) : Profile :=
  ⟨clampNat 500 5000 x.inrush, clampNat 100 3000 x.steady, min 1500 x.standby, clampNat 1000 30000 x.spinMs,
    clampNat 100 4000 x.settle, clampNat 1000 8000 x.trip, min 20 x.heat⟩

/-- The profile relations (R41). -/
def Profile.related (x : Profile) : Bool :=
  x.standby ≤ x.steady ∧ x.steady ≤ x.inrush ∧ x.inrush ≤ x.trip ∧ x.steady ≤ x.settle

/-- The place of a writable profile, 1-7 (R42). -/
def writableProfile (n : Nat) : Option (Fin 7) := if h : 1 ≤ n ∧ n < 8 then some ⟨n - 1, by omega⟩ else none

/-- SET_PROFILE (R42): number, clamping, relations, write. -/
def State.setProfile (s : State) (p : List Byte) : State × Answer :=
  match writableProfile (byteAt p 0) with
  | none => refuse s .badValue
  | some i =>
    let sent := profileAt p
    let x := sent.clamped
    if !x.related then refuse s .badValue
    else
      (s.putCfg { s.cfg with profiles := Table.put s.cfg.profiles i x },
        answer (writtenStatus (x != sent)) (u8 (byteAt p 0) ++ x.bytes))

/-- A profile or rule number. -/
def eighth (n : Nat) : Option (Fin 8) := if h : n < 8 then some ⟨n, h⟩ else none

/-- GET_PROFILE (R44). -/
def State.getProfile (s : State) (p : List Byte) : State × Answer :=
  match eighth (byteAt p 0) with
  | none => refuse s .badValue
  | some i => reads s (u8 i.val ++ (s.cfg.profile i).bytes)

/-- A profile index clamped to 1-7 (R48). -/
def clampedIndex (n : Nat) : Fin 8 := ⟨clampNat 1 7 n, by unfold clampNat; omega⟩

/-- The rule a SET_PROFILE_RULE writes (R48). -/
def ruleAt (p : List Byte) : ProfileRule :=
  ⟨byteAt p 1 == 1, min 23 (byteAt p 2), min 31 (byteAt p 3), (p.getD 4 0).setWidth 4, clampedIndex (byteAt p 5)⟩

/-- The bytes of a rule as stored, after its number (R187). -/
def ProfileRule.bytes (r : ProfileRule) : List Byte :=
  flag8 r.enabled ++ u8 r.base ++ u8 r.mask ++ [r.carriers.setWidth 8] ++ u8 r.profile.val

/-- SET_PROFILE_RULE (R48, R49): the rule written, and the re-selection over IDLE_OFF, QUEUED and FAULTED bays. -/
def State.setProfileRule (s : State) (p : List Byte) : State × Answer :=
  match eighth (byteAt p 0) with
  | none => refuse s .badValue
  | some i =>
    if 1 < byteAt p 1 then refuse s .badValue
    else
      let r := ruleAt p
      ((s.putCfg { s.cfg with rules := Table.put s.cfg.rules i r }).reselect [.idleOff, .queued, .faulted],
        answer (writtenStatus (r.bytes != (p.drop 1).take 5)) (u8 i.val ++ r.bytes))

end Sys2Proof.Machine
end

