-- ==== Sys2Proof/Machine/UnitRequests.lean ====
section
/-! DEFINITION. The requests of the event queue, the settings store and the link interface (Chapters 9 to 11). -/

namespace Sys2Proof.Machine

/-- READ_EVENTS (R191): the oldest records removed and answered, the overflow mark reported and cleared. -/
def State.readEvents (s : State) (p : List Byte) : State × Answer :=
  let n := byteAt p 0
  if n = 0 ∨ 16 < n then refuse s .badValue
  else
    let taken := s.events.records.take n
    (s.putEvents ⟨s.events.records.drop n, false⟩,
      answer .ok (flag8 s.events.overflow ++ u8 taken.length ++ taken.flatMap EventRecord.bytes))

/-- SAVE_SETTINGS (R195): the write begins, to complete within 200 ms. -/
def State.saveSettings (s : State) (_ : List Byte) : State × Answer :=
  if s.store.writing.isSome then refuse s .storeBusy
  else (s.putStore { s.store with writing := some ⟨s.cfg, 200⟩ }, answer .accepted [])

/-- RESTART (R189): answered ACCEPTED; the restart is the after-reply action. -/
def State.restart (s : State) (_ : List Byte) : State × Answer := (s, ⟨.accepted, [], .restart⟩)

/-- SET_LINK (R189): the values are put in force by the after-reply action. -/
def State.setLink (s : State) (p : List Byte) : State × Answer :=
  match speedOfCode (byteAt p 0) with
  | none => refuse s .badValue
  | some speed =>
    let delay := min 50 (byteAt p 1)
    (s, ⟨writtenStatus (delay != byteAt p 1), [speed.byte] ++ u8 delay, .linkChange speed delay⟩)

/-- The numbers of patterns, in order. -/
def allPatterns : List (Fin 8) := [0, 1, 2, 3, 4, 5, 6, 7]

/-- UNIT_INFO (R183): the 33 bytes of Table 10-4. -/
def State.unitInfo (s : State) (_ : List Byte) : State × Answer :=
  reads s ([s.link.unitAddress, s.cfg.speed.byte] ++ u8 s.cfg.turnaround ++ u32 s.time.toNat ++
    u8 s.events.records.length ++ flag8 s.events.overflow ++ flag8 s.store.writing.isSome ++ flag8 s.store.defaulted ++
    u8 s.lights.mask ++ flag8 s.lights.locate ++ allPatterns.map s.cfg.pattern ++
    allConditions.flatMap (fun c => u8 (s.cfg.assign.get c).val) ++ flag8 s.enclosureFault ++ u8 (bitSet s.faultCauses) ++
    u8 s.lights.phase.val)

end Sys2Proof.Machine
end

