-- ==== Sys2Proof/Machine/LinkOps.lean ====
section
/-! DEFINITION. The link interface (Chapter 9): reply frames, after-reply actions, the screen, the dispatch, and the taking
of a request. -/

namespace Sys2Proof.Machine

/-! ## Frames (R164, R169) -/

/-- A reply frame (Table 9-4): 5Ah, the unit address, the kind plus 80h, the tag, the length, the status and the rest of
the payload, and the check low byte first. -/
def replyFrame (address kind tag : Byte) (a : Answer) : List Byte :=
  let covered := [address, kind + 0x80, tag, BitVec.ofNat 8 (1 + a.body.length), a.status.byte] ++ a.body
  0x5a :: (covered ++ u16 (frameCheck covered))

/-- The check agrees (R167): the sum over Address, Kind, Tag, Length and payload, against the check bytes read low byte
first. -/
def goodCheck (f : Frame) : Bool :=
  frameCheck ([f.address, f.kind, f.tag, BitVec.ofNat 8 f.payload.length] ++ f.payload) =
    f.checkLow.toNat + 256 * f.checkHigh.toNat

/-! ## Updates of the link -/

/-- The receiver replaced. -/
def State.setReceiver (s : State) (r : Receiver) : State := s.putLink { s.link with receiver := r }

/-- The reply state replaced. -/
def State.setReply (s : State) (r : ReplyState) : State := s.putLink { s.link with reply := r }

/-! ## After-reply actions (R173) -/

/-- An after-reply action is carried out. -/
def State.doAction (s : State) (a : AfterReply) : State :=
  match a with
  | .nothing => s
  | .linkChange speed turnaround => s.putCfg { s.cfg with speed := speed, turnaround := turnaround }
  | .restart => s.warmRestart

/-- The action a pending reply carries. -/
def ReplyState.action (r : ReplyState) : AfterReply :=
  match r with
  | .pending p => p.action
  | .none | .sending _ _ => .nothing

/-- A pending reply is withdrawn, and its action carried out (R172, R173). -/
def State.withdraw (s : State) : State := (s.setReply .none).doAction s.link.reply.action

/-! ## Screen, dispatch, taking (R168 to R172, R175, R177) -/

/-- The screen of R168: the kind, or BAD_KIND or BAD_LENGTH. -/
def screen (code : Byte) (payload : List Byte) : Except Status RequestKind :=
  match kindOfCode code with
  | none => .error .badKind
  | some k => if k.lengthOk payload then .ok k else .error .badLength

/-- A request is carried out by the block Table 9-8 names (R177). -/
def State.dispatch (s : State) (k : RequestKind) (p : List Byte) : State × Answer :=
  match k with
  | .unitInfo => s.unitInfo p
  | .bayStatus => s.bayStatus p
  | .baySummary => s.baySummary p
  | .setBayPolicy => s.setBayPolicy p
  | .powerOn => s.powerOn p
  | .powerOff => s.powerOff p
  | .prepareRemoval => s.prepareRemoval p
  | .spinRequest => s.spinRequest p
  | .spinDownNote => s.spinDownNote p
  | .setCondition => s.setCondition p
  | .clearLatch => s.clearLatch p
  | .setLightMask => s.setLightMask p
  | .setPattern => s.setPattern p
  | .setConditionPattern => s.setConditionPattern p
  | .setLocate => s.setLocate p
  | .driveTemps => s.driveTemps p
  | .setZone => s.setZone p
  | .setFan => s.setFan p
  | .coolingStatus => s.coolingStatus p
  | .setSupply => s.setSupply p
  | .budgetStatus => s.budgetStatus p
  | .setAdmission => s.setAdmission p
  | .queueStatus => s.queueStatus p
  | .setProfile => s.setProfile p
  | .getProfile => s.getProfile p
  | .setProfileRule => s.setProfileRule p
  | .quarantineList => s.quarantineList p
  | .clearQuarantine => s.clearQuarantine p
  | .readEvents => s.readEvents p
  | .saveSettings => s.saveSettings p
  | .restart => s.restart p
  | .setLink => s.setLink p

/-- An answer becomes the pending reply, its window measured from the end of the request by the turnaround delay in force
(R170). -/
def State.pend (s : State) (code tag : Byte) (a : Answer) : State :=
  s.setReply (.pending {
    frame := replyFrame s.link.unitAddress code tag a
    earliest := s.cfg.turnaround
    latest := s.cfg.turnaround + 20
    action := a.action })

/-- A request that passed the screen is carried out and its answer made pending. -/
def State.answered (r : State × Answer) (code tag : Byte) : State := r.1.pend code tag r.2

/-- An addressed request is taken (R168, R170, R172): it replaces a pending reply, screened out or not. -/
def State.takeAddressed (s : State) (code : Byte) (r : Request) : State :=
  match screen code r.payload with
  | .error st => s.withdraw.pend code r.tag (answer st [])
  | .ok k => State.answered (s.withdraw.dispatch k r.payload) code r.tag

/-- A broadcast request that passed the screen is carried out, and its action at once (R173, R175). -/
def State.unanswered (r : State × Answer) : State := r.1.doAction r.2.action

/-- A broadcast request is taken (R172, R175): it withdraws a pending reply. One that is screened out has no effect
(notes/assumptions/15.md). -/
def State.takeBroadcast (s : State) (code : Byte) (r : Request) : State :=
  match screen code r.payload with
  | .error _ => s
  | .ok k => State.unanswered (s.withdraw.dispatch k r.payload)

/-- A reply is being sent. -/
def ReplyState.isSending (r : ReplyState) : Bool :=
  match r with
  | .sending _ _ => true
  | .none | .pending _ => false

/-- A request of a frame with a good check is taken by its address (R167), unless a reply is being sent (R172). -/
def State.takeRequest (s : State) (code : Byte) (r : Request) : State :=
  if s.link.reply.isSending then s
  else if r.address = 0 then s.takeBroadcast code r
  else if r.address = s.link.unitAddress then s.takeAddressed code r
  else s

/-- A completed frame is judged (R167): a check that differs discards it. -/
def State.judgeFrame (s : State) (f : Frame) : State :=
  if goodCheck f then s.takeRequest f.kind ⟨f.address, f.tag, f.payload⟩ else s

/-- A frame completes (R165): while SUSPENDED nothing is framed (R171), a payload no Length announces is abandoned, and
otherwise the receiver hunts and the frame acts. -/
def State.completes (s : State) (payload : List Byte) (f : State → State) : State :=
  match s.link.receiver with
  | .suspended => s
  | .hunting | .receiving _ _ =>
    if 240 < payload.length then s.setReceiver .hunting else f (s.setReceiver .hunting)

/-- A request's frame with a good check completes. DESIGN CHOICE (notes/assumptions/20.md): a request row of the table
stands for its whole frame. -/
def State.requestFrame (s : State) (code : Byte) (r : Request) : State :=
  s.completes r.payload fun t => t.takeRequest code r

end Sys2Proof.Machine
end

