-- ==== Sys2Proof/Machine/LinkCommands.lean ====
section
/-! DEFINITION. The commands of the link interface (Chapter 9): characters, framing errors, gaps, completed frames, replies,
and the requests of the host. -/

namespace Sys2Proof.Machine

/-! ## Receiving (R165 to R167) -/

/-- The frame of the bytes taken after the Start byte, when they are complete (Table 9-3). -/
def frameOf (taken : List Byte) : Frame :=
  let n := byteAt taken 3
  ⟨taken.getD 0 0, taken.getD 1 0, taken.getD 2 0, (taken.drop 4).take n, taken.getD (4 + n) 0, taken.getD (5 + n) 0⟩

/-- A byte taken while RECEIVING (R165): a Length above 240 abandons the frame, and the high check byte completes it. -/
def State.byteTaken (s : State) (taken : List Byte) : State :=
  if taken.length = 4 ∧ 240 < byteAt taken 3 then s.setReceiver .hunting
  else if 4 ≤ taken.length ∧ taken.length = 6 + byteAt taken 3 then
    (s.setReceiver .hunting).judgeFrame (frameOf taken)
  else s.setReceiver (.receiving taken 0)

/-- The receiver takes a character it has framed (R165). -/
def State.characterFramed (s : State) (byte : Byte) : State :=
  match s.link.receiver with
  | .suspended => s
  | .hunting => if byte = 0xa5 then s.setReceiver (.receiving [] 0) else s
  | .receiving taken _ => s.byteTaken (taken ++ [byte])

/-- CHARACTER_RECEIVED (R165): a character whose start bit began while SUSPENDED is not framed (R162). DEDUCED
(notes/assumptions/40.md): one that ends while SUSPENDED has no effect either (R171). -/
def execCharacterReceived (character : Character) (s : State) : Host.Outcome State Fault Refusal :=
  .next (if character.suspended then s else s.characterFramed character.byte)

/-- A frame in progress is abandoned (R166). -/
def State.abandonFrame (s : State) : State :=
  match s.link.receiver with
  | .receiving _ _ => s.setReceiver .hunting
  | .hunting | .suspended => s

/-- FRAMING_ERROR (R166). A bad stop bit of a character that is not framed, its start bit having begun while SUSPENDED, ends
while SUSPENDED or in the HUNTING that follows the transmission, and has no effect in either (R162). -/
def execFramingError (s : State) : Host.Outcome State Fault Refusal := .next s.abandonFrame

/-- GAP_TIMEOUT (R166). -/
def execGapTimeout (s : State) : Host.Outcome State Fault Refusal := .next s.abandonFrame

/-- FRAME_DISCARD (R167): a frame completes and is judged. -/
def execFrameDiscard (f : Frame) (s : State) : Host.Outcome State Fault Refusal :=
  .next (s.completes f.payload fun t => t.judgeFrame f)

/-! ## Replies (R170, R171, R173) -/

/-- The transmission of a pending reply begins, which suspends the receiver (R171). -/
def State.beginReply (s : State) (r : PendingReply) : State :=
  (s.setReply (.sending r.frame r.action)).setReceiver .suspended

/-- REPLY_BEGIN (R170): from the earliest moment of its window on, a pending reply begins while the receiver is HUNTING. The
latest moment does not pass (`State.replyDue`). -/
def execReplyBegin (s : State) : Host.Outcome State Fault Refusal :=
  .next (match s.link.reply, s.link.receiver with
    | .pending r, .hunting => if r.earliest = 0 then s.beginReply r else s
    | _, _ => s)

/-- REPLY_SENT (R171): the reply state NONE, the receiver HUNTING, the after-reply action carried out. -/
def execReplySent (s : State) : Host.Outcome State Fault Refusal :=
  .next (match s.link.reply with
    | .sending _ action => ((s.setReply .none).setReceiver .hunting).doAction action
    | .none | .pending _ => s)

/-- A pending reply lapses (R170, R173): one with an action abandons the frame in progress. DEDUCED
(notes/assumptions/31.md): one without leaves the frame in progress. -/
def State.lapse (s : State) (r : PendingReply) : State :=
  if r.action = .nothing then s.setReply .none
  else ((s.setReply .none).setReceiver .hunting).doAction r.action

/-- REPLY_LAPSE (R170): the latest moment has come while the receiver is RECEIVING. -/
def execReplyLapse (s : State) : Host.Outcome State Fault Refusal :=
  .next (match s.link.reply, s.link.receiver with
    | .pending r, .receiving _ _ => if r.latest = 0 then s.lapse r else s
    | _, _ => s)

/-- What becomes of a pending reply at its latest moment, before more time passes (R170): it begins while the receiver is
HUNTING and lapses while it is RECEIVING. `none` where no reply has come to its latest moment. DEDUCED
(notes/assumptions/39.md). -/
def State.replyDue (s : State) : Option State :=
  match s.link.reply, s.link.receiver with
  | .pending r, .hunting => if r.earliest = 0 ∧ r.latest = 0 then some (s.beginReply r) else none
  | .pending r, .receiving _ _ => if r.latest = 0 then some (s.lapse r) else none
  | _, _ => none

/-! ## Requests (Table 9-8) -/

/-- BAD_KIND (R168): a request with this kind code completes; a code of Table 9-8 makes it that request. -/
def execBadKind (kind : Byte) (r : Request) (s : State) : Host.Outcome State Fault Refusal :=
  .next (s.requestFrame kind r)

/-- UNIT_INFO (R183). -/
def execUnitInfo (r : Request) (s : State) : Host.Outcome State Fault Refusal :=
  .next (s.requestFrame RequestKind.unitInfo.byte r)

/-- BAY_STATUS (R183). -/
def execBayStatus (r : Request) (s : State) : Host.Outcome State Fault Refusal :=
  .next (s.requestFrame RequestKind.bayStatus.byte r)

/-- BAY_SUMMARY (R183). -/
def execBaySummary (r : Request) (s : State) : Host.Outcome State Fault Refusal :=
  .next (s.requestFrame RequestKind.baySummary.byte r)

/-- SET_BAY_POLICY (R34, R182). -/
def execSetBayPolicy (r : Request) (s : State) : Host.Outcome State Fault Refusal :=
  .next (s.requestFrame RequestKind.setBayPolicy.byte r)

/-- POWER_ON (R23). -/
def execPowerOn (r : Request) (s : State) : Host.Outcome State Fault Refusal :=
  .next (s.requestFrame RequestKind.powerOn.byte r)

/-- POWER_OFF (R30). -/
def execPowerOff (r : Request) (s : State) : Host.Outcome State Fault Refusal :=
  .next (s.requestFrame RequestKind.powerOff.byte r)

/-- PREPARE_REMOVAL (R31). -/
def execPrepareRemoval (r : Request) (s : State) : Host.Outcome State Fault Refusal :=
  .next (s.requestFrame RequestKind.prepareRemoval.byte r)

/-- SPIN_REQUEST (R26). -/
def execSpinRequest (r : Request) (s : State) : Host.Outcome State Fault Refusal :=
  .next (s.requestFrame RequestKind.spinRequest.byte r)

/-- SPIN_DOWN_NOTE (R26). -/
def execSpinDownNote (r : Request) (s : State) : Host.Outcome State Fault Refusal :=
  .next (s.requestFrame RequestKind.spinDownNote.byte r)

/-- SET_CONDITION (R147). -/
def execSetCondition (r : Request) (s : State) : Host.Outcome State Fault Refusal :=
  .next (s.requestFrame RequestKind.setCondition.byte r)

/-- CLEAR_LATCH (R150). -/
def execClearLatch (r : Request) (s : State) : Host.Outcome State Fault Refusal :=
  .next (s.requestFrame RequestKind.clearLatch.byte r)

/-- SET_LIGHT_MASK (R152). -/
def execSetLightMask (r : Request) (s : State) : Host.Outcome State Fault Refusal :=
  .next (s.requestFrame RequestKind.setLightMask.byte r)

/-- SET_PATTERN (R154). -/
def execSetPattern (r : Request) (s : State) : Host.Outcome State Fault Refusal :=
  .next (s.requestFrame RequestKind.setPattern.byte r)

/-- SET_CONDITION_PATTERN (R156). -/
def execSetConditionPattern (r : Request) (s : State) : Host.Outcome State Fault Refusal :=
  .next (s.requestFrame RequestKind.setConditionPattern.byte r)

/-- SET_LOCATE (R159). -/
def execSetLocate (r : Request) (s : State) : Host.Outcome State Fault Refusal :=
  .next (s.requestFrame RequestKind.setLocate.byte r)

/-- DRIVE_TEMPS (R128). -/
def execDriveTemps (r : Request) (s : State) : Host.Outcome State Fault Refusal :=
  .next (s.requestFrame RequestKind.driveTemps.byte r)

/-- SET_ZONE (R131), in its zone form by the payload's zone code (R185). -/
def execSetZone (r : Request) (s : State) : Host.Outcome State Fault Refusal :=
  .next (s.requestFrame RequestKind.setZone.byte r)

/-- SET_ZONE_COMMON (R132): SET_ZONE with zone code 3 (R185). -/
def execSetZoneCommon (r : Request) (s : State) : Host.Outcome State Fault Refusal :=
  .next (s.requestFrame RequestKind.setZone.byte r)

/-- SET_FAN (R124). -/
def execSetFan (r : Request) (s : State) : Host.Outcome State Fault Refusal :=
  .next (s.requestFrame RequestKind.setFan.byte r)

/-- COOLING_STATUS (R143). -/
def execCoolingStatus (r : Request) (s : State) : Host.Outcome State Fault Refusal :=
  .next (s.requestFrame RequestKind.coolingStatus.byte r)

/-- SET_SUPPLY (R58). -/
def execSetSupply (r : Request) (s : State) : Host.Outcome State Fault Refusal :=
  .next (s.requestFrame RequestKind.setSupply.byte r)

/-- BUDGET_STATUS (R71). -/
def execBudgetStatus (r : Request) (s : State) : Host.Outcome State Fault Refusal :=
  .next (s.requestFrame RequestKind.budgetStatus.byte r)

/-- SET_ADMISSION (R77). -/
def execSetAdmission (r : Request) (s : State) : Host.Outcome State Fault Refusal :=
  .next (s.requestFrame RequestKind.setAdmission.byte r)

/-- QUEUE_STATUS (R97). -/
def execQueueStatus (r : Request) (s : State) : Host.Outcome State Fault Refusal :=
  .next (s.requestFrame RequestKind.queueStatus.byte r)

/-- SET_PROFILE (R42). -/
def execSetProfile (r : Request) (s : State) : Host.Outcome State Fault Refusal :=
  .next (s.requestFrame RequestKind.setProfile.byte r)

/-- GET_PROFILE (R44). -/
def execGetProfile (r : Request) (s : State) : Host.Outcome State Fault Refusal :=
  .next (s.requestFrame RequestKind.getProfile.byte r)

/-- SET_PROFILE_RULE (R48). -/
def execSetProfileRule (r : Request) (s : State) : Host.Outcome State Fault Refusal :=
  .next (s.requestFrame RequestKind.setProfileRule.byte r)

/-- QUARANTINE_LIST (R117). -/
def execQuarantineList (r : Request) (s : State) : Host.Outcome State Fault Refusal :=
  .next (s.requestFrame RequestKind.quarantineList.byte r)

/-- CLEAR_QUARANTINE (R116). -/
def execClearQuarantine (r : Request) (s : State) : Host.Outcome State Fault Refusal :=
  .next (s.requestFrame RequestKind.clearQuarantine.byte r)

/-- READ_EVENTS (R191). -/
def execReadEvents (r : Request) (s : State) : Host.Outcome State Fault Refusal :=
  .next (s.requestFrame RequestKind.readEvents.byte r)

/-- SAVE_SETTINGS (R195). -/
def execSaveSettings (r : Request) (s : State) : Host.Outcome State Fault Refusal :=
  .next (s.requestFrame RequestKind.saveSettings.byte r)

/-- RESTART (R189). -/
def execRestart (r : Request) (s : State) : Host.Outcome State Fault Refusal :=
  .next (s.requestFrame RequestKind.restart.byte r)

/-- SET_LINK (R189). -/
def execSetLink (r : Request) (s : State) : Host.Outcome State Fault Refusal :=
  .next (s.requestFrame RequestKind.setLink.byte r)

end Sys2Proof.Machine
end

