-- ==== Sys2Proof/Machine/Dispatch.lean ====
section
/-! DEFINITION. The dispatch of a command to its meaning: one arm per constructor of Instr. -/

namespace Sys2Proof.Machine

def exec (i : Instr) (s : State) : Host.Outcome State Fault Refusal :=
  match i with
  | .standbyPowerUp straps => Sys2Proof.Machine.execStandbyPowerUp straps s
  | .resetAsserted straps => Sys2Proof.Machine.execResetAsserted straps s
  | .presenceRawEdge bay contact level => Sys2Proof.Machine.execPresenceRawEdge bay contact level s
  | .presenceFilterExpiry bay contacts => Sys2Proof.Machine.execPresenceFilterExpiry bay contacts s
  | .carrierRawEdge bay line level => Sys2Proof.Machine.execCarrierRawEdge bay line level s
  | .carrierFilterExpiry bay line => Sys2Proof.Machine.execCarrierFilterExpiry bay line s
  | .seatTimerExpiry bay => Sys2Proof.Machine.execSeatTimerExpiry bay s
  | .rampTimerExpiry bay => Sys2Proof.Machine.execRampTimerExpiry bay s
  | .currentSample bay mA => Sys2Proof.Machine.execCurrentSample bay mA s
  | .tripExcursion bay mA => Sys2Proof.Machine.execTripExcursion bay mA s
  | .actiAssert bay => Sys2Proof.Machine.execActiAssert bay s
  | .activityStretchExpiry bay => Sys2Proof.Machine.execActivityStretchExpiry bay s
  | .contactChange bay => Sys2Proof.Machine.execContactChange bay s
  | .seatStable bay => Sys2Proof.Machine.execSeatStable bay s
  | .rampEnd bay => Sys2Proof.Machine.execRampEnd bay s
  | .trip bay => Sys2Proof.Machine.execTrip bay s
  | .riseCross bay => Sys2Proof.Machine.execRiseCross bay s
  | .fallCross bay => Sys2Proof.Machine.execFallCross bay s
  | .partialTimerExpiry bay => Sys2Proof.Machine.execPartialTimerExpiry bay s
  | .spinTimerExpiry bay => Sys2Proof.Machine.execSpinTimerExpiry bay s
  | .settleExtensionExpiry bay => Sys2Proof.Machine.execSettleExtensionExpiry bay s
  | .grantWindowExpiry bay => Sys2Proof.Machine.execGrantWindowExpiry bay s
  | .dischargeExpiry bay => Sys2Proof.Machine.execDischargeExpiry bay s
  | .extractionWindowExpiry bay => Sys2Proof.Machine.execExtractionWindowExpiry bay s
  | .backoffExpiry bay => Sys2Proof.Machine.execBackoffExpiry bay s
  | .grantTaken bay => Sys2Proof.Machine.execGrantTaken bay s
  | .grantDecline bay => Sys2Proof.Machine.execGrantDecline bay s
  | .revocationRequest bay => Sys2Proof.Machine.execRevocationRequest bay s
  | .staggerExpiry => Sys2Proof.Machine.execStaggerExpiry s
  | .supplyRawEdge slot line level => Sys2Proof.Machine.execSupplyRawEdge slot line level s
  | .supplyLineAccepted slot lines => Sys2Proof.Machine.execSupplyLineAccepted slot lines s
  | .tachPulse fan => Sys2Proof.Machine.execTachPulse fan s
  | .tachWindowEnd fan => Sys2Proof.Machine.execTachWindowEnd fan s
  | .sensorReadStart => Sys2Proof.Machine.execSensorReadStart s
  | .sensorReadComplete sensor result => Sys2Proof.Machine.execSensorReadComplete sensor result s
  | .driveTempAgeExpiry bay => Sys2Proof.Machine.execDriveTempAgeExpiry bay s
  | .evaluation => Sys2Proof.Machine.execEvaluation s
  | .fanCheckEnd => Sys2Proof.Machine.execFanCheckEnd s
  | .stepBoundary => Sys2Proof.Machine.execStepBoundary s
  | .settingsWriteComplete => Sys2Proof.Machine.execSettingsWriteComplete s
  | .framingError => Sys2Proof.Machine.execFramingError s
  | .gapTimeout => Sys2Proof.Machine.execGapTimeout s
  | .frameDiscard frame => Sys2Proof.Machine.execFrameDiscard frame s
  | .badKind kind request => Sys2Proof.Machine.execBadKind kind request s
  | .replyBegin => Sys2Proof.Machine.execReplyBegin s
  | .replySent => Sys2Proof.Machine.execReplySent s
  | .replyLapse => Sys2Proof.Machine.execReplyLapse s
  | .unitInfo request => Sys2Proof.Machine.execUnitInfo request s
  | .bayStatus request => Sys2Proof.Machine.execBayStatus request s
  | .baySummary request => Sys2Proof.Machine.execBaySummary request s
  | .setBayPolicy request => Sys2Proof.Machine.execSetBayPolicy request s
  | .powerOn request => Sys2Proof.Machine.execPowerOn request s
  | .powerOff request => Sys2Proof.Machine.execPowerOff request s
  | .prepareRemoval request => Sys2Proof.Machine.execPrepareRemoval request s
  | .spinRequest request => Sys2Proof.Machine.execSpinRequest request s
  | .spinDownNote request => Sys2Proof.Machine.execSpinDownNote request s
  | .setCondition request => Sys2Proof.Machine.execSetCondition request s
  | .clearLatch request => Sys2Proof.Machine.execClearLatch request s
  | .setLightMask request => Sys2Proof.Machine.execSetLightMask request s
  | .setPattern request => Sys2Proof.Machine.execSetPattern request s
  | .setConditionPattern request => Sys2Proof.Machine.execSetConditionPattern request s
  | .setLocate request => Sys2Proof.Machine.execSetLocate request s
  | .driveTemps request => Sys2Proof.Machine.execDriveTemps request s
  | .setZone request => Sys2Proof.Machine.execSetZone request s
  | .setZoneCommon request => Sys2Proof.Machine.execSetZoneCommon request s
  | .setFan request => Sys2Proof.Machine.execSetFan request s
  | .coolingStatus request => Sys2Proof.Machine.execCoolingStatus request s
  | .setSupply request => Sys2Proof.Machine.execSetSupply request s
  | .budgetStatus request => Sys2Proof.Machine.execBudgetStatus request s
  | .setAdmission request => Sys2Proof.Machine.execSetAdmission request s
  | .queueStatus request => Sys2Proof.Machine.execQueueStatus request s
  | .setProfile request => Sys2Proof.Machine.execSetProfile request s
  | .getProfile request => Sys2Proof.Machine.execGetProfile request s
  | .setProfileRule request => Sys2Proof.Machine.execSetProfileRule request s
  | .quarantineList request => Sys2Proof.Machine.execQuarantineList request s
  | .clearQuarantine request => Sys2Proof.Machine.execClearQuarantine request s
  | .readEvents request => Sys2Proof.Machine.execReadEvents request s
  | .saveSettings request => Sys2Proof.Machine.execSaveSettings request s
  | .restart request => Sys2Proof.Machine.execRestart request s
  | .setLink request => Sys2Proof.Machine.execSetLink request s
  | .characterReceived character => Sys2Proof.Machine.execCharacterReceived character s

end Sys2Proof.Machine
end

