-- ==== Sys2Proof/Machine/Tick.lean ====
section
/-! DEFINITION. What the part does while no command waits (notes/assumptions/1.md): RESET is released, a settings write at its
latest moment completes, a pending reply at its latest moment begins or lapses, or a millisecond passes for the event time
and the timers. -/

namespace Sys2Proof.Machine

/-- A count-down that runs. -/
def countDown (o : Option Nat) : Option Nat := o.map fun n => n - 1

/-- A filter's time. -/
def FilteredLine.tick (l : FilteredLine) : FilteredLine := { l with filter := countDown l.filter }

/-- A channel's timers (R2, R3, R5, R6, R13). -/
def Channel.tick (c : Channel) : Channel :=
  { c with
    early := c.early.tick
    late := c.late.tick
    car1 := c.car1.tick
    car0 := c.car0.tick
    seatTimer := c.seatTimer.map fun n => min 250 (n + 1)
    rampTimer := countDown c.rampTimer
    stretch := countDown c.stretch }

/-- A bay's state timer (R17). -/
def BayRecord.tick (r : BayRecord) : BayRecord := { r with timer := countDown r.timer }

/-- A slot's filters (R53). -/
def SlotLines.tick (l : SlotLines) : SlotLines := ⟨l.present.tick, l.good.tick⟩

/-- A fan's window (R121). -/
def FanRecord.tick (r : FanRecord) : FanRecord := { r with window := r.window.map fun w => { w with left := w.left - 1 } }

/-- A drive report's age timer (R128). -/
def DriveReport.tick (r : DriveReport) : DriveReport := { r with age := countDown r.age }

/-- The cooling controller's timers (R125, R137, R141). -/
def Cooling.tick (x : Cooling) : Cooling :=
  { x with
    fans := Table.each FanRecord.tick x.fans
    reports := Table.each (Option.map DriveReport.tick) x.reports
    evaluation := x.evaluation - 1
    sensorRead := x.sensorRead - 1
    fanCheck := countDown x.fanCheck }

/-- The gap timer, 0 to 4 ms (R166). -/
def Receiver.tick (r : Receiver) : Receiver :=
  match r with
  | .receiving taken gap => .receiving taken (min 4 (gap + 1))
  | .hunting => .hunting
  | .suspended => .suspended

/-- A pending reply's window (R170). -/
def ReplyState.tick (r : ReplyState) : ReplyState :=
  match r with
  | .pending p => .pending { p with earliest := p.earliest - 1, latest := p.latest - 1 }
  | .none => .none
  | .sending frame action => .sending frame action

/-- A settings write's time to its latest moment (R195). -/
def SettingsWrite.tick (w : SettingsWrite) : SettingsWrite := { w with left := w.left - 1 }

/-- One millisecond passes: the event time counts up and wraps, every running timer advances and stops at its end. What
comes due is told by its own command. -/
def State.tick (s : State) : State :=
  { s with
    chans := Table.each Channel.tick s.chans
    bays := Table.each BayRecord.tick s.bays
    budget := { s.budget with slots := Table.each SlotLines.tick s.budget.slots }
    arbiter := { s.arbiter with stagger := countDown s.arbiter.stagger }
    cooling := s.cooling.tick
    lights := { s.lights with boundary := s.lights.boundary - 1 }
    link := { s.link with receiver := s.link.receiver.tick, reply := s.link.reply.tick }
    store := { s.store with writing := s.store.writing.map SettingsWrite.tick }
    time := s.time + 1 }

/-- A millisecond passes, unless a pending reply has reached the latest moment of its window (R170). -/
def State.passLink (s : State) : State := s.replyDue.getD s.tick

/-- A millisecond passes, unless a settings write has reached the latest moment of its completion: then it completes
(R195). A pending reply at its latest moment comes next. -/
def State.pass (s : State) : State :=
  match s.store.writing with
  | none => s.passLink
  | some w => if w.left = 0 then s.writeCompletes w.items else s.passLink

/-- What a step does while no command waits. DESIGN CHOICE (notes/assumptions/1.md, 19.md, 33.md, 39.md): RESET held low is
released; otherwise a settings write at its latest moment completes, or a pending reply at its own begins or lapses, or a
millisecond passes. -/
def State.idle (s : State) : State := if s.resetLow then s.putReset false else s.pass

end Sys2Proof.Machine
end

