-- ==== Sys2Proof/Machine/Step.lean ====
section
/-! DEFINITION. One step: the command at the front of the queue, or idling where none waits. -/

namespace Sys2Proof.Machine

/-- One step. DESIGN CHOICE (notes/assumptions/1.md): on an empty queue the part idles, and a millisecond passes. -/
def step (s : State) : Host.Outcome State Fault Refusal :=
  match s.pending with
  | [] => .next s.idle
  | c :: rest => exec c (s.putPending rest)

/-- The command a word spells, put at the front of the queue; the state unchanged where it spells none. -/
def State.withFetchWord (s : State) (nbits w : Nat) : State :=
  match decodeTableWord nbits w with
  | none => s
  | some c => s.putPending (c :: s.pending)

end Sys2Proof.Machine
end

