-- ==== Sys2Proof/Safety.lean ====
section
/-! DEFINITION. What the claims are stated in: the invariants that every step keeps, and what a command leaves as it
was. -/

namespace Sys2Proof.Machine

/-! ## Invariants -/

/-- The event queue holds at most 32 records (R190). -/
def EventsBounded (s : State) : Prop := s.events.records.length ≤ 32

/-- A profile has its fields in the ranges of Table 3-1 and satisfies the profile relations (R41). -/
def Profile.legal (p : Profile) : Prop :=
  (500 ≤ p.inrush ∧ p.inrush ≤ 5000) ∧ (100 ≤ p.steady ∧ p.steady ≤ 3000) ∧ p.standby ≤ 1500 ∧
    (1000 ≤ p.spinMs ∧ p.spinMs ≤ 30000) ∧ (100 ≤ p.settle ∧ p.settle ≤ 4000) ∧
    (1000 ≤ p.trip ∧ p.trip ≤ 8000) ∧ p.heat ≤ 20 ∧
    p.standby ≤ p.steady ∧ p.steady ≤ p.inrush ∧ p.inrush ≤ p.trip ∧ p.steady ≤ p.settle

/-- A curve has its points in range, its temperatures strictly increasing and its duties not decreasing (R131). -/
def Curve.legal (c : Curve) : Prop :=
  -40 ≤ c.p1.temp ∧ c.p1.temp < c.p2.temp ∧ c.p2.temp < c.p3.temp ∧ c.p3.temp < c.p4.temp ∧ c.p4.temp ≤ 125 ∧
    c.p1.duty ≤ c.p2.duty ∧ c.p2.duty ≤ c.p3.duty ∧ c.p3.duty ≤ c.p4.duty ∧ c.p4.duty ≤ 100

/-- A profile rule has its fields in range (R45). -/
def ProfileRule.legal (r : ProfileRule) : Prop := r.base ≤ 23 ∧ r.mask ≤ 31 ∧ r.profile ≠ 0

/-- The budget parameters are in range (Table 4-2). -/
def SupplyParams.legal (x : SupplyParams) : Prop :=
  (∀ k, x.capacities.get k ≤ 200000) ∧ (50 ≤ x.derate ∧ x.derate ≤ 100) ∧ x.base ≤ 60000

/-- The admission parameters are in range (Table 5-2). -/
def AdmissionParams.legal (x : AdmissionParams) : Prop :=
  (1 ≤ x.k ∧ x.k ≤ 8) ∧ x.stagger ≤ 10000 ∧ x.bypassLimit ≤ 8 ∧ x.retryLimit ≤ 3 ∧
    (500 ≤ x.grantWindow ∧ x.grantWindow ≤ 30000)

/-- The common cooling settings are in range and in order (R132). -/
def CoolingCommon.legal (x : CoolingCommon) : Prop :=
  x.driveCurve.legal ∧ x.floorDuty ≤ 100 ∧ x.staleDuty ≤ 100 ∧ x.failoverDuty ≤ 100 ∧
    x.airWarning < x.airCritical ∧ x.driveWarning < x.driveCritical ∧
    (x.windowMs = 250 ∨ x.windowMs = 500 ∨ x.windowMs = 1000)

/-- The fan settings are in range, full_mA from idle_mA up (Table 7-2, R124). -/
def FanSettings.legal (x : FanSettings) : Prop :=
  x.minRpm ≤ 20000 ∧ (1 ≤ x.ppr ∧ x.ppr ≤ 4) ∧ x.idle ≤ 2000 ∧ x.idle ≤ x.full ∧ x.full ≤ 6000

/-- Every item of a configuration is in its range (Tables 2-1, 3-1, 4-2, 5-2, 7-2, R45, R131, R132, R174). -/
def Settings.legal (c : Settings) : Prop :=
  (∀ i, (c.profiles.get i).legal) ∧ (∀ i, (c.rules.get i).legal) ∧ c.supply.legal ∧ c.admission.legal ∧
    (∀ z, (c.airCurves.get z).legal) ∧ c.common.legal ∧ (∀ f, (c.fans.get f).legal) ∧ c.turnaround ≤ 50

/-- The turnaround delay that an after-reply action carries is in range (R174, R189). -/
def AfterReply.legal (a : AfterReply) : Prop :=
  match a with
  | .linkChange _ turnaround => turnaround ≤ 50
  | .nothing | .restart => True

/-- The running configuration, the settings image, a write in progress with its time left (R195), the action of a reply
pending or sent (R174) and every snapshot are in range, and so is every duty; a reload is awaited only while a write is in
progress (R195). -/
def SettingsInRange (s : State) : Prop :=
  s.cfg.legal ∧ (∀ p, s.link.reply = .pending p → p.action.legal) ∧
    (∀ frame action, s.link.reply = .sending frame action → action.legal) ∧
    s.store.image.items.legal ∧ (∀ w, s.store.writing = some w → w.items.legal ∧ w.left ≤ 200) ∧
    (s.store.reloadAwaited.isSome = true → s.store.writing.isSome = true) ∧
    (∀ b p, (s.bay b).snapshot = some p → p.legal) ∧ (∀ z, (s.zone z).duty ≤ 100) ∧ (∀ f, (s.fan f).duty ≤ 100)

/-- The budget unit agrees with the enclosure: the commitment of each bay follows its state and snapshot (R62), the view of
each fan its record (R59), the figures are formed from them (R64, R65), and the state follows the headroom (R66). -/
def BudgetAgrees (s : State) : Prop :=
  (∀ b, s.budget.commitments.get b = (s.bay b).commitment) ∧ (∀ f, s.budget.fanViews.get f = s.fanView f) ∧
    s.budget.figures = s.formFigures ∧ (s.budget.overcommitted = true ↔ s.budget.figures.headroom < 0)

/-- The spin count is the number of bays in RAMPING, SPINNING or GRANTED (R91). The grant order list holds exactly the
GRANTED bays, each once (R63). An outstanding revocation names one of them (R69). -/
def CountsAgree (s : State) : Prop :=
  s.arbiter.spinCount = (allBays.filter fun b => (s.bay b).state.drawsInrush).length ∧ s.budget.grantOrder.Nodup ∧
    (∀ b, b ∈ s.budget.grantOrder ↔ (s.bay b).state = .granted) ∧
    (∀ b, s.budget.outstanding = some b → b ∈ s.budget.grantOrder)

/-- The states of Table 2-2 that have a state timer, which runs from entry on; the partial timer of SEATING may be
stopped. -/
def BayState.timed : BayState → Option Bool
  | .spinning | .granted | .poweringDown | .extracting | .faulted => some true
  | .seating => none
  | .empty | .idleOff | .queued | .ramping | .active | .standby | .wakeQueued => some false

/-- A bay record's optional fields are present as Tables 2-1 and 2-2 and R16 give them. -/
def BayRecord.agrees (r : BayRecord) : Prop :=
  r.snapshot.isSome = r.state.closedSwitch ∧ r.profileIndex.isSome = r.code.isSome ∧
    (r.state = .empty → r.code = none ∧ r.failCount = 0 ∧ r.removalPrepared = false) ∧
    (r.state ≠ .empty → r.state ≠ .seating → r.state ≠ .extracting → r.code.isSome = true) ∧
    (∀ runs, r.state.timed = some runs → r.timer.isSome = runs) ∧
    (r.settling = true → r.state = .spinning) ∧ (r.partialReported = true → r.state = .seating)

/-- Every bay record agrees with its state, and the quarantine table lists a bay at most once and only in IDLE_OFF, SEATING
or EXTRACTING (R114). -/
def RecordsAgree (s : State) : Prop :=
  (∀ b, (s.bay b).agrees) ∧ (s.quarantine.map QuarantineEntry.bay).Nodup ∧
    (∀ e ∈ s.quarantine, (s.bay e.bay).state = .idleOff ∨ (s.bay e.bay).state = .seating ∨
      (s.bay e.bay).state = .extracting)

/-- A filtered line's filter runs exactly while its raw level is not its accepted one (R2, R5, R53). -/
def FilteredLine.agrees (l : FilteredLine) : Prop := l.filter.isSome = (l.raw != l.accepted)

/-- A channel's parts agree: filters (R2, R5), seat timer, seat-stable mark and held code (R3 to R5), the switch with its
ramp timer and comparator (R6, R7), readings in range (R8, R9, R11), and the activity level with its stretch (R13). -/
def Channel.agrees (c : Channel) : Prop :=
  c.early.agrees ∧ c.late.agrees ∧ c.car1.agrees ∧ c.car0.agrees ∧
    c.heldCode.isSome = c.seatStable ∧ (c.seatTimer.isSome || c.seatStable) = c.seated ∧
    (c.seatTimer.isSome && c.seatStable) = false ∧
    c.rampTimer.isSome = (c.switch == .ramping) ∧ c.tripLevel.isSome = (c.switch != .opened) ∧
    (c.rampEndWithheld = true → c.switch = .ramping) ∧ c.live ≤ c.peak ∧ c.peak ≤ 10000 ∧
    c.stretch.isSome = c.activity

/-- Every channel's and every supply slot's parts agree, and no watch is armed but the rise watch in STANDBY, WAKE_QUEUED and
GRANTED and the fall watch in the settle extension of SPINNING (Table 6-1, R107). -/
def ChannelsAgree (s : State) : Prop :=
  (∀ b, (s.chan b).agrees) ∧
    (∀ b, ((s.chan b).riseWatch.isSome = true →
        (s.bay b).state = .standby ∨ (s.bay b).state = .wakeQueued ∨ (s.bay b).state = .granted) ∧
      ((s.chan b).fallWatch.isSome = true → (s.bay b).state = .spinning ∧ (s.bay b).settling = true)) ∧
    (∀ k, (s.budget.slots.get k).present.agrees ∧ (s.budget.slots.get k).good.agrees)

/-- The duty a fan's state gives it (R120, R138): ABSENT 0, CHECKING and FAILED 100, RUNNING the zone duty. -/
def FanState.dutyIn (st : FanState) (zoneDuty : Nat) : Nat :=
  match st with
  | .absent => 0
  | .checking | .failed => 100
  | .running => zoneDuty

/-- The cooling controller agrees with itself: each fan's duty follows its state (R120, R138), its state its absent setting
(R124), a tachometer window runs unless it is ABSENT (R121), no fan is CHECKING once the check has ended (R142), its
counts stay below 3 (R122, R123); each sensor's state follows its failures (R126); and the start-up hold is in force
exactly while the fan check runs (R96). -/
def CoolingAgrees (s : State) : Prop :=
  (∀ f, (s.fan f).duty = (s.fan f).state.dutyIn (s.zone (zoneOfFan f)).duty ∧
    ((s.fan f).state = .absent ↔ (s.cfg.fans.get f).absent = true) ∧
    ((s.fan f).window = none ↔ (s.fan f).state = .absent) ∧
    ((s.fan f).state = .checking → s.cooling.fanCheck.isSome = true) ∧ (s.fan f).low < 3 ∧ (s.fan f).good < 3) ∧
  (∀ k, let r := s.cooling.sensors.get k
    r.failures ≤ 3 ∧ (r.state = .failed ↔ r.failures = 3) ∧
      (r.state = .ok → r.failures = 0 ∧ r.held.isSome = true)) ∧
  s.arbiter.startUpHold = s.cooling.fanCheck.isSome

/-- No zone is cooled short of its target: its duty is at least the target (R137, R138), and 100 while the fan check runs
(R141). -/
def CooledEnough (s : State) : Prop :=
  (∀ z, s.zoneTarget z ≤ (s.zone z).duty) ∧ (s.cooling.fanCheck.isSome = true → ∀ z, (s.zone z).duty = 100)

/-- The light controller agrees with the bay controller: the device conditions follow the bays (R148), LACT the source of
R157, and the mask is in range (R152). -/
def LightsAgree (s : State) : Prop :=
  (∀ b, (s.bayLights b).conditions.get condRemoveOk = (s.bay b).removalPrepared ∧
    (s.bayLights b).conditions.get condSpinWait = (s.bay b).state.spinWaits ∧
    (s.bayLights b).conditions.get condQuarantined = s.isQuarantined b ∧ (s.bayLights b).lact = s.actLevel b) ∧
  s.lights.mask ≤ 6

/-- The link interface agrees with itself: the receiver is SUSPENDED exactly while a reply is being sent (R171), the window
of a pending reply is 20 ms long from its earliest moment on (R170), the bytes taken are short of a whole frame (R165), and
the unit address is that of the straps (R163). -/
def LinkAgrees (s : State) : Prop :=
  (s.link.receiver = .suspended ↔ s.link.reply.isSending = true) ∧
    (∀ p, s.link.reply = .pending p → p.latest ≤ p.earliest + 20 ∧ (p.earliest ≠ 0 → p.latest = p.earliest + 20)) ∧
    (∀ taken gap, s.link.receiver = .receiving taken gap →
      taken.length < 4 ∨ (byteAt taken 3 ≤ 240 ∧ taken.length < 6 + byteAt taken 3)) ∧
    s.link.unitAddress = s.link.straps.setWidth 8 + 1

/-- The state a queue entry's bay is in, by the entry's kind (R22, Table 2-2). -/
def EntryKind.waitsIn : EntryKind → BayState
  | .powerOn => .queued
  | .wake => .wakeQueued

/-- The grants and declines on their way that belong to the grant record: none sent before a warm restart (R99). -/
def Arbiter.answersOnWay (a : Arbiter) : Nat :=
  (a.grants.filter fun g => !g.stale).length + (a.declines.filter fun d => !d.stale).length

/-- The spin queue agrees with the bays: an entry exactly for each bay in QUEUED or WAKE_QUEUED, of its kind, none twice
(R22, R75); in class order (R74); exactly one grant or decline on its way while a grant awaits its answer, of the record's
bay and kind (R86 to R88); a record whose granted entry stands unless it was removed, and whose bypassed head has its entry
(R89, R92); and the bays of an awaited reload in bay-number order (R40). -/
def QueueAgrees (s : State) : Prop :=
  (s.arbiter.queue.map QueueEntry.bay).Nodup ∧
    (∀ e ∈ s.arbiter.queue, (s.bay e.bay).state = e.kind.waitsIn) ∧
    (∀ b, (s.bay b).state = .queued ∨ (s.bay b).state = .wakeQueued → ∃ e ∈ s.arbiter.queue, e.bay = b) ∧
    s.arbiter.queue.Pairwise (fun x y => x.cls ≤ y.cls) ∧
    s.arbiter.answersOnWay = s.arbiter.grantRecord.toList.length ∧
    (∀ g ∈ s.arbiter.grants, g.stale = false →
      ∃ r, s.arbiter.grantRecord = some r ∧ r.bay = g.bay ∧ r.kind = g.kind) ∧
    (∀ r, s.arbiter.grantRecord = some r →
      (r.removed = false → ∃ e ∈ s.arbiter.queue, e.bay = r.bay ∧ e.kind = r.kind) ∧
        ∀ h, r.bypassed = some h → ∃ e ∈ s.arbiter.queue, e.bay = h) ∧
    ∀ a, s.store.reloadAwaited = some a → a.queued.Pairwise (fun x y => x < y)

/-! ## What a command leaves as it was -/

/-- `t` raises events after those of `s`, the first of them as listed, each stamped with the event time of `s` (R190). -/
def Raises (es : List Event) (s t : State) : Prop := ∃ more, t.events = (s.raiseAll (es ++ more)).events

/-- A pass is blocked while the stagger timer runs, a bay is in RAMPING, the start-up hold is in force or a grant awaits its
answer (R82). -/
def Blocked (s : State) : Prop :=
  s.arbiter.stagger.isSome = true ∨ (∃ b, (s.bay b).state = .ramping) ∨ s.arbiter.startUpHold = true ∨
    s.arbiter.grantRecord.isSome = true

/-- No pass has run: the record, the grants and the last pass stand, and a pending mark stays set (R82). -/
def NoPass (a a' : Arbiter) : Prop :=
  a'.grantRecord = a.grantRecord ∧ a'.grants = a.grants ∧ a'.lastPass = a.lastPass ∧
    (a.pendingMark = true → a'.pendingMark = true)

/-- While a grant awaits its answer every pass is blocked (R82): its record stands, but that the removal of bay `b`'s entry
clears it as the bypassed head and marks the granted entry removed (R89); the grants and the last pass stand. -/
def Awaits (b : Bay) (a a' : Arbiter) : Prop :=
  ∀ g, a.grantRecord = some g →
    a'.grantRecord = some
      (if (∃ e ∈ a.queue, e.bay = b) ∧ ∀ e ∈ a'.queue, e.bay ≠ b then
        { g with bypassed := if g.bypassed = some b then none else g.bypassed, removed := g.removed || g.bay == b }
      else g) ∧ a'.grants = a.grants ∧ a'.lastPass = a.lastPass

/-- An entry the walk of a pass skips: its zone CRITICAL, or its bay's failure count above the retry limit (R83). -/
def SkippedBy (s : State) (e : QueueEntry) : Prop :=
  (s.zone (s.zoneOf e.bay)).thermal = .critical ∨ s.cfg.admission.retryLimit < (s.bay e.bay).failCount

/-- What an unblocked pass decides: its result, its head and the granted entry (R83, R84). -/
def Decides (s : State) (result : PassResult) (head granted : Option QueueEntry) : Prop :=
  let fits := fun e => (s.price e : Int) ≤ s.budget.figures.headroom
  if s.cfg.admission.k ≤ s.arbiter.spinCount then result = .atLimit ∧ head = none ∧ granted = none
  else if s.arbiter.queue = [] then result = .queueEmpty ∧ head = none ∧ granted = none
  else
    ((∀ e ∈ s.arbiter.queue, SkippedBy s e) ∧ result = .allSkipped ∧ head = none ∧ granted = none) ∨
    ∃ skipped first rest, s.arbiter.queue = skipped ++ first :: rest ∧ (∀ e ∈ skipped, SkippedBy s e) ∧
      ¬ SkippedBy s first ∧ head = some first ∧
      ((fits first ∧ result = .grantHead ∧ granted = some first) ∨
        (¬ fits first ∧ s.cfg.admission.bypassLimit ≤ first.bypass ∧ result = .bypassSpent ∧ granted = none) ∨
        (¬ fits first ∧ first.bypass < s.cfg.admission.bypassLimit ∧ result = .headWaits ∧ granted = none ∧
          ∀ e ∈ rest, SkippedBy s e ∨ ¬ fits e) ∨
        (¬ fits first ∧ first.bypass < s.cfg.admission.bypassLimit ∧ result = .grantBypass ∧
          ∃ pre e post, rest = pre ++ e :: post ∧ (∀ x ∈ pre, SkippedBy s x ∨ ¬ fits x) ∧ ¬ SkippedBy s e ∧ fits e ∧
            granted = some e))

/-- A trigger of an admission pass has been taken (R81, R82): blocked, it sets the pending mark; unblocked, one pass has
run, which replaces the last-pass record (R85), leaves the mark clear, and sends the grant it decides on, with the values
it priced (R86). Nothing else changes. -/
def PassTaken (s t : State) : Prop :=
  (Blocked s → t = s.putArbiter { s.arbiter with pendingMark := true }) ∧
    (¬ Blocked s → ∃ result head granted, Decides s result head granted ∧
      t = s.putArbiter { s.arbiter with
        pendingMark := false
        lastPass := some ⟨s.time, result, head.map (fun e => (e.bay, s.price e)),
          granted.map (fun e => (e.bay, s.price e)), s.budget.figures.headroom⟩
        grantRecord := granted.map
          (fun e => ⟨e.bay, e.kind, if result = .grantBypass then head.map QueueEntry.bay else none, false⟩)
        grants := s.arbiter.grants ++ (granted.map (fun e => (⟨e.bay, e.kind,
          if e.kind = .powerOn then some ((s.profileOf e.bay).inrush, (s.profileOf e.bay).heat) else none,
          false⟩ : Grant))).toList })

/-- The last pass of `t` ran unblocked at `v`, at the same event time, configuration and queue, and its record, its grant and
what awaits its answer stand (R82 to R86). -/
def LastPass (v t : State) : Prop :=
  ¬ Blocked v ∧ v.time = t.time ∧ v.cfg = t.cfg ∧ v.arbiter.queue = t.arbiter.queue ∧
    ∃ w, PassTaken v w ∧ t.arbiter.lastPass = w.arbiter.lastPass ∧ t.arbiter.grantRecord = w.arbiter.grantRecord ∧
      t.arbiter.grants = w.arbiter.grants

/-- A trigger has been taken on the way to `t` (R81, R82): passes are blocked and the pending mark is set, or a pass has run,
on the bays of `t` but for those that moved after it. -/
def Triggered (moved : Bay → Prop) (t : State) : Prop :=
  (Blocked t ∧ t.arbiter.pendingMark = true) ∨ ∃ v, LastPass v t ∧ ∀ c, ¬ moved c → v.bay c = t.bay c

/-- `t` is `s` after the notices to the budget unit, the arbiter and the cooling controller have been acted on. They may
change the figures, the budget state, the fan views, and send revocations; the last pass and the pending mark, and send
grants, by passes of R82 to R86 and not while passes are blocked; the zones' duties and thermal states and the duties of
RUNNING fans; and they may raise events. Nothing else changes. -/
structure Settles (s t : State) : Prop where
  chans : t.chans = s.chans
  bays : t.bays = s.bays
  quarantine : t.quarantine = s.quarantine
  lights : t.lights = s.lights
  link : t.link = s.link
  time : t.time = s.time
  store : t.store = s.store
  cfg : t.cfg = s.cfg
  pending : t.pending = s.pending
  resetLow : t.resetLow = s.resetLow
  queue : t.arbiter.queue = s.arbiter.queue
  spinCount : t.arbiter.spinCount = s.arbiter.spinCount
  stagger : t.arbiter.stagger = s.arbiter.stagger
  startUpHold : t.arbiter.startUpHold = s.arbiter.startUpHold
  declines : t.arbiter.declines = s.arbiter.declines
  slots : t.budget.slots = s.budget.slots
  commitments : t.budget.commitments = s.budget.commitments
  grantOrder : t.budget.grantOrder = s.budget.grantOrder
  grants : ∃ more, t.arbiter.grants = s.arbiter.grants ++ more
  blocked : Blocked s → NoPass s.arbiter t.arbiter
  passes : NoPass s.arbiter t.arbiter ∨ Triggered (fun _ => False) t
  revocations : ∃ more, t.budget.revocations = s.budget.revocations ++ more
  outstanding : ∀ b, s.budget.outstanding = some b → t.budget.outstanding = some b
  sensors : t.cooling.sensors = s.cooling.sensors
  reports : t.cooling.reports = s.cooling.reports
  evaluation : t.cooling.evaluation = s.cooling.evaluation
  sensorRead : t.cooling.sensorRead = s.cooling.sensorRead
  fanCheck : t.cooling.fanCheck = s.cooling.fanCheck
  fans : ∀ f, t.fan f = { s.fan f with duty := (t.fan f).duty }
  standing : ∀ f, (s.fan f).state ≠ .running → t.fan f = s.fan f
  events : Raises [] s t

/-- A zone's target has been formed anew (R135, R137, R138): its duty is raised to the target where it was below it, stands
while the fan check runs, and its RUNNING fans follow it. -/
def ZoneRaised (z : Zone) (s t : State) : Prop :=
  (t.zone z).duty =
      (if s.cooling.fanCheck.isSome = true then (s.zone z).duty else max (s.zone z).duty (t.zoneTarget z)) ∧
    ∀ f, zoneOfFan f = z → (t.fan f).duty =
      if (s.fan f).state = .running ∧ (t.zone z).duty ≠ (s.zone z).duty then (t.zone z).duty else (s.fan f).duty

/-- A zone's thermal state has been judged anew (R139), and a change raised as THERMAL with the air input (R140). -/
def ZoneJudged (z : Zone) (s t : State) : Prop :=
  (t.zone z).thermal = judgeThermal (t.thermalSources z) (s.zone z).thermal ∧
    ∃ more, t.events = (s.raiseAll more).events ∧ ((t.zone z).thermal ≠ (s.zone z).thermal →
      ⟨.thermal, .zone z, some (t.zone z).thermal.byte, t.airInput z⟩ ∈ more)

/-- What a command that acts on one bay leaves as it was: every other bay's channel, record, lights, commitment, drive
report and quarantine entry; the settings, the link, the store and the time; the supply lines, the sensors and the timers
of the cooling controller; the duty and fans of every other zone, and of its own zone's fans all but the duty; the light
controller's own state; the start-up hold, and the messages on their way, after which more may be sent. Events are raised
after those of `s`. -/
structure ActsOnBay (b : Bay) (s t : State) : Prop where
  chans : ∀ c, c ≠ b → t.chan c = s.chan c
  bays : ∀ c, c ≠ b → t.bay c = s.bay c
  lights : ∀ c, c ≠ b → t.bayLights c = s.bayLights c
  commitments : ∀ c, c ≠ b → t.budget.commitments.get c = s.budget.commitments.get c
  reports : ∀ c, c ≠ b → t.cooling.reports.get c = s.cooling.reports.get c
  quarantine : t.quarantine.filter (fun e => e.bay != b) = s.quarantine.filter (fun e => e.bay != b)
  cfg : t.cfg = s.cfg
  link : t.link = s.link
  store : t.store = s.store
  time : t.time = s.time
  pending : t.pending = s.pending
  resetLow : t.resetLow = s.resetLow
  slots : t.budget.slots = s.budget.slots
  sensors : t.cooling.sensors = s.cooling.sensors
  evaluation : t.cooling.evaluation = s.cooling.evaluation
  sensorRead : t.cooling.sensorRead = s.cooling.sensorRead
  fanCheck : t.cooling.fanCheck = s.cooling.fanCheck
  zones : ∀ z, z ≠ s.zoneOf b → t.zone z = s.zone z
  fans : ∀ f, t.fan f = { s.fan f with duty := (t.fan f).duty }
  otherFans : ∀ f, zoneOfFan f ≠ s.zoneOf b → t.fan f = s.fan f
  mask : t.lights.mask = s.lights.mask
  locate : t.lights.locate = s.lights.locate
  phase : t.lights.phase = s.lights.phase
  boundary : t.lights.boundary = s.lights.boundary
  elf : t.lights.elf = s.lights.elf
  ell : t.lights.ell = s.lights.ell
  startUpHold : t.arbiter.startUpHold = s.arbiter.startUpHold
  declines : t.arbiter.declines = s.arbiter.declines
  grants : ∃ more, t.arbiter.grants = s.arbiter.grants ++ more
  revocations : ∃ more, t.budget.revocations = s.budget.revocations ++ more
  events : Raises [] s t

/-- What a command also leaves of its bay when it touches no quarantine entry, no drive report and no condition but
SPIN_WAIT: these, the LATN level and the thermal states. -/
structure KeepsIndications (b : Bay) (s t : State) : Prop where
  quarantine : t.quarantine = s.quarantine
  reports : t.cooling.reports = s.cooling.reports
  conditions : ∀ c, c ≠ condSpinWait → (t.bayLights b).conditions.get c = (s.bayLights b).conditions.get c
  latn : (t.bayLights b).latn = (s.bayLights b).latn
  thermal : ∀ z, (t.zone z).thermal = (s.zone z).thermal

/-- The three blocks have taken a bay's state notices (R17): its commitment is that of its record (R62), its SPIN_WAIT
condition and LACT are those of its state (R148, R157), the spin count follows its entering or leaving RAMPING, SPINNING and
GRANTED (R91), and the grant order list its entering or leaving GRANTED (R63). -/
structure Notified (b : Bay) (s t : State) : Prop where
  commitment : t.budget.commitments.get b = (t.bay b).commitment
  spinWait : (t.bayLights b).conditions.get condSpinWait = (t.bay b).state.spinWaits
  actLight : (t.bayLights b).lact = t.actLevel b
  spinCount : t.arbiter.spinCount =
    if (t.bay b).state.drawsInrush ∧ ¬ (s.bay b).state.drawsInrush then s.arbiter.spinCount + 1
    else if (s.bay b).state.drawsInrush ∧ ¬ (t.bay b).state.drawsInrush then s.arbiter.spinCount - 1
    else s.arbiter.spinCount
  grantOrder : t.budget.grantOrder =
    if (t.bay b).state = .granted ∧ (s.bay b).state ≠ .granted then s.budget.grantOrder ++ [b]
    else if (s.bay b).state = .granted ∧ (t.bay b).state ≠ .granted then
      s.budget.grantOrder.filter (fun c => c != b)
    else s.budget.grantOrder

/-- `t` is `s` after bay `b` has moved, once or more, with these events of its own and the spin queue left as given: what the
move leaves as it was, what its notices give (R17), while a grant awaits its answer, no pass (R82), a trigger where the queue
has changed or the bay has left RAMPING, SPINNING or GRANTED (R75, R81), and the target of the bay's zone formed anew. -/
structure Moves (b : Bay) (events : List Event) (queue : List QueueEntry) (s t : State) : Prop where
  acts : ActsOnBay b s t
  keeps : KeepsIndications b s t
  notified : Notified b s t
  raised : Raises events s t
  queue : t.arbiter.queue = queue
  stagger : t.arbiter.stagger = s.arbiter.stagger
  awaits : Awaits b s.arbiter t.arbiter
  triggered : t.arbiter.queue ≠ s.arbiter.queue ∨
    ((s.bay b).state.drawsInrush = true ∧ (t.bay b).state ≠ (s.bay b).state) → Triggered (fun c => c = b) t
  zone : ZoneRaised (s.zoneOf b) s t

/-- `t` is `s` after bay `b` has entered EMPTY (R37), its record's outcomes and the spin queue left as given; its zone's
leaving CRITICAL, its report gone, is a trigger (R81, R140). -/
structure Emptied (b : Bay) (latest previous : Option SpinOutcome) (queue : List QueueEntry) (s t : State) : Prop where
  record : t.bay b = ⟨.empty, none, none, none, false, 0, latest, previous, none, false, false⟩
  removed : Raises
    (if (s.bay b).code.isSome = true then
      [bayEvent .bayRemoved b (some (if (s.bay b).removalPrepared = true then 1 else 0)) none] else []) s t
  quarantine : t.quarantine = s.quarantine.filter (fun e => e.bay != b)
  identify : (t.bayLights b).conditions.get 0 = (s.bayLights b).conditions.get 0
  cleared : ∀ c : Fin 9, c ∈ [1, 2, 3, 4, 5, 8] → (t.bayLights b).conditions.get c = false
  quarantined : (t.bayLights b).conditions.get 7 =
    if s.isQuarantined b = true then false else (s.bayLights b).conditions.get 7
  latn : (t.bayLights b).latn = (s.bayLights b).latn
  report : t.cooling.reports.get b = none
  acts : ActsOnBay b s t
  notified : Notified b s t
  queue : t.arbiter.queue = queue
  stagger : t.arbiter.stagger = s.arbiter.stagger
  awaits : Awaits b s.arbiter t.arbiter
  judged : s.cooling.reports.get b ≠ none → ZoneJudged (s.zoneOf b) s t
  triggered : (s.zone (s.zoneOf b)).thermal = .critical → (t.zone (s.zoneOf b)).thermal ≠ .critical →
    Triggered (fun _ => False) t

/-- `t` is `s` after what these zones read has changed: their targets are formed anew, the notices are acted on, and no
other zone is given another duty or thermal state. -/
structure Reviews (zones : Zone → Prop) (s t : State) : Prop where
  settles : Settles s t
  raised : ∀ z, zones z → ZoneRaised z s t
  otherZones : ∀ z, ¬ zones z → t.zone z = s.zone z
  otherFans : ∀ f, ¬ zones (zoneOfFan f) → t.fan f = s.fan f

/-- `t` is `s` after what these zones read has changed, and their thermal states have been judged anew with their targets; a
zone's leaving CRITICAL is a trigger (R81, R140). -/
structure ReviewsThermal (zones : Zone → Prop) (s t : State) : Prop where
  targets : Reviews zones s t
  judged : ∀ z, zones z → ZoneJudged z s t
  triggered : ∀ z, (s.zone z).thermal = .critical → (t.zone z).thermal ≠ .critical → Triggered (fun _ => False) t

/-! ## The spin queue, the passes and the budget as their rules state them -/

/-- An entry has joined the queue behind the entries of its own and lower class numbers, and ahead of the higher (R74). -/
def Joined (e : QueueEntry) (before after : List QueueEntry) : Prop :=
  ∃ pre post, before = pre ++ post ∧ after = pre ++ e :: post ∧ (∀ x ∈ pre, x.cls ≤ e.cls) ∧
    ∀ x ∈ post.head?, e.cls < x.cls

/-- The queue without a bay's entry (R75). -/
def leftBy (b : Bay) (queue : List QueueEntry) : List QueueEntry := queue.filter (fun e => decide (e.bay ≠ b))

/-- The event of a change of the budget state to match a headroom (R66): none where the state stands. -/
def budgetChange (was : Bool) (headroom : Int) : List Event :=
  if headroom < 0 ∧ was = false then [⟨.budgetOvercommit, .none, none, some headroom⟩]
  else if 0 ≤ headroom ∧ was = true then [⟨.budgetRestored, .none, none, some headroom⟩]
  else []

/-- One recomputation has been taken (R65), with these events queued before its own: the figures formed anew, the budget
state and its event by the headroom (R66), the revocation step (R68), and a trigger each for a fall of the committed load
and a rise of the effective supply. Nothing else changes. -/
structure Recomputed (first : List Event) (s t : State) : Prop where
  settles : Settles s t
  cooling : t.cooling = s.cooling
  fanViews : t.budget.fanViews = s.budget.fanViews
  figures : t.budget.figures = s.formFigures
  overcommitted : t.budget.overcommitted = decide (s.formFigures.headroom < 0)
  events : t.events = (s.raiseAll (first ++ budgetChange s.budget.overcommitted s.formFigures.headroom)).events
  revoked : ∀ b, s.formFigures.headroom < 0 → s.budget.outstanding = none → s.budget.grantOrder.getLast? = some b →
    t.budget.outstanding = some b ∧ t.budget.revocations = s.budget.revocations ++ [⟨b, s.formFigures.headroom, false⟩]
  notRevoked : (0 ≤ s.formFigures.headroom ∨ s.budget.outstanding.isSome = true ∨ s.budget.grantOrder = []) →
    t.budget.outstanding = s.budget.outstanding ∧ t.budget.revocations = s.budget.revocations
  untriggered : s.budget.figures.load ≤ t.budget.figures.load →
    t.budget.figures.effective ≤ s.budget.figures.effective → t.arbiter = s.arbiter
  triggered : s.formFigures.load < s.budget.figures.load ∨ s.budget.figures.effective < s.formFigures.effective →
    PassTaken (t.putArbiter s.arbiter) t ∨
      (s.formFigures.load < s.budget.figures.load ∧ s.budget.figures.effective < s.formFigures.effective ∧
        ∃ u, PassTaken (t.putArbiter s.arbiter) u ∧ PassTaken u t)

/-! ## Requests and their answers -/

/-- The part as it handles a request it has taken with no after-reply action waiting: its receiver HUNTING, its reply state
NONE. -/
def State.listening (s : State) : State := s.putLink { s.link with receiver := .hunting, reply := .none }

/-- A request reaches the part: no reply is being sent, the pending reply, if any, carries no action, the request carries
the unit address, and a Length field can announce its payload. -/
structure Reaches (r : Request) (s : State) : Prop where
  receiver : s.link.receiver ≠ .suspended
  notSending : s.link.reply.isSending = false
  noAction : s.link.reply.action = .nothing
  addressed : r.address = s.link.unitAddress
  notBroadcast : r.address ≠ 0
  length : r.payload.length ≤ 240

/-- The two check bytes of a frame, low byte first: the sum of its bytes from Address on, modulo 65,536 (R164). -/
def checkBytes (bytes : List Byte) : List Byte :=
  let sum := (bytes.map BitVec.toNat).sum % 65536
  [BitVec.ofNat 8 (sum % 256), BitVec.ofNat 8 (sum / 256)]

/-- A reply frame (Table 9-4). -/
def replyBytes (address kind tag : Byte) (status : Status) (body : List Byte) : List Byte :=
  let covered := [address, kind + 0x80, tag, BitVec.ofNat 8 (body.length + 1), status.byte] ++ body
  [0x5a] ++ covered ++ checkBytes covered

/-- The part with the reply of a request pending (R169, R170): its window opens after the turnaround delay in force and is
20 ms long. -/
def State.replyingThen (s : State) (kind tag : Byte) (status : Status) (body : List Byte) (action : AfterReply) : State :=
  s.putLink { s.link with
    reply := .pending ⟨replyBytes s.link.unitAddress kind tag status body, s.cfg.turnaround, s.cfg.turnaround + 20, action⟩ }

/-- The part with a reply pending that carries no action. -/
def State.replying (s : State) (kind tag : Byte) (status : Status) (body : List Byte) : State :=
  s.replyingThen kind tag status body .nothing

/-- CLAMPED where clamping changed a value, OK where it changed none. -/
def clampedOr (changed : Prop) [Decidable changed] : Status := if changed then .clamped else .ok

/-- A bay list names these bay numbers in this order (Table 10-2): listed one by one, or as a range that goes on from 23 to
0. -/
def NamesBays (p : List Byte) (bays : List Nat) : Prop :=
  (∃ items : List Byte, p = 0 :: BitVec.ofNat 8 items.length :: items ∧ 1 ≤ items.length ∧ items.length ≤ 24 ∧
    bays = items.map BitVec.toNat) ∨
    (∃ first n : Nat, p = [1, BitVec.ofNat 8 first, BitVec.ofNat 8 n] ∧ first ≤ 23 ∧ 1 ≤ n ∧ n ≤ 24 ∧
      bays = (List.range n).map (fun k => (first + k) % 24))

/-- A bay list of a permitted length that refuses its request, with the status of the refusal (R181). -/
def RefusesBays (p : List Byte) (status : Status) : Prop :=
  (∃ items : List Byte, p = 0 :: BitVec.ofNat 8 items.length :: items ∧ (items.length = 0 ∨ 24 < items.length) ∧
    items.length < 256 ∧ status = .badValue) ∨
    (∃ first n : Byte, p = [1, first, n] ∧ (n.toNat = 0 ∨ 24 < n.toNat) ∧ status = .badValue) ∨
    (∃ first n : Byte, p = [1, first, n] ∧ 1 ≤ n.toNat ∧ n.toNat ≤ 24 ∧ 23 < first.toNat ∧ status = .badBay) ∨
    (∃ form rest, p = form :: rest ∧ rest ≠ [] ∧ 1 < form.toNat ∧ status = .badValue)

/-- Bay numbers have been handled one at a time, in sequence order, each with its status: a number above 23 has no effect
and BAD_BAY (R181). -/
def EachBay (gives : Bay → State → State → Status → Prop) : List Nat → State → State → List Status → Prop
  | [], s, t, statuses => t = s ∧ statuses = []
  | n :: rest, s, t, statuses => ∃ u status others, statuses = status :: others ∧ EachBay gives rest u t others ∧
      (∀ h : n < 24, gives ⟨n, h⟩ s u status) ∧ (24 ≤ n → u = s ∧ status = .badBay)

/-- The record of a bay in a state with an open switch (R16, R17): timer as given, no snapshot. -/
def BayRecord.openIn (r : BayRecord) (st : BayState) (timer : Option Nat) : BayRecord :=
  { r with state := st, timer := timer, settling := false, partialReported := false, snapshot := none }

/-- The record of a bay in a state with a closed switch (R16, R17): timer as given, the snapshot kept. -/
def BayRecord.closedIn (r : BayRecord) (st : BayState) (timer : Option Nat) : BayRecord :=
  { r with state := st, timer := timer, settling := false, partialReported := false }

/-- POWER_ON for one bay (Table 2-4). -/
def PowerOnGives (b : Bay) (s t : State) (status : Status) : Prop :=
  match (s.bay b).state with
  | .idleOff =>
    if s.isQuarantined b = true then t = s ∧ status = .quarantined
    else
      status = .accepted ∧ t.bay b = { (s.bay b).openIn .queued none with removalPrepared := false } ∧
        t.chan b = s.chan b ∧ Joined ⟨b, .powerOn, (s.baySettings b).cls, s.time, 0⟩ s.arbiter.queue t.arbiter.queue ∧
        Moves b [] t.arbiter.queue (s.setCond b 5 false) t
  | .queued | .ramping | .spinning | .active => t = s ∧ status = .ok
  | .standby | .wakeQueued | .granted | .empty => t = s ∧ status = .wrongState
  | .seating | .poweringDown | .extracting | .faulted => t = s ∧ status = .bayBusy

/-- The power-off of a bay in a closed-switch state (R30): OPEN, which also disarms the watches (a switch that is open
already: notes/assumptions/34.md), ABORTED if a spin is in flight, the queue entry removed, 500 ms of discharge. -/
def PowersDown (b : Bay) (removal : Bool) (s0 s t : State) : Prop :=
  t.bay b = { (s.bay b).openIn .poweringDown (some 500) with
    latest := if (s.bay b).state = .ramping ∨ (s.bay b).state = .spinning then some .aborted else (s.bay b).latest
    previous := if (s.bay b).state = .ramping ∨ (s.bay b).state = .spinning then (s.bay b).latest
      else (s.bay b).previous
    removalPrepared := removal } ∧
    t.chan b = { (s.chan b).openSwitch with riseWatch := none, fallWatch := none } ∧
    Moves b [] (if (s.bay b).state = .wakeQueued then leftBy b s.arbiter.queue else s.arbiter.queue) s0 t

/-- POWER_OFF for one bay (Table 2-6). -/
def PowerOffGives (b : Bay) (s t : State) (status : Status) : Prop :=
  match (s.bay b).state with
  | .queued =>
    status = .ok ∧ t.bay b = (s.bay b).openIn .idleOff none ∧ t.chan b = s.chan b ∧
      Moves b [] (leftBy b s.arbiter.queue) s t
  | .faulted =>
    status = .ok ∧ t.bay b = (s.bay b).openIn .idleOff none ∧ t.chan b = s.chan b ∧ Moves b [] s.arbiter.queue s t
  | .ramping | .spinning | .active | .standby | .wakeQueued | .granted =>
    status = .accepted ∧ PowersDown b (s.bay b).removalPrepared s s t
  | .idleOff | .poweringDown => t = s ∧ status = .ok
  | .empty | .seating | .extracting => t = s ∧ status = .wrongState

/-- PREPARE_REMOVAL for one bay (Table 2-7): the flag set, and with it REMOVE_OK (R32, R148). -/
def PrepareGives (b : Bay) (s t : State) (status : Status) : Prop :=
  match (s.bay b).state with
  | .idleOff | .poweringDown =>
    status = .ok ∧ t = (s.putBay b { s.bay b with removalPrepared := true }).setCond b 5 true
  | .queued =>
    status = .ok ∧ t.bay b = { (s.bay b).openIn .idleOff none with removalPrepared := true } ∧ t.chan b = s.chan b ∧
      Moves b [] (leftBy b s.arbiter.queue) (s.setCond b 5 true) t
  | .faulted =>
    status = .ok ∧ t.bay b = { (s.bay b).openIn .idleOff none with removalPrepared := true } ∧ t.chan b = s.chan b ∧
      Moves b [] s.arbiter.queue (s.setCond b 5 true) t
  | .ramping | .spinning | .active | .standby | .wakeQueued | .granted =>
    status = .accepted ∧ PowersDown b true (s.setCond b 5 true) s t
  | .empty | .seating | .extracting => t = s ∧ status = .wrongState

/-- SPIN_REQUEST for one bay (Table 2-5). -/
def SpinRequestGives (b : Bay) (s t : State) (status : Status) : Prop :=
  match (s.bay b).state with
  | .standby =>
    status = .accepted ∧ t.bay b = (s.bay b).closedIn .wakeQueued none ∧ t.chan b = s.chan b ∧
      Joined ⟨b, .wake, (s.baySettings b).cls, s.time, 0⟩ s.arbiter.queue t.arbiter.queue ∧
      Moves b [] t.arbiter.queue s t
  | .wakeQueued | .granted => t = s ∧ status = .ok
  | .empty | .seating | .idleOff | .queued | .ramping | .spinning | .active | .poweringDown | .extracting
  | .faulted => t = s ∧ status = .wrongState

/-- SPIN_DOWN_NOTE for one bay (Table 2-5): the rise watch armed at the snapshot steady_mA (R26). -/
def SpinDownGives (b : Bay) (s t : State) (status : Status) : Prop :=
  match (s.bay b).state with
  | .active =>
    status = .ok ∧ t.bay b = (s.bay b).closedIn .standby none ∧
      (∀ p, (s.bay b).snapshot = some p → t.chan b = { s.chan b with riseWatch := some p.steady }) ∧
      Moves b [] s.arbiter.queue s t
  | .standby => t = s ∧ status = .ok
  | .empty | .seating | .idleOff | .queued | .ramping | .spinning | .wakeQueued | .granted | .poweringDown
  | .extracting | .faulted => t = s ∧ status = .wrongState

/-- SET_BAY_POLICY for one bay (R34): each field written, or kept where the request keeps it, and where a zone is written
the zone notice acted on (R119). -/
def PolicyGives (policy : Option Policy) (cls : Option (Fin 3)) (zone : Option Zone) (b : Bay) (s t : State)
    (status : Status) : Prop :=
  let old := s.baySettings b
  let written : BaySettings := ⟨policy.getD old.policy, cls.getD old.cls, zone.getD old.zone⟩
  let u := s.putCfg { s.cfg with bays := Table.put s.cfg.bays b written }
  status = .ok ∧ (zone = none → t = u) ∧
    (∀ z, zone = some z → ReviewsThermal (fun y => y = old.zone ∨ y = z) u t)

/-- CLEAR_QUARANTINE for one bay (R116). -/
def ClearQuarantineGives (b : Bay) (s t : State) (status : Status) : Prop :=
  status = .ok ∧
    if s.isQuarantined b = true then
      t = ((s.putQuarantine (s.quarantine.filter (fun e => e.bay != b))).setCond b 7 false).putBay b
        { s.bay b with failCount := 0 }
    else t = s

/-- One pair of DRIVE_TEMPS, a bay number and a temperature as sent (R128): 127 clears the bay's report, any other value,
clamped to -40..125, makes it FRESH for 60,000 ms. -/
def PairGives (n temp : Byte) (s t : State) (status : Status) : Prop :=
  let value := temp.toInt
  let kept : Int := max (-40) (min 125 value)
  let report : Option DriveReport := if value = 127 then none else some ⟨kept, some 60000⟩
  (23 < n.toNat → t = s ∧ status = .badBay) ∧
    ∀ b : Bay, n.toNat = b.val →
      ((s.bay b).state = .empty → t = s ∧ status = .wrongState) ∧
      ((s.bay b).state ≠ .empty →
        t = s.putCooling { s.cooling with reports := Table.put s.cooling.reports b report } ∧
        status = if value = 127 then .ok else clampedOr (kept ≠ value))

/-- Pairs of DRIVE_TEMPS have been handled one at a time, in order, each with its status (R128). -/
def EachPair : List Byte → State → State → List Status → Prop
  | n :: temp :: rest, s, t, statuses => ∃ u status others, statuses = status :: others ∧
      PairGives n temp s u status ∧ EachPair rest u t others
  | _, s, t, statuses => t = s ∧ statuses = []

/-- The reason a quarantine entry is given (R114): that of the latest outcome where it is a failure, else of the previous,
else LIMIT_LOWERED. -/
def quarantineReason (r : BayRecord) : QuarantineReason :=
  let failure := fun o : Option SpinOutcome =>
    if o = some .trip then some QuarantineReason.trip
    else if o = some .noSpin then some .noSpin
    else if o = some .noSettle then some .noSettle
    else none
  ((failure r.latest).orElse (fun _ => failure r.previous)).getD .limitLowered

/-! ## Replies and event records as bytes -/

/-- A number in one byte. -/
def oneByte (n : Nat) : List Byte := [BitVec.ofNat 8 (n % 256)]

/-- A number in two bytes, low byte first (R179). -/
def twoBytes (n : Nat) : List Byte := oneByte n ++ oneByte (n / 256)

/-- A number in four bytes, low byte first (R179). -/
def fourBytes (n : Nat) : List Byte := twoBytes n ++ twoBytes (n / 65536)

/-- A signed number in four bytes, two's complement (R179). -/
def signedBytes (i : Int) : List Byte := fourBytes (i % 4294967296).toNat

/-- A temperature in one signed byte, 7Fh for none (R179). -/
def tempByte (o : Option Int) : List Byte := oneByte ((o.getD 127) % 256).toNat

/-- A number in one byte, FFh for none (R179). -/
def byteOrNone (o : Option Nat) : List Byte := oneByte (o.getD 255)

/-- A number in two bytes, FFFFh for none (R179). -/
def twoOrNone (o : Option Nat) : List Byte := twoBytes (o.getD 65535)

/-- A profile in its 13 bytes (R187). -/
def profileFields (p : Profile) : List Byte :=
  twoBytes p.inrush ++ twoBytes p.steady ++ twoBytes p.standby ++ twoBytes p.spinMs ++ twoBytes p.settle ++
    twoBytes p.trip ++ oneByte p.heat

/-- A curve in its 8 bytes (R185). -/
def curveFields (c : Curve) : List Byte :=
  [c.p1, c.p2, c.p3, c.p4].flatMap fun p => tempByte (some p.temp) ++ oneByte p.duty

/-- The level of a condition (Table 8-1). -/
def levelOf (c : Fin 9) : Nat := [5, 6, 3, 2, 1, 4, 1, 6, 7].getD c.val 0

/-- A condition is eligible: it is set, and its level is above the mask or is 7 (R153). -/
def Eligible (s : State) (b : Bay) (c : Fin 9) : Prop :=
  (s.bayLights b).conditions.get c = true ∧ (s.lights.mask < levelOf c ∨ levelOf c = 7)

/-- A condition is the resolved one of a bay: eligible, of the highest level, the lower number winning a tie (R153). -/
def ResolvesTo (s : State) (b : Bay) (c : Fin 9) : Prop :=
  Eligible s b c ∧ ∀ d, Eligible s b d → levelOf d < levelOf c ∨ (levelOf d = levelOf c ∧ c ≤ d)

/-- The causes of the enclosure fault state, in the order of Table 10-4 (R158). -/
def FaultCause (s : State) (i : Fin 6) : Prop :=
  match i with
  | 0 => ∃ b c, ResolvesTo s b c ∧ 6 ≤ levelOf c
  | 1 => ∃ f, (s.fan f).state = .failed
  | 2 => ∃ k, (s.cooling.sensors.get k).state = .failed
  | 3 => ∃ k, (s.budget.slots.get k).present.accepted = true ∧ (s.budget.slots.get k).good.accepted = false
  | 4 => ∃ z, (s.zone z).thermal = .critical
  | 5 => s.budget.overcommitted = true

/-- The type and number of an event's subject (Table 11-1). -/
def subjectFields : Subject → List Byte
  | .none => [0, 0xff]
  | .bay b => 1 :: oneByte b.val
  | .fan f => 2 :: oneByte f.val
  | .zone z => 3 :: oneByte z.number.val
  | .sensor k => 4 :: oneByte k.val
  | .slot k => 5 :: oneByte k.val

/-- An event record in its 13 bytes (Table 11-1, R188): kind, subject, detail, whether a value is present, the value, the
time. Outside the range of its field the value is a free one (notes/assumptions/17.md). -/
def recordFields (r : EventRecord) : List Byte :=
  let v := r.event.value.getD 0
  [r.event.kind.byte] ++ subjectFields r.event.subject ++ [r.event.detail.getD 0xff] ++
    oneByte r.event.value.isSome.toNat ++
    (if -2147483648 ≤ v ∧ v ≤ 2147483647 then signedBytes v else fourBytes (Config.wideEventValue v).toNat) ++
    fourBytes r.time.toNat

/-! ## Selections and the warm restart -/

/-- A profile rule matches a bay (R46): it is enabled, the bay number agrees with the base in each binary place of the mask,
and the carrier code is present and in the carrier set. -/
def Matches (cfg : Settings) (b : Bay) (code : Option Code) (i : Fin 8) : Prop :=
  let r := cfg.rules.get i
  r.enabled = true ∧ (∀ k, r.mask.testBit k = true → b.val.testBit k = r.base.testBit k) ∧
    ∃ c, code = some c ∧ r.carriers.getLsbD c.val = true

/-- A selection finds this many matching rules and gives this index (R47): the one rule's, or 0 where none or several
match. -/
def Selects (cfg : Settings) (b : Bay) (code : Option Code) (count : Nat) (index : Fin 8) : Prop :=
  ∃ found : List (Fin 8), found.Nodup ∧ (∀ i, i ∈ found ↔ Matches cfg b code i) ∧ count = found.length ∧
    (∀ i, found = [i] → index = (cfg.rules.get i).profile) ∧ (found.length ≠ 1 → index = 0)

/-- A bay record across a warm restart (Table 2-8). -/
def BayRecord.acrossRestart (r : BayRecord) : BayRecord :=
  match r.state with
  | .empty | .idleOff | .active | .standby | .poweringDown | .extracting => r
  | .seating => { r with timer := if r.timer.isSome = true then some 10000 else none }
  | .queued => r.openIn .idleOff none
  | .ramping | .spinning | .granted => r.closedIn .spinning (some r.snap.spinMs)
  | .wakeQueued => r.closedIn .standby none
  | .faulted => { r with timer := some (5000 * r.failCount) }

/-- The part of a warm restart that waits for no settings write has been done (R195; which part that is, is the model's choice,
notes/assumptions/12.md): the bays mapped (R39), the channels re-sampled (R15) and the rise watches of the bays in STANDBY
armed (R107), the arbiter cleared (R99), the commitments and lists rebuilt (R73), and the events raised. -/
structure RestartedAtOnce (s t : State) : Prop where
  bays : ∀ b, t.bay b = (s.bay b).acrossRestart
  chans : ∀ b, t.chan b = { s.chan b with
    peak := if (s.bay b).state.drawsInrush = true then (s.chan b).live else (s.chan b).peak
    riseWatch := if (s.bay b).state = .standby ∨ (s.bay b).state = .wakeQueued then some (s.bay b).snap.steady else none
    fallWatch := none
    rampEndWithheld := decide ((s.chan b).switch = .ramping)
    seatTimer := (s.chan b).seatTimer.map (fun _ => 0)
    reports := (s.chan b).reports ++
      [.contactChange (s.chan b).early.accepted (s.chan b).late.accepted (s.chan b).seated false] }
  conditions : ∀ b c, c ≠ condSpinWait → (t.bayLights b).conditions.get c = (s.bayLights b).conditions.get c
  lights : LightsAgree s → LightsAgree t
  lightsOwn : t.lights = { s.lights with bays := t.lights.bays }
  arbiter : t.arbiter =
    { queue := [], spinCount := (allBays.filter fun b => (s.bay b).state.drawsInrush).length, stagger := none,
      pendingMark := false, grantRecord := none, lastPass := none, startUpHold := s.arbiter.startUpHold,
      grants := s.arbiter.grants.map (fun g => { g with stale := true }),
      declines := s.arbiter.declines.map (fun d => { d with stale := true }) }
  budget : t.budget = { s.budget with
    commitments := Table.each (fun r => r.acrossRestart.commitment) s.bays, grantOrder := [], outstanding := none
    revocations := s.budget.revocations.map (fun x => { x with stale := true }) }
  events : t.events = (s.raiseAll (⟨.warmRestart, .none, none, none⟩ ::
    (allBays.filter fun b => (s.bay b).state == .wakeQueued).map
      (fun b => bayEvent .wakeDropped b none none))).events
  quarantine : t.quarantine = s.quarantine
  cooling : t.cooling = s.cooling
  link : t.link = s.link
  time : t.time = s.time
  store : t.store = s.store
  cfg : t.cfg = s.cfg
  pending : t.pending = s.pending
  resetLow : t.resetLow = s.resetLow

/-- A bay goes back to QUEUED after the reload (R40): it was QUEUED at the restart and stands in IDLE_OFF, its reloaded
policy is AUTO, its flag is clear and it has no quarantine entry. -/
def GoesBack (queued : List Bay) (items : Settings) (s : State) (b : Bay) : Prop :=
  b ∈ queued ∧ (s.bay b).state = .idleOff ∧ (items.bays.get b).policy = .auto ∧
    (s.bay b).removalPrepared = false ∧ s.isQuarantined b = false

/-- A bay the quarantine check after the reload takes out (R113, R40): in QUEUED or FAULTED with a failure count above the
reloaded retry limit. -/
def CheckedOut (queued : List Bay) (items : Settings) (s : State) (b : Bay) : Prop :=
  (GoesBack queued items s b ∨ (s.bay b).state = .queued ∨ (s.bay b).state = .faulted) ∧
    items.admission.retryLimit < (s.bay b).failCount

/-- Bays have joined the queue one after another, each with its reloaded class and this join time (R40, R99). -/
def Rejoined (items : Settings) (time : EventTime) : List Bay → List QueueEntry → List QueueEntry → Prop
  | [], before, after => after = before
  | b :: rest, before, after => ∃ mid, Joined ⟨b, .powerOn, (items.bays.get b).cls, time, 0⟩ before mid ∧
      Rejoined items time rest mid after

/-- A fan record across the reload (R145): the absent setting applied as SET_FAN applies it (R124), a RUNNING fan at its
zone's duty, a fresh window at the reloaded length; state, rpm, counts and judgment are otherwise kept. -/
def FanRecord.acrossReload (r : FanRecord) (absent checking : Bool) (zoneDuty windowMs : Nat) : FanRecord :=
  let window := some (TachWindow.mk windowMs windowMs 0)
  if absent = true then
    if r.state = .absent then { r with window := none } else ⟨.absent, 0, r.rpm, 0, 0, none, none⟩
  else if r.state = .absent then
    if checking = true then { r with state := .checking, duty := 100, window := window }
    else { r with state := .running, duty := zoneDuty, low := 0, good := 0, window := window }
  else if r.state = .running then { r with duty := zoneDuty, window := window }
  else { r with window := window }

/-- The configuration that a load of an image puts in force (R194): its items, or the factory defaults where its check
differs from the check formed of them. -/
def loaded (image : SettingsImage) : Settings :=
  if image.check = Config.settingsCheck image.items then image.items else factorySettings

/-- SETTINGS_DEFAULTED where the check of a loaded image differs (R194). -/
def loadEvents (image : SettingsImage) (detail : Byte) : List Event :=
  if image.check = Config.settingsCheck image.items then [] else [⟨.settingsDefaulted, .none, some detail, none⟩]

/-- The reload of a warm restart and the work that follows it have been done, for the bays found QUEUED and the restart's
event time: the configuration in force (R194), the fans and zone duties (R145), one recomputation (R73), the thermal states
(R139), the profiles selected anew and the bays found QUEUED moved back in order (R40, R99), the quarantine check run
(R113). -/
structure Reloaded (awaited : AwaitedReload) (items : Settings) (s t : State) : Prop where
  cfg : t.cfg = items
  store : t.store = { s.store with
    defaulted := decide (s.store.image.check ≠ Config.settingsCheck s.store.image.items), reloadAwaited := none }
  raised : Raises (loadEvents s.store.image 1) s t
  back : ∀ b, GoesBack awaited.queued items s b → ¬ CheckedOut awaited.queued items s b → (t.bay b).state = .queued
  out : ∀ b, CheckedOut awaited.queued items s b → (t.bay b).state = .idleOff ∧ t.isQuarantined b = true
  stays : ∀ b, ¬ GoesBack awaited.queued items s b → ¬ CheckedOut awaited.queued items s b →
    t.bay b = { s.bay b with profileIndex := (t.bay b).profileIndex }
  notListed : ∀ b, ¬ CheckedOut awaited.queued items s b → t.isQuarantined b = s.isQuarantined b
  listed : ∃ more, t.quarantine = s.quarantine ++ more
  kept : ∀ b, (t.bay b).code = (s.bay b).code ∧ (t.bay b).failCount = (s.bay b).failCount ∧
    (t.bay b).latest = (s.bay b).latest ∧ (t.bay b).previous = (s.bay b).previous ∧
    (t.bay b).removalPrepared = (s.bay b).removalPrepared
  selected : ∀ b, (s.bay b).state = .idleOff ∨ (s.bay b).state = .queued ∨ (s.bay b).state = .faulted →
    ∃ count index, Selects items b (s.bay b).code count index ∧ (t.bay b).profileIndex = some index
  notSelected : ∀ b, (s.bay b).state ≠ .idleOff → (s.bay b).state ≠ .queued → (s.bay b).state ≠ .faulted →
    (t.bay b).profileIndex = (s.bay b).profileIndex
  queue : awaited.queued.Pairwise (fun x y => x < y) → ∃ (bays : List Bay) (q : List QueueEntry) (removed : Bay → Bool),
    bays.Pairwise (fun x y => x < y) ∧ (∀ b, b ∈ bays ↔ GoesBack awaited.queued items s b) ∧
      Rejoined items awaited.time bays s.arbiter.queue q ∧
      (∀ b, removed b = true ↔ (GoesBack awaited.queued items s b ∨ (s.bay b).state = .queued) ∧
        items.admission.retryLimit < (s.bay b).failCount) ∧
      t.arbiter.queue = q.filter (fun e => !removed e.bay)
  triggered : t.arbiter.queue ≠ s.arbiter.queue ∨
    (∃ z, (s.zone z).thermal = .critical ∧ (t.zone z).thermal ≠ .critical) → Triggered (fun _ => True) t
  duties : ∀ z, (t.zone z).duty =
    if s.cooling.fanCheck.isSome = true then (s.zone z).duty else max (s.zone z).duty (t.zoneTarget z)
  fans : ∀ f, t.fan f = (s.fan f).acrossReload (items.fans.get f).absent s.cooling.fanCheck.isSome
    (t.zone (zoneOfFan f)).duty items.common.windowMs
  judged : ∀ z, ZoneJudged z s t
  fanViews : ∀ f, t.budget.fanViews.get f = t.fanView f
  figures : t.budget.figures = t.formFigures
  overcommitted : t.budget.overcommitted = decide (t.budget.figures.headroom < 0)
  recomputed : (∀ b, s.budget.commitments.get b = (s.bay b).commitment) →
    Raises (loadEvents s.store.image 1 ++ budgetChange s.budget.overcommitted t.budget.figures.headroom) s t
  sensors : t.cooling.sensors = s.cooling.sensors
  reports : t.cooling.reports = s.cooling.reports
  timers : t.cooling.evaluation = s.cooling.evaluation ∧ t.cooling.sensorRead = s.cooling.sensorRead ∧
    t.cooling.fanCheck = s.cooling.fanCheck
  conditions : ∀ b c, c ≠ condSpinWait → c ≠ condQuarantined →
    (t.bayLights b).conditions.get c = (s.bayLights b).conditions.get c
  lightsOwn : t.lights = { s.lights with bays := t.lights.bays }
  slots : t.budget.slots = s.budget.slots
  chans : t.chans = s.chans
  link : t.link = s.link
  time : t.time = s.time
  pending : t.pending = s.pending
  resetLow : t.resetLow = s.resetLow

end Sys2Proof.Machine
end

