-- ==== Sys2Proof/Certificates/Slice0/Obligations.lean ====
section
/-! DEFINITION. The statements for the provers, in the order of the part's blocks: what each command does to the state, what
it leaves, and what every step keeps. "(notes/assumptions/<n>.md)" in a docstring marks a clause that is the model's choice
and not a rule of the spec. -/

open Sys2Proof Sys2Proof.Machine

/-! ## The machine as a whole -/

/-- A step takes the command at the front of the queue and runs it with the queue's rest. -/
def Obligations.StepRunsTheFrontCommand : Prop :=
  ∀ (c : Instr) (rest : List Instr) (s : State),
    s.pending = c :: rest → step s = exec c { s with pending := rest }

/-- On an empty queue the part idles (the model's choice, notes/assumptions/1.md). RESET held low is released
(notes/assumptions/19.md). A settings write at the latest moment of its completion completes (notes/assumptions/33.md). A
pending reply at its latest moment begins while the receiver is HUNTING and lapses while it is RECEIVING (R170;
notes/assumptions/39.md). Otherwise one millisecond passes: the event time counts up, every running timer advances by one and stops at its end,
and nothing else changes. -/
def Obligations.EmptyQueueIdles : Prop :=
  ∀ (s : State),
    let down := fun o : Option Nat => o.map (fun n => n - 1)
    let line := fun l : FilteredLine => { l with filter := down l.filter }
    let writeDue := ∃ w, s.store.writing = some w ∧ w.left = 0
    let beginDue := s.link.receiver = .hunting ∧ ∃ p, s.link.reply = .pending p ∧ p.earliest = 0 ∧ p.latest = 0
    let lapseDue := (∃ taken gap, s.link.receiver = .receiving taken gap) ∧
      ∃ p, s.link.reply = .pending p ∧ p.latest = 0
    s.pending = [] → (s.resetLow = true → step s = .next { s with resetLow := false }) ∧
      (s.resetLow = false → writeDue → step s = exec .settingsWriteComplete s) ∧
      (s.resetLow = false → ¬ writeDue → beginDue → step s = exec .replyBegin s) ∧
      (s.resetLow = false → ¬ writeDue → lapseDue → step s = exec .replyLapse s) ∧
      (s.resetLow = false → ¬ writeDue → ¬ beginDue → ¬ lapseDue → ∃ t, step s = .next t ∧ t.time = s.time + 1 ∧
      (∀ b, t.chan b = { s.chan b with
        early := line (s.chan b).early
        late := line (s.chan b).late
        car1 := line (s.chan b).car1
        car0 := line (s.chan b).car0
        seatTimer := (s.chan b).seatTimer.map (fun n => min 250 (n + 1))
        rampTimer := down (s.chan b).rampTimer
        stretch := down (s.chan b).stretch }) ∧
      (∀ b, t.bay b = { s.bay b with timer := down (s.bay b).timer }) ∧
      (∀ k, t.budget.slots.get k = ⟨line (s.budget.slots.get k).present, line (s.budget.slots.get k).good⟩) ∧
      t.budget = { s.budget with slots := t.budget.slots } ∧
      t.arbiter = { s.arbiter with stagger := down s.arbiter.stagger } ∧
      (∀ f, t.fan f = { s.fan f with window := (s.fan f).window.map (fun w => { w with left := w.left - 1 }) }) ∧
      (∀ b, t.cooling.reports.get b =
        (s.cooling.reports.get b).map (fun r => { r with age := down r.age })) ∧
      t.cooling = { s.cooling with
        fans := t.cooling.fans
        reports := t.cooling.reports
        evaluation := s.cooling.evaluation - 1
        sensorRead := s.cooling.sensorRead - 1
        fanCheck := down s.cooling.fanCheck } ∧
      t.lights = { s.lights with boundary := s.lights.boundary - 1 } ∧
      (∀ taken gap, s.link.receiver = .receiving taken gap → t.link.receiver = .receiving taken (min 4 (gap + 1))) ∧
      (s.link.receiver = .hunting ∨ s.link.receiver = .suspended → t.link.receiver = s.link.receiver) ∧
      (∀ r, s.link.reply = .pending r →
        t.link.reply = .pending { r with earliest := r.earliest - 1, latest := r.latest - 1 }) ∧
      (s.link.reply = .none ∨ s.link.reply.isSending = true → t.link.reply = s.link.reply) ∧
      t.link = { s.link with receiver := t.link.receiver, reply := t.link.reply } ∧
      t.quarantine = s.quarantine ∧ t.events = s.events ∧
      t.store = { s.store with writing := s.store.writing.map (fun w => { w with left := w.left - 1 }) } ∧
      t.cfg = s.cfg ∧ t.resetLow = false ∧ t.pending = s.pending)

/-- Every command completes in every state, and leaves the queue of waiting commands to the step. -/
def Obligations.EveryCommandAnswersNext : Prop :=
  ∀ (c : Instr) (s : State), ∃ t, exec c s = .next t ∧ t.pending = s.pending

/-- STANDBY_POWER_UP and RESET_ASSERTED are cold starts (R14): every block is in its state of a cold start, the image is
loaded or, where its check fails or a write was cut short, the factory defaults are (R194, R195), the first budget
computation finds no supply (R72), and COLD_START is the first event (R193). The levels on the pins stand; RESET is held low
after RESET_ASSERTED (the model's choice, notes/assumptions/19.md). A write cut short leaves the items with a check that
differs (notes/assumptions/7.md). Messages on their way are dropped (notes/assumptions/18.md). -/
def Obligations.ColdStartsSetEveryBlock : Prop :=
  ∀ (straps : BitVec 3) (s : State),
    let image := if s.store.writing.isSome = true then
      ⟨s.store.image.items, Config.settingsCheck s.store.image.items + 1⟩ else s.store.image
    let sound := s.store.image.check = Config.settingsCheck s.store.image.items ∧ s.store.writing.isSome = false
    let cfg := if sound then s.store.image.items else factorySettings
    let line := fun (ms : Nat) (raw : Bool) => (⟨raw, false, if raw = true then some ms else none⟩ : FilteredLine)
    ∃ t, exec (.standbyPowerUp straps) s = .next t ∧ exec (.resetAsserted straps) s = .next { t with resetLow := true } ∧
      t.resetLow = false ∧ t.cfg = cfg ∧
      (∀ b, t.bay b = ⟨.empty, none, none, none, false, 0, none, none, none, false, false⟩) ∧
      (∀ b, t.chan b = ⟨line 5 (s.chan b).early.raw, line 5 (s.chan b).late.raw, line 5 (s.chan b).car1.raw,
        line 5 (s.chan b).car0.raw, none, false, none, .opened, none, false, none, 0, 0, none, none, false, none, []⟩) ∧
      t.quarantine = [] ∧ t.arbiter = ⟨[], 0, none, false, none, none, true, [], []⟩ ∧
      (∀ k, t.budget.slots.get k =
        ⟨line 10 (s.budget.slots.get k).present.raw, line 10 (s.budget.slots.get k).good.raw⟩) ∧
      (∀ b, t.budget.commitments.get b = 0) ∧ t.budget.grantOrder = [] ∧ t.budget.outstanding = none ∧
      t.budget.revocations = [] ∧
      (∀ f, t.budget.fanViews.get f = ⟨if (cfg.fans.get f).absent = true then .absent else .checking,
        if (cfg.fans.get f).absent = true then 0 else 100, (cfg.fans.get f).idle, (cfg.fans.get f).full⟩) ∧
      t.budget.figures = ⟨0, 0, t.budget.fanLoad, cfg.supply.base + t.budget.fanLoad,
        -((cfg.supply.base + t.budget.fanLoad : Nat) : Int)⟩ ∧
      t.budget.overcommitted = decide (0 < cfg.supply.base + t.budget.fanLoad) ∧
      (∀ z, t.zone z = ⟨100, .normal⟩) ∧
      (∀ f, t.fan f = if (cfg.fans.get f).absent = true then ⟨.absent, 0, 0, 0, 0, none, none⟩
        else ⟨.checking, 100, 0, 0, 0, none, some ⟨cfg.common.windowMs, cfg.common.windowMs, 0⟩⟩) ∧
      (∀ k, t.cooling.sensors.get k = ⟨.holding, none, 0, true⟩) ∧ (∀ b, t.cooling.reports.get b = none) ∧
      t.cooling.evaluation = 1000 ∧ t.cooling.sensorRead = 1000 ∧ t.cooling.fanCheck = some 5000 ∧
      (∀ b, (∀ c, (t.bayLights b).conditions.get c = false) ∧ (t.bayLights b).latn = false ∧
        (t.bayLights b).lact = false) ∧
      t.lights = { t.lights with
        mask := 0, locate := false, phase := 0, boundary := 125, elf := false, ell := false } ∧
      t.link = ⟨.hunting, .none, straps.setWidth 8 + 1, straps⟩ ∧ t.time = 0 ∧
      t.store = ⟨image, none, !decide sound, none⟩ ∧ t.pending = s.pending ∧
      t.events = ⟨[⟨⟨.coldStart, .none, none, none⟩, 0⟩] ++
        (if sound then [] else [⟨⟨.settingsDefaulted, .none, some 0, none⟩, 0⟩]) ++
        (if 0 < cfg.supply.base + t.budget.fanLoad then
          [⟨⟨.budgetOvercommit, .none, none, some (-((cfg.supply.base + t.budget.fanLoad : Nat) : Int))⟩, 0⟩]
        else []), false⟩

/-- The end of a RESTART's reply starts the warm restart (R39, R173). While a settings write is in progress its reload waits
(R195), with the bays found QUEUED kept to be moved back at it with the restart's event time (R99; which bays is the model's
choice, notes/assumptions/38.md; what of the restart waits, and what is done at once, is the model's choice,
notes/assumptions/12.md); otherwise the image is loaded at once and the work that follows it is done (R40, R73, R99,
R113, R145; the order of the blocks is the model's choice, notes/assumptions/11.md). SETTINGS_WRITE_COMPLETE makes the image
the items copied at the request, with their check and no event, and an awaited reload follows (R194, R195). -/
def Obligations.RestartsAndWritesReload : Prop :=
  ∀ (frame : List Byte) (written : SettingsWrite) (s : State),
    let queued := allBays.filter
      (fun b => (s.bay b).state == .queued || s.store.reloadAwaited.any (fun a => a.queued.contains b))
    let w := s.putStore { s.store with
      image := ⟨written.items, Config.settingsCheck written.items⟩, writing := none }
    (s.link.reply = .sending frame .restart → ∃ u, RestartedAtOnce s.listening u ∧
      (s.store.writing.isSome = true →
        exec .replySent s = .next (u.putStore { s.store with reloadAwaited := some ⟨queued, s.time⟩ })) ∧
      (s.store.writing = none → ∃ t, exec .replySent s = .next t ∧
        Reloaded ⟨queued, s.time⟩ (loaded s.store.image) u t)) ∧
    (s.store.writing = some written →
      (s.store.reloadAwaited = none → exec .settingsWriteComplete s = .next w) ∧
      (∀ awaited, s.store.reloadAwaited = some awaited →
        ∃ t, exec .settingsWriteComplete s = .next t ∧ Reloaded awaited written.items w t))

/-- A command whose report, message, timer or read is not there leaves the state as it is (the model's choice,
notes/assumptions/2.md, 3.md and 25.md). -/
def Obligations.CommandsWithNothingToTake : Prop :=
  ∀ (b : Bay) (f : Fan) (k : Sensor) (result : Option Int) (s : State),
    ((s.chan b).reports = [] → exec (.contactChange b) s = .next s ∧ exec (.seatStable b) s = .next s ∧
      exec (.rampEnd b) s = .next s ∧ exec (.trip b) s = .next s ∧ exec (.riseCross b) s = .next s ∧
      exec (.fallCross b) s = .next s) ∧
    ((s.bay b).timer = none → exec (.partialTimerExpiry b) s = .next s ∧ exec (.spinTimerExpiry b) s = .next s ∧
      exec (.settleExtensionExpiry b) s = .next s ∧ exec (.grantWindowExpiry b) s = .next s ∧
      exec (.dischargeExpiry b) s = .next s ∧ exec (.extractionWindowExpiry b) s = .next s ∧
      exec (.backoffExpiry b) s = .next s) ∧
    ((∀ g ∈ s.arbiter.grants, g.bay ≠ b) → exec (.grantTaken b) s = .next s) ∧
    ((∀ d ∈ s.arbiter.declines, d.bay ≠ b) → exec (.grantDecline b) s = .next s) ∧
    ((∀ x ∈ s.budget.revocations, x.bay ≠ b) → exec (.revocationRequest b) s = .next s) ∧
    (s.arbiter.stagger = none → exec .staggerExpiry s = .next s) ∧
    ((s.fan f).window = none → exec (.tachWindowEnd f) s = .next s) ∧
    ((s.cooling.sensors.get k).reading = false → exec (.sensorReadComplete k result) s = .next s) ∧
    ((s.cooling.reports.get b).bind DriveReport.age = none → exec (.driveTempAgeExpiry b) s = .next s) ∧
    (s.cooling.fanCheck = none → exec .fanCheckEnd s = .next s) ∧
    (s.store.writing = none → exec .settingsWriteComplete s = .next s) ∧
    ((s.link.reply = .none ∨ s.link.reply.isSending = true) →
      exec .replyBegin s = .next s ∧ exec .replyLapse s = .next s) ∧
    (s.link.reply.isSending = false → exec .replySent s = .next s)

/-! ## Bay front end (Chapter 1) -/

/-- PRESENCE_FILTER_EXPIRY (R2 to R4): the contacts named whose filters run take the level they have held. A change of an
accepted level sends one CONTACT_CHANGE; a seating starts the seat timer; an unseating stops it, clears the mark and the
held code, and opens a switch that is not OPEN, which the report says. -/
def Obligations.ContactFiltersReportChanges : Prop :=
  ∀ (b : Bay) (k : Contacts) (s : State),
    let c := s.chan b
    let ended := fun l : FilteredLine => (⟨l.raw, if l.filter.isSome = true then l.raw else l.accepted, none⟩ : FilteredLine)
    let early := if k = .late then c.early else ended c.early
    let late := if k = .early then c.late else ended c.late
    let was := c.early.accepted = true ∧ c.late.accepted = true
    let now := early.accepted = true ∧ late.accepted = true
    let begins := ¬ was ∧ now
    let ends := was ∧ ¬ now
    let cut := ends ∧ c.switch ≠ .opened
    exec (.presenceFilterExpiry b k) s = .next (s.putChan b { c with
      early := early
      late := late
      seatTimer := if begins then some 0 else if ends then none else c.seatTimer
      seatStable := if ends then false else c.seatStable
      heldCode := if ends then none else c.heldCode
      switch := if cut then .opened else c.switch
      rampTimer := if cut then none else c.rampTimer
      rampEndWithheld := if cut then false else c.rampEndWithheld
      tripLevel := if cut then none else c.tripLevel
      riseWatch := if cut then none else c.riseWatch
      fallWatch := if cut then none else c.fallWatch
      reports := if early.accepted = c.early.accepted ∧ late.accepted = c.late.accepted then c.reports
        else c.reports ++ [.contactChange early.accepted late.accepted (decide now) (decide cut)] })

/-- A raw edge on a presence contact (R2), a carrier line (R5) or a supply line (R53) starts or restarts the line's filter
at its full time, or ends it where the level returns to the accepted one; a level that the pin already holds is no edge
(notes/assumptions/24.md). CARRIER_FILTER_EXPIRY takes the held level without a report, SEAT_TIMER_EXPIRY samples the
carrier code, CAR1 worth 2 and CAR0 worth 1, holds it and sends SEAT_STABLE (R3, R5), and RAMP_TIMER_EXPIRY closes a RAMPING
switch and sends RAMP_END, unless a warm restart withheld it (R6, R15). Nothing else changes. -/
def Obligations.EdgesFiltersAndChannelTimers : Prop :=
  ∀ (b : Bay) (k : Slot) (level : Bool) (s : State),
    let seen := fun (ms : Nat) (l : FilteredLine) => (⟨level, l.accepted,
      if l.raw = level then l.filter else if level = l.accepted then none else some ms⟩ : FilteredLine)
    let ended := fun l : FilteredLine => (⟨l.raw, if l.filter.isSome = true then l.raw else l.accepted, none⟩ : FilteredLine)
    let c := s.chan b
    let l := s.budget.slots.get k
    let slot := fun x : SlotLines => s.putBudget { s.budget with slots := Table.put s.budget.slots k x }
    exec (.presenceRawEdge b .early level) s = .next (s.putChan b { c with early := seen 5 c.early }) ∧
    exec (.presenceRawEdge b .late level) s = .next (s.putChan b { c with late := seen 5 c.late }) ∧
    exec (.carrierRawEdge b .car1 level) s = .next (s.putChan b { c with car1 := seen 5 c.car1 }) ∧
    exec (.carrierRawEdge b .car0 level) s = .next (s.putChan b { c with car0 := seen 5 c.car0 }) ∧
    exec (.supplyRawEdge k .present level) s = .next (slot { l with present := seen 10 l.present }) ∧
    exec (.supplyRawEdge k .good level) s = .next (slot { l with good := seen 10 l.good }) ∧
    exec (.carrierFilterExpiry b .car1) s = .next (s.putChan b { c with car1 := ended c.car1 }) ∧
    exec (.carrierFilterExpiry b .car0) s = .next (s.putChan b { c with car0 := ended c.car0 }) ∧
    (c.seatTimer.isSome = true → ∃ code : Code, code.val = 2 * c.car1.accepted.toNat + c.car0.accepted.toNat ∧
      exec (.seatTimerExpiry b) s = .next (s.putChan b { c with
        seatTimer := none, seatStable := true, heldCode := some code, reports := c.reports ++ [.seatStable code] })) ∧
    (c.seatTimer = none → exec (.seatTimerExpiry b) s = .next s) ∧
    (c.switch = .ramping → exec (.rampTimerExpiry b) s = .next (s.putChan b { c with
      switch := .closed, rampTimer := none, rampEndWithheld := false
      reports := if c.rampEndWithheld = true then c.reports else c.reports ++ [.rampEnd] })) ∧
    (c.switch ≠ .ramping → exec (.rampTimerExpiry b) s = .next s)

/-- CURRENT_SAMPLE (R8 to R10): a sample above 10,000 mA is recorded as 10,000; it becomes the live current and raises the
peak; a rise watch fires above its level and a fall watch at or below it, each once, the rise watch tested first
(notes/assumptions/27.md). TRIP_EXCURSION (R7, R11): above the level of an armed comparator the switch opens, with its ramp
timer, comparator and watches, the current enters the peak and TRIP is sent; at or below it, or unarmed, nothing changes. -/
def Obligations.SamplesAndExcursionsReport : Prop :=
  ∀ (b : Bay) (mA : Nat) (s : State),
    let c := s.chan b
    let live := min mA 10000
    exec (.currentSample b mA) s = .next (s.putChan b { c with
      live := live
      peak := max c.peak live
      riseWatch := c.riseWatch.filter (fun level => decide (live ≤ level))
      fallWatch := c.fallWatch.filter (fun level => decide (level < live))
      reports := c.reports ++ (if c.riseWatch.any (fun level => decide (level < live)) = true then [.riseCross live] else []) ++
        (if c.fallWatch.any (fun level => decide (live ≤ level)) = true then [.fallCross live] else []) }) ∧
    (∀ level, c.tripLevel = some level → level < mA → c.switch ≠ .opened →
      exec (.tripExcursion b mA) s = .next (s.putChan b { c with
        switch := .opened, rampTimer := none, rampEndWithheld := false, tripLevel := none, riseWatch := none
        fallWatch := none, peak := max c.peak live, reports := c.reports ++ [.trip live] })) ∧
    (∀ level, c.tripLevel = some level → mA ≤ level → exec (.tripExcursion b mA) s = .next s) ∧
    (c.tripLevel = none → exec (.tripExcursion b mA) s = .next s)

/-- ACTI_ASSERT and ACTIVITY_STRETCH_EXPIRY (R13): the activity level is asserted for a stretch of 50 ms that each assertion
restarts, and at each of its changes the ACT light of a bay in ACTIVE follows it (R157). -/
def Obligations.ActivityLightsTheActLight : Prop :=
  ∀ (b : Bay) (s : State),
    let c := s.chan b
    let lit := fun (level : Bool) (t : State) => t.putBayLights b { s.bayLights b with
      lact := if c.activity = level then (s.bayLights b).lact
        else if (s.bay b).state = .active then level
        else if (s.bay b).state = .ramping ∨ (s.bay b).state = .spinning ∨ (s.bay b).state = .granted then
          decide (s.lights.phase.val < 4)
        else false }
    exec (.actiAssert b) s = .next (lit true (s.putChan b { c with activity := true, stretch := some 50 })) ∧
    (c.stretch.isSome = true → exec (.activityStretchExpiry b) s =
      .next (lit false (s.putChan b { c with activity := false, stretch := none }))) ∧
    (c.stretch = none → exec (.activityStretchExpiry b) s = .next s)

/-! ## Bay controller: contacts and seating (Chapter 2) -/

/-- CONTACT_CHANGE in EMPTY and SEATING (R18, R19): an early contact takes an EMPTY bay to SEATING, with the partial timer of
10,000 ms while it is not seated; in SEATING a seating stops that timer and a loss of it restarts it from the whole time,
unless the stay has already been reported. -/
def Obligations.ContactsBeginTheSeating : Prop :=
  ∀ (b : Bay) (early late seated cut : Bool) (rest : List Report) (s : State),
    let u := s.putChan b { s.chan b with reports := rest }
    (s.chan b).reports = .contactChange early late seated cut :: rest →
      ((s.bay b).state = .empty → early = false → exec (.contactChange b) s = .next u) ∧
      ((s.bay b).state = .empty → early = true → ∃ t, exec (.contactChange b) s = .next t ∧
        t.bay b = (s.bay b).openIn .seating (if seated = true then none else some 10000) ∧ t.chan b = u.chan b ∧
        Moves b [] s.arbiter.queue s t) ∧
      ((s.bay b).state = .seating → early = true → exec (.contactChange b) s = .next (u.putBay b { s.bay b with
        timer := if seated = true then none
          else if (s.bay b).partialReported = true then none else some 10000 }))

/-- A bay enters EMPTY (R37) from SEATING when its early contact is lost (R19), and from EXTRACTING when both contacts are
lost or when its window ends without the early contact (R36; the window's end reads the channel's accepted level,
notes/assumptions/13.md). Its own events come before the other blocks' (the model's choice, notes/assumptions/6.md). -/
def Obligations.LostContactsEmptyTheBay : Prop :=
  ∀ (b : Bay) (late seated cut : Bool) (rest : List Report) (s : State),
    let r := s.bay b
    ((s.chan b).reports = .contactChange false late seated cut :: rest →
      r.state = .seating ∨ (r.state = .extracting ∧ late = false) →
      ∃ t, exec (.contactChange b) s = .next t ∧ t.chan b = { s.chan b with reports := rest } ∧
        Emptied b r.latest r.previous s.arbiter.queue s t) ∧
    (r.state = .extracting → r.timer.isSome = true → (s.chan b).early.accepted = false →
      ∃ t, exec (.extractionWindowExpiry b) s = .next t ∧ t.chan b = s.chan b ∧
        Emptied b r.latest r.previous s.arbiter.queue s t)

/-- An extraction (R35): a CONTACT_CHANGE that is not seated, taken in a state other than EMPTY, SEATING and EXTRACTING. The
switch opens with no watch left armed (notes/assumptions/34.md), a spin in flight is recorded EXTRACTED, a queue entry is
removed, and the bay enters EXTRACTING for 2,000 ms, or, with both contacts lost, goes on from there to EMPTY. BAY_REMOVED
then comes after the other blocks' records of the move to EXTRACTING and ahead of those of the entry to EMPTY (the model's
choice, notes/assumptions/6.md). A seated report changes nothing but the report. -/
def Obligations.UnseatedBaysAreExtracted : Prop :=
  ∀ (b : Bay) (early late seated cut : Bool) (rest : List Report) (s : State),
    let r := s.bay b
    let spins := r.state = .ramping ∨ r.state = .spinning
    let latest := if spins then some .extracted else r.latest
    let previous := if spins then r.latest else r.previous
    let queue := if r.state = .queued ∨ r.state = .wakeQueued then leftBy b s.arbiter.queue else s.arbiter.queue
    let c := { s.chan b with reports := rest }
    let opened := { c.openSwitch with riseWatch := none, fallWatch := none }
    (s.chan b).reports = .contactChange early late seated cut :: rest →
      r.state ≠ .empty → r.state ≠ .seating → r.state ≠ .extracting →
      (seated = true → exec (.contactChange b) s = .next (s.putChan b c)) ∧
      (seated = false → early = true ∨ late = true → ∃ t, exec (.contactChange b) s = .next t ∧
        t.bay b = { r.openIn .extracting (some 2000) with latest := latest, previous := previous } ∧
        t.chan b = opened ∧ Moves b [] queue s t) ∧
      (seated = false → early = false → late = false → ∃ t u, exec (.contactChange b) s = .next t ∧
        u.bay b = { r.openIn .extracting (some 2000) with latest := latest, previous := previous } ∧
        u.chan b = opened ∧ Moves b [] queue s u ∧ t.chan b = opened ∧
        Emptied b latest previous queue u t)

/-- EXTRACTING (R36): a seated contact report returns the bay to SEATING with BAY_DISTURBED, one with a single contact
changes nothing, and the end of the window with the early contact accepted takes the bay to SEATING with the partial timer
from the whole time (the accepted level of the channel, notes/assumptions/13.md). Its own events come before the other
blocks' (the model's choice, notes/assumptions/6.md). -/
def Obligations.ExtractionEndsInSeating : Prop :=
  ∀ (b : Bay) (early late seated cut : Bool) (rest : List Report) (s : State),
    let c := { s.chan b with reports := rest }
    (s.bay b).state = .extracting →
      ((s.chan b).reports = .contactChange early late seated cut :: rest → early = true ∨ late = true →
        (seated = false → exec (.contactChange b) s = .next (s.putChan b c)) ∧
        (seated = true → ∃ t, exec (.contactChange b) s = .next t ∧ t.bay b = (s.bay b).openIn .seating none ∧
          t.chan b = c ∧ Moves b [bayEvent .bayDisturbed b none none] s.arbiter.queue s t)) ∧
      ((s.bay b).timer.isSome = true → (s.chan b).early.accepted = true →
        ∃ t, exec (.extractionWindowExpiry b) s = .next t ∧ t.bay b = (s.bay b).openIn .seating (some 10000) ∧
          t.chan b = s.chan b ∧ Moves b [] s.arbiter.queue s t)

/-- SEAT_STABLE in SEATING completes the seating (R21, R47): the code stored, the profile selected by the rules that
match, RULE_CONFLICT where several do, BAY_INSERTED, and then QUEUED with a queue entry of the bay's class for an AUTO bay
whose flag is clear and that is not quarantined, or IDLE_OFF. In any other state the report is ignored. Its own events
come before the other blocks' (the model's choice, notes/assumptions/6.md). -/
def Obligations.SeatStableCompletesTheSeating : Prop :=
  ∀ (b : Bay) (code : Code) (rest : List Report) (s : State),
    let c := { s.chan b with reports := rest }
    let codeByte := BitVec.ofNat 8 code.val
    let goesOn := (s.baySettings b).policy = .auto ∧ (s.bay b).removalPrepared = false ∧ s.isQuarantined b = false
    (s.chan b).reports = .seatStable code :: rest →
      ((s.bay b).state ≠ .seating → exec (.seatStable b) s = .next (s.putChan b c)) ∧
      ((s.bay b).state = .seating → ∃ count index t, exec (.seatStable b) s = .next t ∧
        Selects s.cfg b (some code) count index ∧
        t.bay b = { (s.bay b).openIn (if goesOn then .queued else .idleOff) none with
          code := some code, profileIndex := some index } ∧
        t.chan b = c ∧
        (goesOn → Joined ⟨b, .powerOn, (s.baySettings b).cls, s.time, 0⟩ s.arbiter.queue t.arbiter.queue) ∧
        (¬ goesOn → t.arbiter.queue = s.arbiter.queue) ∧
        Moves b ((if 2 ≤ count then [bayEvent .ruleConflict b (some codeByte) (some count)] else []) ++
          [bayEvent .bayInserted b (some codeByte) (some index.val)]) t.arbiter.queue s t)

/-! ## Bay controller: spins, trips and timers (Chapters 2 and 6) -/

/-- RAMP_END in RAMPING (R25) and RISE_CROSS in GRANTED (R28), STANDBY and WAKE_QUEUED (R106) take the bay to SPINNING for
the snapshot's spin_ms with the peak reset and no watch left armed (R107; DISARM is the model's way to it,
notes/assumptions/34.md); the last two raise UNSCHEDULED_SPIN, and WAKE_QUEUED leaves the queue. In any other state the
report is ignored. Its own events come before the other blocks' (the model's choice, notes/assumptions/6.md). -/
def Obligations.ReportsBeginTheSpin : Prop :=
  ∀ (b : Bay) (mA : Nat) (rest : List Report) (s : State),
    let st := (s.bay b).state
    let c := { s.chan b with reports := rest }
    let spins := fun (p : Profile) (events : List Event) (queue : List QueueEntry) (t : State) =>
      t.bay b = (s.bay b).closedIn .spinning (some p.spinMs) ∧
        t.chan b = { c with peak := c.live, riseWatch := none, fallWatch := none } ∧ Moves b events queue s t
    ((s.chan b).reports = .rampEnd :: rest →
      (st ≠ .ramping → exec (.rampEnd b) s = .next (s.putChan b c)) ∧
      (∀ p, (s.bay b).snapshot = some p → st = .ramping → ∃ t, exec (.rampEnd b) s = .next t ∧
        spins p [] s.arbiter.queue t)) ∧
    ((s.chan b).reports = .riseCross mA :: rest →
      (st ≠ .granted → st ≠ .standby → st ≠ .wakeQueued → exec (.riseCross b) s = .next (s.putChan b c)) ∧
      (∀ p, (s.bay b).snapshot = some p →
        (st = .granted → ∃ t, exec (.riseCross b) s = .next t ∧ spins p [] s.arbiter.queue t) ∧
        (st = .standby → ∃ t, exec (.riseCross b) s = .next t ∧
          spins p [bayEvent .unscheduledSpin b (some 7) (some mA)] s.arbiter.queue t) ∧
        (st = .wakeQueued → ∃ t, exec (.riseCross b) s = .next t ∧
          spins p [bayEvent .unscheduledSpin b (some 8) (some mA)] (leftBy b s.arbiter.queue) t)))

/-- TRIP: in a closed-switch state (R104) the outcome TRIP and one failure more, the backoff of 5,000 ms a failure, the
POWER_FAULT latch and event, no watch left armed (notes/assumptions/34.md), and the queue entry of WAKE_QUEUED removed; in
POWERING_DOWN, EXTRACTING, FAULTED, IDLE_OFF, QUEUED and SEATING (R105) the latch and the event alone; in EMPTY nothing. Its
own events come before the other blocks' (the model's choice, notes/assumptions/6.md). -/
def Obligations.TripsFaultTheBay : Prop :=
  ∀ (b : Bay) (mA : Nat) (rest : List Report) (s : State),
    let r := s.bay b
    let c := { s.chan b with reports := rest }
    let fault := bayEvent .powerFault b (some r.state.byte) (some mA)
    (s.chan b).reports = .trip mA :: rest →
      (r.state.closedSwitch = true → ∃ t, exec (.trip b) s = .next t ∧
        t.bay b = { r.openIn .faulted (some (5000 * (r.failCount + 1))) with
          failCount := r.failCount + 1, latest := some .trip, previous := r.latest } ∧
        t.chan b = { c with riseWatch := none, fallWatch := none } ∧ (t.bayLights b).conditions.get 8 = true ∧
        Moves b [fault] (if r.state = .wakeQueued then leftBy b s.arbiter.queue else s.arbiter.queue)
          (s.setCond b 8 true) t) ∧
      (r.state.closedSwitch = false → r.state ≠ .empty →
        exec (.trip b) s = .next (((s.putChan b c).setCond b 8 true).raise fault)) ∧
      (r.state = .empty → exec (.trip b) s = .next (s.putChan b c))

/-- The end of a spin (R100 to R103, R109): at the spin timer a peak below the snapshot's steady_mA fails it NO_SPIN, else
a live current at or below settle_mA succeeds, else the settle extension of 2,000 ms begins with the fall watch; in the
extension FALL_CROSS succeeds and its expiry fails NO_SETTLE. FALL_CROSS is ignored in every other state and outside the
extension. No success and no failure leaves a watch armed (R107, Table 6-1; DISARM is the model's way to it,
notes/assumptions/34.md). Its own events come before the other blocks' (the model's choice, notes/assumptions/6.md). -/
def Obligations.SpinsSucceedOrFail : Prop :=
  ∀ (b : Bay) (mA : Nat) (rest : List Report) (s : State),
    let r := s.bay b
    let c := s.chan b
    let fails := fun (o : SpinOutcome) (reading : Nat) (t : State) =>
      t.bay b = { r.openIn .faulted (some (5000 * (r.failCount + 1))) with
        failCount := r.failCount + 1, latest := some o, previous := r.latest } ∧
      t.chan b = { c.openSwitch with riseWatch := none, fallWatch := none } ∧
      Moves b [bayEvent .spinFailed b (some o.byte) (some reading)] s.arbiter.queue s t
    let succeeds := fun (d : Channel) (t : State) =>
      t.bay b = { r.closedIn .active none with latest := some .success, previous := r.latest } ∧
      t.chan b = { d with riseWatch := none, fallWatch := none } ∧
      Moves b [bayEvent .bayPowered b none (some c.peak)] s.arbiter.queue s t
    (∀ p, r.state = .spinning → r.timer.isSome = true → r.snapshot = some p → r.settling = false →
      (c.peak < p.steady → ∃ t, exec (.spinTimerExpiry b) s = .next t ∧ fails .noSpin c.peak t) ∧
      (p.steady ≤ c.peak → c.live ≤ p.settle → ∃ t, exec (.spinTimerExpiry b) s = .next t ∧ succeeds c t) ∧
      (p.steady ≤ c.peak → p.settle < c.live → exec (.spinTimerExpiry b) s =
        .next ((s.putChan b { c with fallWatch := some p.settle }).putBay b
          { r with timer := some 2000, settling := true }))) ∧
    (r.state = .spinning → r.timer.isSome = true → r.settling = true →
      ∃ t, exec (.settleExtensionExpiry b) s = .next t ∧ fails .noSettle c.live t) ∧
    (c.reports = .fallCross mA :: rest →
      (r.state = .spinning → r.settling = true →
        ∃ t, exec (.fallCross b) s = .next t ∧ succeeds { c with reports := rest } t) ∧
      (r.state ≠ .spinning ∨ r.settling = false →
        exec (.fallCross b) s = .next (s.putChan b { c with reports := rest })))

/-- The bay timers of Table 2-2: PARTIAL_TIMER_EXPIRY reports a partial seating once (R20); GRANT_WINDOW_EXPIRY returns a
GRANTED bay to STANDBY with GRANT_EXPIRED (R28); DISCHARGE_EXPIRY takes a bay from POWERING_DOWN to IDLE_OFF (R33). At
BACKOFF_EXPIRY (R110) a bay at or below the retry limit queues again, and one above it goes to IDLE_OFF and is entered in
the quarantine table with its code, the reason of its latest or previous failure, its count and the time (R114), its
QUARANTINED condition set and BAY_QUARANTINED raised last. Its own events come before the other blocks' (the model's
choice, notes/assumptions/6.md). -/
def Obligations.BayTimersExpire : Prop :=
  ∀ (b : Bay) (s : State),
    let r := s.bay b
    let reason := quarantineReason r
    r.timer.isSome = true →
      (r.state = .seating → exec (.partialTimerExpiry b) s =
        .next ((s.putBay b { r with timer := none, partialReported := true }).raise
          (bayEvent .bayPartial b none none))) ∧
      (r.state = .granted → ∃ t, exec (.grantWindowExpiry b) s = .next t ∧ t.bay b = r.closedIn .standby none ∧
        t.chan b = s.chan b ∧ Moves b [bayEvent .grantExpired b none none] s.arbiter.queue s t) ∧
      (r.state = .poweringDown → ∃ t, exec (.dischargeExpiry b) s = .next t ∧ t.bay b = r.openIn .idleOff none ∧
        t.chan b = s.chan b ∧ Moves b [] s.arbiter.queue s t) ∧
      (r.state = .faulted → r.failCount ≤ s.cfg.admission.retryLimit → ∃ t, exec (.backoffExpiry b) s = .next t ∧
        t.bay b = r.openIn .queued none ∧ t.chan b = s.chan b ∧
        Joined ⟨b, .powerOn, (s.baySettings b).cls, s.time, 0⟩ s.arbiter.queue t.arbiter.queue ∧
        Moves b [] t.arbiter.queue s t) ∧
      (r.state = .faulted → s.cfg.admission.retryLimit < r.failCount → ∃ u t, exec (.backoffExpiry b) s = .next t ∧
        t = ((u.putQuarantine (s.quarantine ++ [⟨b, r.code, reason, r.failCount, s.time⟩])).setCond b 7 true).raise
          (bayEvent .bayQuarantined b (some reason.byte) (some r.failCount)) ∧
        u.bay b = r.openIn .idleOff none ∧ u.chan b = s.chan b ∧ Moves b [] s.arbiter.queue s u)

/-! ## Grants, passes and revocations (Chapters 2, 4 and 5) -/

/-- A POWER_ON grant taken in QUEUED whose priced values the current profile still holds (R24, R51): the snapshot taken,
CLOSE with its trip level, RAMPING. A WAKE grant taken in WAKE_QUEUED (R27): GRANTED for the grant window in force, with
GRANT. The arbiter takes either as carried out: the entry removed, the bypassed head charged, the stagger timer started, the
record cleared (R87, R90, R92). After POWER_ON its pass is blocked by the ramp (R82); after WAKE it is blocked, with the
mark set, by a stagger timer started, a ramp or the start-up hold, and else it runs (R81). Its own events come before the
other blocks' (the model's choice, notes/assumptions/6.md). -/
def Obligations.MatchingGrantsAreCarriedOut : Prop :=
  ∀ (b : Bay) (i : Fin 8) (head : Option Bay) (priced : Option (Nat × Nat)) (pre post : List Grant) (s : State),
    let p := s.cfg.profile i
    let c := s.chan b
    let u := s.putArbiter { s.arbiter with grants := pre ++ post }
    let window := s.cfg.admission.grantWindow
    let answered := fun t : State =>
      ActsOnBay b u t ∧ KeepsIndications b s t ∧ Notified b s t ∧ ZoneRaised (u.zoneOf b) u t ∧
        t.arbiter.queue = (leftBy b s.arbiter.queue).map
          (fun e => if head = some e.bay then { e with bypass := e.bypass + 1 } else e) ∧
        t.arbiter.stagger = (if s.cfg.admission.stagger = 0 then none else some s.cfg.admission.stagger)
    let waits := fun t : State => t.arbiter.grantRecord = none ∧ t.arbiter.grants = pre ++ post ∧
      t.arbiter.pendingMark = true ∧ t.arbiter.lastPass = s.arbiter.lastPass
    let blocked := s.cfg.admission.stagger ≠ 0 ∨ (∃ d, (s.bay d).state = .ramping) ∨ s.arbiter.startUpHold = true
    (∀ g ∈ pre, g.bay ≠ b) →
      (s.arbiter.grants = pre ++ ⟨b, .powerOn, some (p.inrush, p.heat), false⟩ :: post →
        s.arbiter.grantRecord = some ⟨b, .powerOn, head, false⟩ → (s.bay b).state = .queued →
        (s.bay b).profileIndex = some i →
        ∃ t, exec (.grantTaken b) s = .next t ∧
          t.bay b = { (s.bay b).closedIn .ramping none with snapshot := some p } ∧
          t.chan b = (if c.switch = .opened ∧ c.seated = true then
            { c with switch := .ramping, tripLevel := some p.trip, rampTimer := some 20, rampEndWithheld := false }
            else c) ∧
          answered t ∧ waits t) ∧
      (s.arbiter.grants = pre ++ ⟨b, .wake, priced, false⟩ :: post →
        s.arbiter.grantRecord = some ⟨b, .wake, head, false⟩ → (s.bay b).state = .wakeQueued →
        ∃ t, exec (.grantTaken b) s = .next t ∧ t.bay b = (s.bay b).closedIn .granted (some window) ∧ t.chan b = c ∧
          Raises [bayEvent .grant b none (some window)] s t ∧ answered t ∧ (blocked → waits t) ∧
          (¬ blocked → ∃ v, LastPass v t ∧ v.bays = t.bays))

/-- A grant is declined, and nothing else done, when the bay's state does not match its kind, when the current profile does
not hold the priced values, when a removal request has taken out its entry (R89), or when it was sent before a warm restart
(R24, R51, R99). A decline clears the grant record and triggers a pass (R88), but for one of a grant sent before a warm
restart, which is ignored (R99); the stagger timer's expiry stops it and triggers a pass (R90). The pass is that of R81 to
R86; that the end of one blocking condition sets the pending mark while another holds is the model's choice
(notes/assumptions/8.md). -/
def Obligations.DeclinesAndStaggerTriggerPasses : Prop :=
  ∀ (b : Bay) (g : Grant) (stale : Bool) (pre post : List Grant) (dpre dpost : List Decline) (s : State),
    let p := s.cfg.profile ((s.bay b).profileIndex.getD 0)
    (s.arbiter.grants = pre ++ g :: post → (∀ x ∈ pre, x.bay ≠ b) → g.bay = b →
      (g.stale = true ∨ (∃ awaited, s.arbiter.grantRecord = some awaited ∧ awaited.removed = true) ∨
        (g.kind = .powerOn ∧ ((s.bay b).state ≠ .queued ∨ g.priced ≠ some (p.inrush, p.heat))) ∨
        (g.kind = .wake ∧ (s.bay b).state ≠ .wakeQueued)) →
      exec (.grantTaken b) s = .next (s.putArbiter { s.arbiter with
        grants := pre ++ post, declines := s.arbiter.declines ++ [⟨b, g.stale⟩] })) ∧
    (s.arbiter.declines = dpre ++ ⟨b, stale⟩ :: dpost → (∀ x ∈ dpre, x.bay ≠ b) →
      (stale = true →
        exec (.grantDecline b) s = .next (s.putArbiter { s.arbiter with declines := dpre ++ dpost })) ∧
      (stale = false → ∃ t, exec (.grantDecline b) s = .next t ∧
        PassTaken (s.putArbiter { s.arbiter with declines := dpre ++ dpost, grantRecord := none }) t)) ∧
    (s.arbiter.stagger.isSome = true → ∃ t, exec .staggerExpiry s = .next t ∧
      PassTaken (s.putArbiter { s.arbiter with stagger := none }) t)

/-- The price of an entry (R78 to R80, R61): the inrush of the current profile for POWER_ON, the snapshot's inrush less its
standby for WAKE, and the rise of the zone's two fans from their present price to that at the zone's target with the bay's
heat added, a fan that does not rise counting 0. A fan's price follows the cube of the duty while it is RUNNING or CHECKING,
is full_mA while it is FAILED, and 0 while it is ABSENT (R60). The hypothetical target is R136's: the heat added to the
zone's adder, the inputs as they stand (notes/assumptions/10.md). -/
def Obligations.EntryPriceIsBayTermPlusFanTerm : Prop :=
  ∀ (e : QueueEntry) (s : State),
    let zone := s.zoneOf e.bay
    let current := s.cfg.profile ((s.bay e.bay).profileIndex.getD 0)
    let price := fun (v : FanView) (duty : Nat) => match v.state with
      | .running | .checking => v.idle + (v.full - v.idle) * (duty * duty * duty) / 1000000
      | .failed => v.full
      | .absent => 0
    let common := s.cfg.common
    let failed := ∃ f, zoneOfFan f = zone ∧ (s.fan f).state = .failed
    let sensorFailed := ∃ k : Sensor, k.val = zone.number.val ∧ (s.cooling.sensors.get k).state = .failed
    let base := fun heat : Nat =>
      max (min 100 (max (s.airTerm zone) (s.driveTerm zone) + (s.heatAdder zone + heat))) common.floorDuty
    let target := fun heat : Nat => if sensorFailed then 100
      else if failed then max (base heat) common.failoverDuty else base heat
    let rise := fun (heat : Nat) (f : Fan) =>
      let v := s.budget.fanViews.get f
      price v (target heat) - price v v.duty
    (e.kind = .powerOn → ∃ f g : Fan, f.val = 2 * zone.number.val ∧ g.val = 2 * zone.number.val + 1 ∧
      s.price e = current.inrush + (rise current.heat f + rise current.heat g)) ∧
    (e.kind = .wake → ∀ p, (s.bay e.bay).snapshot = some p →
      ∃ f g : Fan, f.val = 2 * zone.number.val ∧ g.val = 2 * zone.number.val + 1 ∧
        s.price e = p.inrush - p.standby + (rise p.heat f + rise p.heat g))

/-- A revocation taken in GRANTED returns the bay to STANDBY and raises GRANT_REVOKED with the headroom it carries; in any
other state it is dropped (R29), and so is one sent before a warm restart (R73). One whose bay has left GRANTED and is
GRANTED again is taken (the model's choice, notes/assumptions/37.md). Its own events come before the other blocks' (the
model's choice, notes/assumptions/6.md). -/
def Obligations.RevocationsEndGrants : Prop :=
  ∀ (b : Bay) (h : Int) (stale : Bool) (pre post : List Revocation) (s : State),
    let u := s.putBudget { s.budget with revocations := pre ++ post }
    s.budget.revocations = pre ++ ⟨b, h, stale⟩ :: post → (∀ x ∈ pre, x.bay ≠ b) →
      ((s.bay b).state ≠ .granted ∨ stale = true → exec (.revocationRequest b) s = .next u) ∧
      ((s.bay b).state = .granted → stale = false → ∃ t, exec (.revocationRequest b) s = .next t ∧
        t.bay b = (s.bay b).closedIn .standby none ∧ t.chan b = s.chan b ∧
        Moves b [bayEvent .grantRevoked b none (some h)] s.arbiter.queue u t)

/-! ## Power budget unit (Chapter 4) -/

/-- SUPPLY_LINE_ACCEPTED (R53, R54): the lines named whose filters run take the level they have held; a change raises one
PSU_CHANGE with the slot's condition and the new effective supply, ahead of the budget's own events, and causes one
recomputation (R65). -/
def Obligations.SupplyChangesRecompute : Prop :=
  ∀ (k : Slot) (lines : PsuLines) (s : State),
    let l := s.budget.slots.get k
    let ended := fun x : FilteredLine => (⟨x.raw, if x.filter.isSome = true then x.raw else x.accepted, none⟩ : FilteredLine)
    let l' : SlotLines := ⟨if lines = .good then l.present else ended l.present,
      if lines = .present then l.good else ended l.good⟩
    let u := s.putBudget { s.budget with slots := Table.put s.budget.slots k l' }
    let condition : Byte := if l'.present.accepted = false then 0 else if l'.good.accepted = false then 1 else 2
    (l'.present.accepted = l.present.accepted → l'.good.accepted = l.good.accepted →
      exec (.supplyLineAccepted k lines) s = .next u) ∧
    (l'.present.accepted ≠ l.present.accepted ∨ l'.good.accepted ≠ l.good.accepted →
      ∃ t, exec (.supplyLineAccepted k lines) s = .next t ∧
        Recomputed [⟨.psuChange, .slot k, some condition, some t.budget.figures.effective⟩] u t)

/-- The figures in force are those of the supply rules: the raw supply is the sum of the contributing capacities, less the
largest once under REDUNDANT with two or more, and the effective supply its derated floor; with the parameters in range the
raw supply is at most 800,000 and the effective supply at most the raw. -/
def Obligations.SupplyFiguresFollowThePolicy : Prop :=
  ∀ (s : State),
    let contributes := fun k : Slot =>
      (s.budget.slots.get k).present.accepted = true ∧ (s.budget.slots.get k).good.accepted = true
    let capacity := fun k : Slot => if contributes k then s.cfg.supply.capacities.get k else 0
    let sum := capacity 0 + capacity 1 + capacity 2 + capacity 3
    let largest := max (max (capacity 0) (capacity 1)) (max (capacity 2) (capacity 3))
    let several := ∃ j k, j ≠ k ∧ contributes j ∧ contributes k
    BudgetAgrees s →
      (s.cfg.supply.policy = .shared → s.budget.figures.raw = sum) ∧
      (s.cfg.supply.policy = .redundant → several → s.budget.figures.raw = sum - largest) ∧
      (s.cfg.supply.policy = .redundant → ¬ several → s.budget.figures.raw = sum) ∧
      s.budget.figures.effective = s.budget.figures.raw * s.cfg.supply.derate / 100 ∧
      (s.cfg.supply.legal → s.budget.figures.raw ≤ 800000 ∧ s.budget.figures.effective ≤ s.budget.figures.raw)

/-- One recomputation moves the budget state with the headroom it finds, with one event per change of state, and raises no
other event. -/
def Obligations.BudgetStateFollowsTheHeadroom : Prop :=
  ∀ (s : State),
    let t := s.recompute
    let h := s.formFigures.headroom
    t.budget.figures.headroom = h ∧
      (h < 0 → s.budget.overcommitted = false →
        t.budget.overcommitted = true ∧ t.events = (s.raise ⟨.budgetOvercommit, .none, none, some h⟩).events) ∧
      (0 ≤ h → s.budget.overcommitted = true →
        t.budget.overcommitted = false ∧ t.events = (s.raise ⟨.budgetRestored, .none, none, some h⟩).events) ∧
      (h < 0 → s.budget.overcommitted = true → t.budget.overcommitted = true ∧ t.events = s.events) ∧
      (0 ≤ h → s.budget.overcommitted = false → t.budget.overcommitted = false ∧ t.events = s.events)

/-! ## Enclosure cooling (Chapter 7) -/

/-- TACH_PULSE counts in the running window. TACH_WINDOW_END (R121 to R123) forms the rpm, judges it and begins the next
window: CHECKING only keeps the judgment; a RUNNING fan counts LOW samples, a GOOD one ending the row, and fails at the third
with FAN_FAILED; a FAILED fan counts GOOD samples, a LOW one ending the row, and recovers at the third with FAN_RECOVERED. A
move is told to the budget unit, whose view of the fan and figures follow, and the zone's target is formed anew (R59, R120,
R135). -/
def Obligations.TachometersJudgeTheFans : Prop :=
  ∀ (f : Fan) (w : TachWindow) (s : State),
    let r := s.fan f
    let x := s.cfg.fans.get f
    let rpm := w.pulses * 60000 / (x.ppr * w.length)
    let low := rpm < x.minRpm ∧ 20 ≤ r.duty
    let good := x.minRpm ≤ rpm
    let r' : FanRecord := { r with
      rpm := rpm
      judgment := some (if good then .good else if low then .low else .neutral)
      window := some ⟨s.cfg.common.windowMs, s.cfg.common.windowMs, 0⟩ }
    let moved := fun (m : FanRecord) (e : Event) (t : State) =>
      Reviews (fun z => z = zoneOfFan f) (s.putFan f m) t ∧ Raises [e] s t ∧
        (∀ z, (t.zone z).thermal = (s.zone z).thermal) ∧
        t.budget.fanViews.get f = ⟨(t.fan f).state, (t.fan f).duty, x.idle, x.full⟩ ∧ t.budget.figures = t.formFigures
    exec (.tachPulse f) s = .next (s.putFan f { r with
      window := r.window.map (fun v => { v with pulses := v.pulses + 1 }) }) ∧
    (r.window = some w →
      (r.state = .checking → exec (.tachWindowEnd f) s = .next (s.putFan f r')) ∧
      (r.state = .running →
        (good → exec (.tachWindowEnd f) s = .next (s.putFan f { r' with low := 0 })) ∧
        (¬ good → ¬ low → exec (.tachWindowEnd f) s = .next (s.putFan f r')) ∧
        (low → r.low < 2 → exec (.tachWindowEnd f) s = .next (s.putFan f { r' with low := r.low + 1 })) ∧
        (low → 2 ≤ r.low → ∃ t, exec (.tachWindowEnd f) s = .next t ∧
          moved { r' with state := .failed, duty := 100, low := 0, good := 0 }
            ⟨.fanFailed, .fan f, some 0, some rpm⟩ t)) ∧
      (r.state = .failed →
        (low → exec (.tachWindowEnd f) s = .next (s.putFan f { r' with good := 0 })) ∧
        (¬ good → ¬ low → exec (.tachWindowEnd f) s = .next (s.putFan f r')) ∧
        (good → r.good < 2 → exec (.tachWindowEnd f) s = .next (s.putFan f { r' with good := r.good + 1 })) ∧
        (good → 2 ≤ r.good → ∃ t, exec (.tachWindowEnd f) s = .next t ∧
          moved { r' with state := .running, duty := (s.zone (zoneOfFan f)).duty, low := 0, good := 0 }
            ⟨.fanRecovered, .fan f, none, some rpm⟩ t)))

/-- SENSOR_READ_START begins a read of each sensor (R125). SENSOR_READ_COMPLETE (R126): a good read, clamped to -40..125, is
held and the sensor OK; a failure keeps the held value and counts, HOLDING until the third, which is FAILED with
SENSOR_FAILED; a change of state or held value reviews the zones that read the sensor. DRIVE_TEMP_AGE_EXPIRY (R129): a FRESH
report becomes STALE, TEMP_STALE is raised with its temperature, and the bay's zone is reviewed; a report that has just been
set, with its whole 60,000 ms to run, is left as it is. -/
def Obligations.SensorReadsAndStaleReports : Prop :=
  ∀ (k : Sensor) (result : Option Int) (b : Bay) (temp : Int) (left : Nat) (s : State),
    let r := s.cooling.sensors.get k
    let r' : SensorRecord := match result with
      | some v => ⟨.ok, some (max (-40) (min 125 v)), 0, false⟩
      | none => ⟨if r.failures < 2 then .holding else .failed, r.held, min 3 (r.failures + 1), false⟩
    let u := s.putCooling { s.cooling with sensors := Table.put s.cooling.sensors k r' }
    let events : List Event :=
      if r'.state = .failed ∧ r.state ≠ .failed then [⟨.sensorFailed, .sensor k, none, r.held⟩] else []
    (∃ t, exec .sensorReadStart s = .next t ∧
      (∀ j, t.cooling.sensors.get j = { s.cooling.sensors.get j with reading := true }) ∧
      t = s.putCooling { s.cooling with sensorRead := 1000, sensors := t.cooling.sensors }) ∧
    (r.reading = true →
      (r'.state = r.state → r'.held = r.held → exec (.sensorReadComplete k result) s = .next u) ∧
      (r'.state ≠ r.state ∨ r'.held ≠ r.held → ∃ t, exec (.sensorReadComplete k result) s = .next t ∧
        ReviewsThermal (fun z => k = 3 ∨ k.val = z.number.val) u t ∧ Raises events s t)) ∧
    (s.cooling.reports.get b = some ⟨temp, some 60000⟩ → exec (.driveTempAgeExpiry b) s = .next s) ∧
    (s.cooling.reports.get b = some ⟨temp, some left⟩ → left ≠ 60000 → ∃ t, exec (.driveTempAgeExpiry b) s = .next t ∧
      ReviewsThermal (fun z => z = s.zoneOf b)
        (s.putCooling { s.cooling with reports := Table.put s.cooling.reports b (some ⟨temp, none⟩) }) t ∧
      Raises [bayEvent .tempStale b none (some temp)] s t)

/-- EVALUATION (R137, R138): each zone's duty rises to its target at once, falls toward it by at most 5, or is held while the
fan check runs; the RUNNING fans follow their zone, and the next evaluation is 1,000 ms away. -/
def Obligations.EvaluationsSlewTheDuties : Prop :=
  ∀ (s : State),
    let duty := fun z : Zone =>
      if s.cooling.fanCheck.isSome = true then (s.zone z).duty
      else if (s.zone z).duty ≤ s.zoneTarget z then s.zoneTarget z
      else if (s.zone z).duty < s.zoneTarget z + 5 then s.zoneTarget z
      else (s.zone z).duty - 5
    CoolingAgrees s → ∃ t, exec .evaluation s = .next t ∧
      Settles (s.putCooling { s.cooling with evaluation := 1000 }) t ∧
      (∀ z, t.zone z = { s.zone z with duty := duty z }) ∧
      (∀ f, (s.fan f).state = .running → (t.fan f).duty = duty (zoneOfFan f))

/-- The target of a zone (R133 to R136): the larger of the air term and the drive term with the heat adder and any heat
added, at most 100, at least the floor, at least the failover duty while a fan of the zone is FAILED, and 100 while its own
sensor is. The air input is the hotter held value of the zone's own sensor and the inlet sensor, of those not FAILED that hold
one (R127). The air term is 100 without an air input, the drive term the stale duty without a FRESH report where a bay of the
zone has a closed switch. The thermal state (R139): CRITICAL where a source reaches its critical threshold; WARNING from
NORMAL where one reaches its warning threshold; down only where every source is at least 3 under the threshold, and unchanged
without a source. -/
def Obligations.ZoneTargetAndThermalStateFollowTheirRules : Prop :=
  ∀ (z : Zone) (now : Thermal) (added : Nat) (s : State),
    let common := s.cfg.common
    let held := fun k : Sensor =>
      if (s.cooling.sensors.get k).state = .failed then none else (s.cooling.sensors.get k).held
    let reports := fun (x : Int) (b : Bay) => s.zoneOf b = z ∧ ∃ left, s.cooling.reports.get b = some ⟨x, some left⟩
    let air := match s.airInput z with
      | some temp => (s.cfg.airCurves.get z.number).value temp
      | none => 100
    let powered := ∃ b, s.zoneOf b = z ∧ (s.bay b).state.closedSwitch = true
    let drive := match s.highestFresh z with
      | some temp => common.driveCurve.value temp
      | none => if powered then common.staleDuty else 0
    let heat := (allBays.map (fun b => if s.zoneOf b = z ∧ (s.bay b).state.drawsInrush = true
      then (s.bay b).snap.heat else 0)).sum
    let floored := max (min 100 (max air drive + (heat + added))) common.floorDuty
    let failed := ∃ f, zoneOfFan f = z ∧ (s.fan f).state = .failed
    let reaches := fun (air drive : Int) =>
      (∃ x, s.airInput z = some x ∧ air ≤ x) ∨ ∃ x, s.highestFresh z = some x ∧ drive ≤ x
    let clear := fun (air drive : Int) =>
      (∀ x, s.airInput z = some x → x ≤ air - 3) ∧ ∀ x, s.highestFresh z = some x → x ≤ drive - 3
    s.airTerm z = air ∧ s.driveTerm z = drive ∧ s.heatAdder z = heat ∧ s.zoneTarget z = s.targetWith z 0 ∧
    (∀ x, s.highestFresh z = some x ↔ (∃ b, reports x b) ∧ ∀ y b, reports y b → y ≤ x) ∧
    (∀ k : Sensor, k.val = z.number.val →
      (s.airInput z = match held k, held 3 with
        | some x, some y => some (max x y)
        | some x, none => some x
        | none, some y => some y
        | none, none => none) ∧
      ((s.cooling.sensors.get k).state = .failed → s.targetWith z added = 100) ∧
      ((s.cooling.sensors.get k).state ≠ .failed →
        s.targetWith z added = if failed then max floored common.failoverDuty else floored)) ∧
    judgeThermal (s.thermalSources z) now =
      if s.airInput z = none ∧ s.highestFresh z = none then now
      else if reaches common.airCritical common.driveCritical ∨
        (now = .critical ∧ ¬ clear common.airCritical common.driveCritical) then .critical
      else if reaches common.airWarning common.driveWarning ∨
        (now ≠ .normal ∧ ¬ clear common.airWarning common.driveWarning) then .warning
      else .normal

/-- FAN_CHECK_END (R142, R96): each CHECKING fan last judged LOW fails with FAN_FAILED, in fan order, every other one runs at
the zone duty; the hold on the duties and the start-up hold end, the targets are formed anew, and the end of the start-up hold
is a trigger (R81). -/
def Obligations.FanCheckEndJudgesTheFans : Prop :=
  ∀ (s : State),
    let fails := fun f : Fan => (s.fan f).state = .checking ∧ (s.fan f).judgment = some .low
    let judged := fun f : Fan => { s.fan f with
      state := if fails f then .failed else if (s.fan f).state = .checking then .running else (s.fan f).state
      duty := if fails f then 100
        else if (s.fan f).state = .checking then (s.zone (zoneOfFan f)).duty else (s.fan f).duty
      low := if (s.fan f).state = .checking then 0 else (s.fan f).low
      good := if (s.fan f).state = .checking then 0 else (s.fan f).good }
    s.cooling.fanCheck.isSome = true → ∃ t u, exec .fanCheckEnd s = .next t ∧ (∀ f, u.fan f = judged f) ∧
      u = { s with
        cooling := { s.cooling with fans := u.cooling.fans, fanCheck := none }
        arbiter := { s.arbiter with startUpHold := false } } ∧
      Reviews (fun _ => True) u t ∧ (∀ z, (t.zone z).thermal = (s.zone z).thermal) ∧
      (∃ v, v.arbiter.startUpHold = false ∧ v.arbiter.queue = s.arbiter.queue ∧ PassTaken v t) ∧
      Raises ((allFans.filter (fun f => decide (fails f))).map
        (fun f => ⟨.fanFailed, .fan f, some 1, some (s.fan f).rpm⟩)) s t

/-- The value of a curve at a temperature. -/
def Obligations.CurveValueInterpolatesUpward : Prop :=
  ∀ (c : Curve) (temp : Int),
    let between := fun (p q : CurvePoint) => p.temp ≤ temp → temp < q.temp →
      p.duty ≤ c.value temp ∧ c.value temp ≤ q.duty ∧
      (temp - p.temp) * ((q.duty : Int) - p.duty) ≤ ((c.value temp : Int) - p.duty) * (q.temp - p.temp) ∧
      ((c.value temp : Int) - p.duty - 1) * (q.temp - p.temp) < (temp - p.temp) * ((q.duty : Int) - p.duty)
    c.legal →
      (temp ≤ c.p1.temp → c.value temp = c.p1.duty) ∧ (c.p4.temp ≤ temp → c.value temp = c.p4.duty) ∧
      between c.p1 c.p2 ∧ between c.p2 c.p3 ∧ between c.p3 c.p4 ∧
      c.p1.duty ≤ c.value temp ∧ c.value temp ≤ c.p4.duty

/-! ## Lights (Chapter 8) -/

/-- STEP_BOUNDARY (R155, R157 to R159): the phase advances, 7 back to 0, and drives every light: ATTN by the shown pattern,
which the eligible condition of the highest level gives, the lower number winning a tie (R153); ACT by the bay's state; ELF by
the six causes; ELL by the locate setting with FAST. -/
def Obligations.StepBoundariesDriveTheLights : Prop :=
  ∀ (s : State),
    let shows := fun (b : Bay) (i : Fin 8) => (∃ c, ResolvesTo s b c ∧ i = s.cfg.assign.get c) ∨
      ((∀ c, ¬ Eligible s b c) ∧ i = 0)
    let phase : Fin 8 := s.lights.phase + 1
    ∃ t, exec .stepBoundary s = .next t ∧
      (∀ b i, shows b i → (t.bayLights b).latn = (s.cfg.pattern i).getLsbD phase.val) ∧
      (∀ b, (t.bayLights b).lact =
        if (s.bay b).state = .active then (s.chan b).activity
        else if (s.bay b).state = .ramping ∨ (s.bay b).state = .spinning ∨ (s.bay b).state = .granted then
          decide (phase.val < 4)
        else false) ∧
      (∀ b, (t.bayLights b).conditions = (s.bayLights b).conditions) ∧ (t.lights.elf = true ↔ ∃ i, FaultCause s i) ∧
      t = s.putLights { s.lights with
        bays := t.lights.bays
        phase := phase
        boundary := 125
        elf := t.lights.elf
        ell := s.lights.locate && decide (phase.val % 2 = 0) }

/-! ## Management link (Chapter 9) -/

/-- FRAMING_ERROR and GAP_TIMEOUT abandon a frame in progress silently, and change nothing without one (R166). FRAME_DISCARD:
a completed frame whose check differs, or with another unit's address, is dropped silently, and while a reply is being sent
nothing is framed (R167, R171). -/
def Obligations.FramesAreAbandonedSilently : Prop :=
  ∀ (f : Frame) (taken : List Byte) (gap : Nat) (s : State),
    let hunting := s.putLink { s.link with receiver := .hunting }
    let covered := [f.address, f.kind, f.tag, BitVec.ofNat 8 f.payload.length] ++ f.payload
    (s.link.receiver = .receiving taken gap →
      exec .framingError s = .next hunting ∧ exec .gapTimeout s = .next hunting) ∧
    (s.link.receiver = .hunting ∨ s.link.receiver = .suspended →
      exec .framingError s = .next s ∧ exec .gapTimeout s = .next s) ∧
    (s.link.receiver = .suspended → exec (.frameDiscard f) s = .next s) ∧
    (s.link.receiver ≠ .suspended →
      checkBytes covered ≠ [f.checkLow, f.checkHigh] ∨ (f.address ≠ 0 ∧ f.address ≠ s.link.unitAddress) →
      exec (.frameDiscard f) s = .next hunting)

/-- A frame received byte by byte is the frame that completes (R165): from HUNTING, the Start byte and the bytes of a frame
of at most 240 payload bytes leave what FRAME_DISCARD leaves of that frame whole, and a Length above 240 abandons it. A
character whose start bit began while SUSPENDED is not framed (R162), nor is one that ends while SUSPENDED (R171; both
notes/assumptions/40.md). A character is ten levels, and the byte read from them, least significant bit first, is the byte
sent; one with its stop bit at the start-bit level gives none (R162). -/
def Obligations.CharactersAssembleTheFrame : Prop :=
  ∀ (f : Frame) (s : State),
    let receive := fun (bytes : List Byte) =>
      bytes.foldl (fun (o : Host.Outcome State Fault Refusal) byte =>
        match o with
        | .next t => exec (.characterReceived ⟨byte, false⟩) t
        | other => other) (.next s)
    let character := fun (byte : Byte) (stop : Bool) => [false, byte.getLsbD 0, byte.getLsbD 1, byte.getLsbD 2,
      byte.getLsbD 3, byte.getLsbD 4, byte.getLsbD 5, byte.getLsbD 6, byte.getLsbD 7, stop]
    (∀ byte : Byte, exec (.characterReceived ⟨byte, true⟩) s = .next s ∧
      (s.link.receiver = .suspended → exec (.characterReceived ⟨byte, false⟩) s = .next s) ∧
      characterBits byte = character byte true ∧ characterByte (character byte true) = some byte ∧
      characterByte (character byte false) = none) ∧
    (s.link.receiver = .hunting →
      (f.payload.length ≤ 240 →
        receive ([0xa5, f.address, f.kind, f.tag, BitVec.ofNat 8 f.payload.length] ++ f.payload ++
          [f.checkLow, f.checkHigh]) = exec (.frameDiscard f) s) ∧
      (∀ length : Byte, 240 < length.toNat → receive [0xa5, f.address, f.kind, f.tag, length] = .next s) ∧
      (∀ byte : Byte, byte ≠ 0xa5 → receive [byte] = .next s))

/-- Each request of Table 9-8 is the frame of its kind code with a good check (the model's choice of operands,
notes/assumptions/20.md): it does what a request of that kind code does, and that is what its completed frame does. -/
def Obligations.RequestsAreFramesOfTheirKind : Prop :=
  ∀ (r : Request) (kind : Byte) (s : State),
    let sum := ([r.address, kind, r.tag, BitVec.ofNat 8 r.payload.length] ++ r.payload).foldl
      (fun n b => n + b.toNat) 0
    let same := fun (i : Instr) (code : Byte) => exec i s = exec (.badKind code r) s
    exec (.badKind kind r) s = exec (.frameDiscard ⟨r.address, kind, r.tag, r.payload, BitVec.ofNat 8 sum,
      BitVec.ofNat 8 (sum / 256)⟩) s ∧
    same (.unitInfo r) 0x01 ∧ same (.bayStatus r) 0x02 ∧ same (.baySummary r) 0x03 ∧ same (.setBayPolicy r) 0x04 ∧
    same (.powerOn r) 0x10 ∧ same (.powerOff r) 0x11 ∧ same (.prepareRemoval r) 0x12 ∧ same (.spinRequest r) 0x13 ∧
    same (.spinDownNote r) 0x14 ∧ same (.setCondition r) 0x20 ∧ same (.clearLatch r) 0x21 ∧
    same (.setLightMask r) 0x22 ∧ same (.setPattern r) 0x23 ∧ same (.setConditionPattern r) 0x24 ∧
    same (.setLocate r) 0x25 ∧ same (.driveTemps r) 0x30 ∧ same (.setZone r) 0x31 ∧ same (.setZoneCommon r) 0x31 ∧
    same (.setFan r) 0x32 ∧ same (.coolingStatus r) 0x33 ∧ same (.setSupply r) 0x40 ∧ same (.budgetStatus r) 0x41 ∧
    same (.setAdmission r) 0x42 ∧ same (.queueStatus r) 0x43 ∧ same (.setProfile r) 0x50 ∧ same (.getProfile r) 0x51 ∧
    same (.setProfileRule r) 0x52 ∧ same (.quarantineList r) 0x53 ∧ same (.clearQuarantine r) 0x54 ∧
    same (.readEvents r) 0x60 ∧ same (.saveSettings r) 0x61 ∧ same (.restart r) 0x62 ∧ same (.setLink r) 0x63

/-- A request that is screened out is answered BAD_KIND for a kind code outside Table 9-8, or BAD_LENGTH for a length its
kind does not permit, and carries nothing out (R168, R180): a fixed length that differs, a bay list or a count of pairs that
its bytes do not fill (R181, R185), a form of SET_ZONE that has not its own length. It withdraws a pending reply, whose action
is carried out first (R172, R173). Received by broadcast it does nothing (notes/assumptions/15.md); with another unit's
address it is not taken. -/
def Obligations.ScreenedOutRequestsDoNothing : Prop :=
  ∀ (kind : Byte) (r : Request) (status : Status) (s : State),
    let kinds : List Byte := [0x01, 0x02, 0x03, 0x04, 0x10, 0x11, 0x12, 0x13, 0x14, 0x20, 0x21, 0x22, 0x23, 0x24, 0x25,
      0x30, 0x31, 0x32, 0x33, 0x40, 0x41, 0x42, 0x43, 0x50, 0x51, 0x52, 0x53, 0x54, 0x60, 0x61, 0x62, 0x63]
    let fixed : List (Byte × Nat) := [(0x01, 0), (0x02, 1), (0x03, 0), (0x21, 1), (0x22, 1), (0x23, 2), (0x24, 2),
      (0x25, 1), (0x32, 9), (0x33, 0), (0x40, 20), (0x41, 0), (0x42, 7), (0x43, 0), (0x50, 14), (0x51, 1), (0x52, 6),
      (0x53, 0), (0x60, 1), (0x61, 0), (0x62, 0), (0x63, 2)]
    let listKinds : List Byte := [0x10, 0x11, 0x12, 0x13, 0x14, 0x54]
    let misfits := fun p : List Byte => p.length < 2 ∨
      (∃ n items, p = 0 :: n :: items ∧ items.length ≠ n.toNat) ∨ ∃ rest, p = 1 :: rest ∧ rest.length ≠ 2
    let counted := (kind ∈ listKinds ∧ misfits r.payload) ∨
      (kind = 0x04 ∧ (r.payload.length < 3 ∨ misfits (r.payload.drop 3))) ∨
      (kind = 0x20 ∧ (r.payload.length < 2 ∨ misfits (r.payload.drop 2))) ∨
      (kind = 0x30 ∧ (r.payload = [] ∨ ∃ n items, r.payload = n :: items ∧ items.length ≠ 2 * n.toNat)) ∨
      (kind = 0x31 ∧ (r.payload = [] ∨ (∃ rest, r.payload = 3 :: rest ∧ rest.length ≠ 17) ∨
        ∃ zone rest, r.payload = zone :: rest ∧ zone ≠ 3 ∧ rest.length ≠ 8))
    let screened := (kind ∉ kinds ∧ status = .badKind) ∨
      (∃ n, (kind, n) ∈ fixed ∧ r.payload.length ≠ n ∧ status = .badLength) ∨ (counted ∧ status = .badLength)
    let own := r.address = s.link.unitAddress ∧ r.address ≠ 0
    s.link.receiver ≠ .suspended → r.payload.length ≤ 240 →
      (Reaches r s → screened → exec (.badKind kind r) s = .next (s.listening.replying kind r.tag status [])) ∧
      (∀ p, s.link.reply = .pending p → own → screened → ∃ u,
        exec .replySent (s.putLink { s.link with receiver := .suspended, reply := .sending p.frame p.action }) = .next u ∧
        exec (.badKind kind r) s = .next (u.replying kind r.tag status [])) ∧
      ((r.address = 0 ∧ screened) ∨ (r.address ≠ 0 ∧ r.address ≠ s.link.unitAddress) →
        exec (.badKind kind r) s = .next (s.putLink { s.link with receiver := .hunting }))

/-- REPLY_BEGIN, from the earliest moment of the window on, sends a pending reply while the receiver is HUNTING, which
suspends it (R170, R171); ahead of that moment it does nothing. REPLY_SENT ends the transmission and carries out LINK_CHANGE
(R173). REPLY_LAPSE, at the latest moment and no earlier, withdraws the reply while RECEIVING (R170): with an action it
does what the end of the transmission would have done (R173), without one it leaves the frame in progress
(notes/assumptions/31.md). -/
def Obligations.RepliesBeginEndAndLapse : Prop :=
  ∀ (p : PendingReply) (frame taken : List Byte) (gap : Nat) (speed : Speed) (turnaround : Nat) (s : State),
    let link := fun (receiver : Receiver) (reply : ReplyState) =>
      s.putLink { s.link with receiver := receiver, reply := reply }
    (s.link.reply = .pending p →
      (s.link.receiver = .hunting →
        (p.earliest = 0 → exec .replyBegin s = .next (link .suspended (.sending p.frame p.action))) ∧
        (p.earliest ≠ 0 → exec .replyBegin s = .next s) ∧ exec .replyLapse s = .next s) ∧
      (s.link.receiver = .receiving taken gap → exec .replyBegin s = .next s ∧
        (p.latest ≠ 0 → exec .replyLapse s = .next s) ∧
        (p.latest = 0 → p.action = .nothing → exec .replyLapse s = .next (link (.receiving taken gap) .none)) ∧
        (p.latest = 0 → p.action ≠ .nothing →
          exec .replyLapse s = exec .replySent (link .suspended (.sending p.frame p.action))))) ∧
    (s.link.reply = .sending frame .nothing → exec .replySent s = .next (link .hunting .none)) ∧
    (s.link.reply = .sending frame (.linkChange speed turnaround) → exec .replySent s =
      .next ((link .hunting .none).putCfg { s.cfg with speed := speed, turnaround := turnaround }))

/-- A request taken while a reply is pending withdraws it and carries out its action first, then is itself carried out on the
state that leaves, and so does a request taken by broadcast (R172, R173). A request taken by broadcast does to all but the
link what it does addressed, and is not answered (R175). -/
def Obligations.RequestsReplaceAndBroadcastsWithdraw : Prop :=
  ∀ (k : RequestKind) (r : Request) (p : PendingReply) (s : State),
    let code := k.byte
    let broadcast := { r with address := 0 }
    r.payload.length ≤ 240 → k.lengthOk r.payload = true → r.address = s.link.unitAddress → r.address ≠ 0 →
      (s.link.reply = .pending p → s.link.receiver ≠ .suspended → ∃ u,
        exec .replySent (s.putLink { s.link with receiver := .suspended, reply := .sending p.frame p.action }) = .next u ∧
        u.link.reply = .none ∧ exec (.badKind code r) s = exec (.badKind code r) u ∧
        exec (.badKind code broadcast) s = exec (.badKind code broadcast) u) ∧
      (s.link.reply = .none → s.link.receiver = .hunting → k ≠ .restart → k ≠ .setLink → ∃ t,
        exec (.badKind code r) s = .next t ∧ ∃ u, exec (.badKind code broadcast) s = .next u ∧
        u = t.putLink { t.link with reply := .none } ∧ u.link = s.link)

/-! ## Requests and replies (Chapter 10) -/

/-- The reading requests are answered OK, change nothing but the reply, and answer the whole of Tables 10-4, 10-7 and 10-9
and of the lists of R186, field by field, with the codes of Table 10-1. A last-pass record that is not there is sent as its
present byte 0 and FFh (the model's choice, notes/assumptions/16.md); an rpm above 65,535 as a free value
(notes/assumptions/17.md). -/
def Obligations.ReadsAnswerWithoutChange : Prop :=
  ∀ (r : Request) (s : State),
    let reads := fun (i : Instr) (code : Byte) (body : List Byte) =>
      exec i s = .next (s.listening.replying code r.tag .ok body)
    let flag := fun b : Bool => oneByte b.toNat
    let bayNumber := fun b : Bay => b.val
    let x := s.budget
    let a := s.arbiter
    let common := s.cfg.common
    let price := fun v : FanView => match v.state with
      | .running | .checking => v.idle + (v.full - v.idle) * (v.duty * v.duty * v.duty) / 1000000
      | .failed => v.full
      | .absent => 0
    let condition := fun l : SlotLines => if l.present.accepted = false then 0 else if l.good.accepted = false then 1 else 2
    let admission := oneByte s.cfg.admission.k ++ twoBytes s.cfg.admission.stagger ++
      oneByte s.cfg.admission.bypassLimit ++ oneByte s.cfg.admission.retryLimit ++ twoBytes s.cfg.admission.grantWindow
    let priced := fun o : Option (Bay × Nat) =>
      byteOrNone (o.map fun y => y.1.val) ++ twoOrNone (o.map fun y => y.2)
    let conditions := ([0, 1, 2, 3, 4, 5, 6, 7, 8] : List (Fin 9))
    [BayState.empty, .seating, .idleOff, .queued, .ramping, .spinning, .active, .standby, .wakeQueued, .granted,
      .poweringDown, .extracting, .faulted].map BayState.byte = [0, 1, 2, 3, 4, 5, 6, 7, 8, 9, 10, 11, 12] ∧
    [SpinOutcome.success, .trip, .noSpin, .noSettle, .aborted, .extracted].map SpinOutcome.byte = [0, 1, 2, 3, 4, 5] ∧
    [QuarantineReason.trip, .noSpin, .noSettle, .limitLowered].map QuarantineReason.byte = [1, 2, 3, 6] ∧
    [PassResult.grantHead, .grantBypass, .atLimit, .headWaits, .bypassSpent, .allSkipped, .queueEmpty].map
      PassResult.byte = [0, 1, 2, 3, 4, 5, 6] ∧
    [FanState.absent, .checking, .running, .failed].map FanState.byte = [0, 1, 2, 3] ∧
    [SensorState.ok, .holding, .failed].map SensorState.byte = [0, 1, 2] ∧
    [Thermal.normal, .warning, .critical].map Thermal.byte = [0, 1, 2] ∧
    [Speed.b9600, .b19200, .b57600, .b115200].map Speed.byte = [0, 1, 2, 3] ∧
    (Reaches r s →
      (r.payload = [] →
        (∃ causes, causes < 64 ∧ (∀ i : Fin 6, causes.testBit i.val = true ↔ FaultCause s i) ∧
          reads (.unitInfo r) 0x01 ([s.link.unitAddress, s.cfg.speed.byte] ++ oneByte s.cfg.turnaround ++
            fourBytes s.time.toNat ++ oneByte s.events.records.length ++ flag s.events.overflow ++
            flag s.store.writing.isSome ++ flag s.store.defaulted ++ oneByte s.lights.mask ++ flag s.lights.locate ++
            [0x00, 0xff, 0x0f, 0x55] ++ s.cfg.patterns.toList ++
            conditions.flatMap (fun c => oneByte (s.cfg.assign.get c).val) ++ flag (decide (causes ≠ 0)) ++
            oneByte causes ++ oneByte s.lights.phase.val)) ∧
        reads (.baySummary r) 0x03 (allBays.map (fun b => (s.bay b).state.byte)) ∧
        reads (.coolingStatus r) 0x33 (([.a, .b, .c] : List Zone).flatMap (fun z => tempByte (s.airInput z) ++
            tempByte (s.highestFresh z) ++ oneByte (s.airTerm z) ++ oneByte (s.driveTerm z) ++ twoBytes (s.heatAdder z) ++
            oneByte (s.zoneTarget z) ++ oneByte (s.zone z).duty ++ [(s.zone z).thermal.byte]) ++
          ([0, 1, 2, 3, 4, 5] : List Fan).flatMap (fun f =>
            let v := s.fan f
            let set := s.cfg.fans.get f
            [v.state.byte] ++ oneByte v.duty ++
              twoBytes (if v.rpm < 65536 then v.rpm else (Config.wideRpmField v.rpm).toNat) ++
              oneByte (v.low + 16 * v.good) ++ twoBytes set.minRpm ++ oneByte set.ppr ++ twoBytes set.idle ++
              twoBytes set.full) ++
          ([0, 1, 2, 3] : List Sensor).flatMap (fun k =>
            let v := s.cooling.sensors.get k
            [v.state.byte] ++ tempByte v.held ++ oneByte v.failures) ++
          allBays.flatMap (fun b =>
            let v := s.cooling.reports.get b
            tempByte (v.map fun y => y.temp) ++ twoOrNone (v.bind fun y => y.age)) ++
          ([0, 1, 2] : List (Fin 3)).flatMap (fun i => curveFields (s.cfg.airCurves.get i)) ++
          curveFields common.driveCurve ++ oneByte common.floorDuty ++ oneByte common.staleDuty ++
          oneByte common.failoverDuty ++ tempByte (some common.airWarning) ++ tempByte (some common.airCritical) ++
          tempByte (some common.driveWarning) ++ tempByte (some common.driveCritical) ++ twoBytes common.windowMs ++
          twoOrNone s.cooling.fanCheck) ∧
        reads (.budgetStatus r) 0x41 (([0, 1, 2, 3] : List Slot).flatMap (fun k =>
            let l := x.slots.get k
            fourBytes (s.cfg.supply.capacities.get k) ++
              oneByte (l.present.accepted.toNat + 2 * l.good.accepted.toNat + 16 * condition l)) ++
          flag (decide (s.cfg.supply.policy = .redundant)) ++ oneByte s.cfg.supply.derate ++ twoBytes s.cfg.supply.base ++
          fourBytes x.figures.raw ++ fourBytes x.figures.effective ++ twoBytes x.figures.fanLoad ++
          ([0, 1, 2, 3, 4, 5] : List Fan).flatMap (fun f => twoBytes (price (x.fanViews.get f))) ++
          fourBytes (allBays.map x.commitments.get).sum ++ allBays.flatMap (fun b => twoBytes (x.commitments.get b)) ++
          fourBytes x.figures.load ++ signedBytes x.figures.headroom ++ flag x.overcommitted ++
          oneByte x.grantOrder.length ++ x.grantOrder.reverse.flatMap (fun b => oneByte b.val) ++
          List.replicate (24 - x.grantOrder.length) 0xff ++ byteOrNone (x.outstanding.map bayNumber)) ∧
        reads (.queueStatus r) 0x43 (admission ++ oneByte a.queue.length ++
          a.queue.flatMap (fun e => oneByte e.bay.val ++ flag (decide (e.kind = .wake)) ++ oneByte e.cls.val ++
            fourBytes e.joinTime.toNat ++ oneByte e.bypass) ++
          List.replicate (8 * (24 - a.queue.length)) 0xff ++ oneByte a.spinCount ++ twoOrNone a.stagger ++
          flag (decide (∃ b, (s.bay b).state = .ramping)) ++ flag a.startUpHold ++
          byteOrNone (a.grantRecord.map fun g => g.bay.val) ++
          byteOrNone (a.grantRecord.map fun g => if g.kind = .wake then 1 else 0) ++ flag a.pendingMark ++
          (match a.lastPass with
            | none => [0] ++ List.replicate 15 0xff
            | some p => [1] ++ fourBytes p.time.toNat ++ [p.result.byte] ++ priced p.head ++ priced p.granted ++
                signedBytes p.headroom)) ∧
        reads (.quarantineList r) 0x53 (oneByte s.quarantine.length ++ s.quarantine.flatMap (fun e =>
          oneByte e.bay.val ++ byteOrNone (e.code.map fun c => c.val) ++ [e.reason.byte] ++ oneByte e.failCount ++
            fourBytes e.time.toNat))) ∧
      (∀ b : Bay, r.payload = [BitVec.ofNat 8 b.val] →
        let v := s.bay b
        let held := fun c : Fin 9 => if (s.bayLights b).conditions.get c = true then 2 ^ c.val else 0
        ∃ resolved : Option (Fin 9), (∀ c, resolved = some c ↔ ResolvesTo s b c) ∧
          reads (.bayStatus r) 0x02 (oneByte b.val ++ [v.state.byte] ++ byteOrNone (v.code.map fun c => c.val) ++
            byteOrNone (v.profileIndex.map fun i => i.val) ++ flag (decide ((s.baySettings b).policy = .hold)) ++
            oneByte (s.baySettings b).cls.val ++ oneByte (s.baySettings b).zone.number.val ++
            oneByte (v.removalPrepared.toNat + 2 * (s.isQuarantined b).toNat + 4 * v.snapshot.isSome.toNat +
              8 * v.settling.toNat + 16 * v.partialReported.toNat) ++
            oneByte v.failCount ++ [(v.latest.map SpinOutcome.byte).getD 0xff, (v.previous.map SpinOutcome.byte).getD 0xff] ++
            twoBytes (s.chan b).live ++ twoBytes (s.chan b).peak ++ twoOrNone v.timer ++ twoBytes (x.commitments.get b) ++
            (match v.snapshot with
              | some p => profileFields p
              | none => List.replicate 13 0) ++
            twoBytes (conditions.map held).sum ++ byteOrNone (resolved.map fun c => c.val) ++
            oneByte (match resolved with
              | some c => (s.cfg.assign.get c).val
              | none => 0) ++
            [if v.state = .active then 1
              else if v.state = .ramping ∨ v.state = .spinning ∨ v.state = .granted then 2 else 0])) ∧
      (∀ n : Byte, r.payload = [n] → 23 < n.toNat →
        exec (.bayStatus r) s = .next (s.listening.replying 0x02 r.tag .badBay [])))

/-- GET_PROFILE reads one of the eight profiles as it stands, profile 0 with the values of Table 3-1. -/
def Obligations.GetProfileReadsTheTable : Prop :=
  ∀ (n : Byte) (r : Request) (s : State),
    let two := fun v : Nat => [BitVec.ofNat 8 (v % 256), BitVec.ofNat 8 (v / 256 % 256)]
    let answers := fun p : Profile => exec (.getProfile r) s = .next (s.listening.replying 0x51 r.tag .ok
      ([n] ++ two p.inrush ++ two p.steady ++ two p.standby ++ two p.spinMs ++ two p.settle ++ two p.trip ++
        [BitVec.ofNat 8 p.heat]))
    Reaches r s → r.payload = [n] →
      (n = 0 → answers ⟨3000, 1000, 500, 20000, 1500, 6000, 10⟩) ∧
      (∀ i : Fin 7, n.toNat = i.val + 1 → answers (s.cfg.profiles.get i)) ∧
      (7 < n.toNat → exec (.getProfile r) s = .next (s.listening.replying 0x51 r.tag .badValue []))

/-- POWER_ON, POWER_OFF, PREPARE_REMOVAL, SPIN_REQUEST, SPIN_DOWN_NOTE and CLEAR_QUARANTINE are carried out bay by bay in the
order of the bay list, each bay as Tables 2-4, 2-6, 2-7 and 2-5 and R116 give for its state, and answered with the status of
each (R181). A queue entry is removed before the bay moves (notes/assumptions/26.md), and a power-off disarms the watches
of an open switch too (notes/assumptions/34.md). SET_BAY_POLICY (R34, R182) writes the bays named in order: FFh keeps a
field, a class or zone code above 2 is written as 2 and answered CLAMPED; a policy code of no policy refuses the request
ahead of its bay list (notes/assumptions/14.md). -/
def Obligations.BayRequestsActBayByBay : Prop :=
  ∀ (r : Request) (bays : List Nat) (s : State),
    let acts := fun (i : Instr) (code : Byte) (gives : Bay → State → State → Status → Prop) (first : Status) =>
      ∃ t statuses, EachBay gives bays s.listening t statuses ∧ exec i s = .next (t.replying code r.tag first
        ([BitVec.ofNat 8 bays.length] ++ statuses.map Status.byte))
    Reaches r s →
      (NamesBays r.payload bays →
        acts (.powerOn r) 0x10 PowerOnGives .ok ∧ acts (.powerOff r) 0x11 PowerOffGives .ok ∧
        acts (.prepareRemoval r) 0x12 PrepareGives .ok ∧ acts (.spinRequest r) 0x13 SpinRequestGives .ok ∧
        acts (.spinDownNote r) 0x14 SpinDownGives .ok ∧ acts (.clearQuarantine r) 0x54 ClearQuarantineGives .ok) ∧
      ∀ (policy cls zone : Byte) (list : List Byte),
        let policyTo : Option Policy := if policy = 0xff then none else if policy = 0 then some .auto else some .hold
        let clsTo : Option (Fin 3) := if cls = 0xff then none else if cls = 0 then some 0 else if cls = 1 then some 1 else some 2
        let zoneTo : Option Zone := if zone = 0xff then none else if zone = 0 then some .a else if zone = 1 then some .b else some .c
        let clamped := (2 < cls.toNat ∧ cls ≠ 0xff) ∨ (2 < zone.toNat ∧ zone ≠ 0xff)
        r.payload = [policy, cls, zone] ++ list → NamesBays list bays →
          (policy = 0 ∨ policy = 1 ∨ policy = 0xff →
            acts (.setBayPolicy r) 0x04 (PolicyGives policyTo clsTo zoneTo) (clampedOr clamped)) ∧
          (1 < policy.toNat → policy ≠ 0xff →
            exec (.setBayPolicy r) s = .next (s.listening.replying 0x04 r.tag .badValue []))

/-- A bay list of no bays, of more than 24, of a range from a number above 23, or of neither form refuses its whole request,
which changes nothing (R181; a form of neither kind passes at any length from two bytes on, notes/assumptions/14.md). -/
def Obligations.BadBayListsRefuseTheRequest : Prop :=
  ∀ (list : List Byte) (status : Status) (r : Request) (s : State),
    let refuses := fun (i : Instr) (code : Byte) =>
      exec i s = .next (s.listening.replying code r.tag status [])
    Reaches r s → RefusesBays list status →
      (r.payload = list → refuses (.powerOn r) 0x10 ∧ refuses (.powerOff r) 0x11 ∧ refuses (.prepareRemoval r) 0x12 ∧
        refuses (.spinRequest r) 0x13 ∧ refuses (.spinDownNote r) 0x14 ∧ refuses (.clearQuarantine r) 0x54) ∧
      (∀ cls zone : Byte, r.payload = [0, cls, zone] ++ list → refuses (.setBayPolicy r) 0x04) ∧
      (∀ condition : Byte, condition.toNat < 5 → r.payload = [condition, 1] ++ list → refuses (.setCondition r) 0x20)

/-- The light requests (R147, R150, R152, R154, R156, R159): each writes its one value, or is refused and changes nothing;
the mask alone is clamped. -/
def Obligations.LightRequestsWriteOneValue : Prop :=
  ∀ (x y : Byte) (list : List Byte) (bays : List Nat) (r : Request) (s : State),
    let refuses := fun (i : Instr) (code : Byte) (status : Status) =>
      exec i s = .next (s.listening.replying code r.tag status [])
    let lights := fun l : Lights => s.listening.putLights l
    let cfg := fun c : Settings => s.listening.putCfg c
    Reaches r s →
      (r.payload = [x, y] ++ list → NamesBays list bays →
        (∀ c : Fin 9, x.toNat = c.val → c.val < 5 → y = 0 ∨ y = 1 → ∃ t statuses,
          EachBay (fun b u v status => v = u.setCond b c (decide (y = 1)) ∧ status = .ok) bays s.listening t statuses ∧
          exec (.setCondition r) s =
            .next (t.replying 0x20 r.tag .ok ([BitVec.ofNat 8 bays.length] ++ statuses.map Status.byte))) ∧
        (4 < x.toNat ∨ 1 < y.toNat → refuses (.setCondition r) 0x20 .badValue)) ∧
      (r.payload = [x] →
        (∀ b : Bay, x.toNat = b.val → exec (.clearLatch r) s =
          .next ((s.listening.setCond b 8 false).replying 0x21 r.tag .ok [])) ∧
        (x = 0xff → ∃ t, exec (.clearLatch r) s = .next (t.replying 0x21 r.tag .ok []) ∧
          (∀ b, t.bayLights b = { s.bayLights b with
            conditions := Table.put (s.bayLights b).conditions 8 false }) ∧
          t = lights { s.lights with bays := t.lights.bays }) ∧
        (23 < x.toNat → x ≠ 0xff → refuses (.clearLatch r) 0x21 .badBay) ∧
        (x.toNat ≤ 6 → exec (.setLightMask r) s =
          .next ((lights { s.lights with mask := x.toNat }).replying 0x22 r.tag .ok [x])) ∧
        (6 < x.toNat → exec (.setLightMask r) s =
          .next ((lights { s.lights with mask := 6 }).replying 0x22 r.tag .clamped [6])) ∧
        (x = 0 ∨ x = 1 → exec (.setLocate r) s =
          .next ((lights { s.lights with locate := decide (x = 1) }).replying 0x25 r.tag .ok [])) ∧
        (1 < x.toNat → refuses (.setLocate r) 0x25 .badValue)) ∧
      (r.payload = [x, y] →
        (∀ i : Fin 4, x.toNat = i.val + 4 → exec (.setPattern r) s = .next ((cfg { s.cfg with
          patterns := Table.put s.cfg.patterns i y }).replying 0x23 r.tag .ok [x, y])) ∧
        (x.toNat < 4 ∨ 7 < x.toNat → refuses (.setPattern r) 0x23 .badValue) ∧
        (∀ (c : Fin 9) (i : Fin 8), x.toNat = c.val → y.toNat = i.val → exec (.setConditionPattern r) s =
          .next ((cfg { s.cfg with assign := Table.put s.cfg.assign c i }).replying 0x24 r.tag .ok [x, y])) ∧
        (8 < x.toNat ∨ 7 < y.toNat → refuses (.setConditionPattern r) 0x24 .badValue))

/-- SET_SUPPLY (R58): a policy code of neither policy is refused; otherwise capacities are saturated, derate and base
clamped, all seven values written together and answered as stored, and one recomputation follows. -/
def Obligations.SetSupplyWritesAndRecomputes : Prop :=
  ∀ (c0 c1 c2 c3 base : Nat) (policy derate : Byte) (r : Request) (s : State),
    let two := fun v : Nat => [BitVec.ofNat 8 (v % 256), BitVec.ofNat 8 (v / 256 % 256)]
    let four := fun v : Nat => two (v % 65536) ++ two (v / 65536)
    let small := min 200000
    let stored : SupplyParams := ⟨#v[small c0, small c1, small c2, small c3],
      if policy = 0 then .shared else .redundant, max 50 (min 100 derate.toNat), min 60000 base⟩
    let changed := 200000 < c0 ∨ 200000 < c1 ∨ 200000 < c2 ∨ 200000 < c3 ∨ derate.toNat < 50 ∨ 100 < derate.toNat ∨
      60000 < base
    Reaches r s → c0 < 4294967296 → c1 < 4294967296 → c2 < 4294967296 → c3 < 4294967296 → base < 65536 →
      r.payload = four c0 ++ four c1 ++ four c2 ++ four c3 ++ [policy, derate] ++ two base →
      (policy = 0 ∨ policy = 1 → ∃ t, exec (.setSupply r) s = .next (t.replying 0x40 r.tag (clampedOr changed)
          (four (small c0) ++ four (small c1) ++ four (small c2) ++ four (small c3) ++
            [policy, BitVec.ofNat 8 stored.derate] ++ two stored.base)) ∧
        Recomputed [] (s.listening.putCfg { s.cfg with supply := stored }) t) ∧
      (1 < policy.toNat → exec (.setSupply r) s = .next (s.listening.replying 0x40 r.tag .badValue []))

/-- SET_ADMISSION (R77): the five values clamped, written together and answered as stored. A lowered retry limit quarantines
the QUEUED and FAULTED bays above it in bay-number order (R113): each goes to IDLE_OFF, its entry leaves the queue, and it is
entered in the quarantine table with its reason, count and time, its QUARANTINED condition set and BAY_QUARANTINED raised
(R114). A raised K, bypass limit or retry limit triggers a pass, after the check where the retry limit falls. -/
def Obligations.SetAdmissionWritesAndChecks : Prop :=
  ∀ (k bypass retry : Byte) (stagger window : Nat) (r : Request) (s : State),
    let two := fun v : Nat => [BitVec.ofNat 8 (v % 256), BitVec.ofNat 8 (v / 256 % 256)]
    let old := s.cfg.admission
    let new : AdmissionParams := ⟨max 1 (min 8 k.toNat), min 10000 stagger, min 8 bypass.toNat, min 3 retry.toNat,
      max 500 (min 30000 window)⟩
    let changed := k.toNat < 1 ∨ 8 < k.toNat ∨ 10000 < stagger ∨ 8 < bypass.toNat ∨ 3 < retry.toNat ∨ window < 500 ∨
      30000 < window
    let u := s.listening.putCfg { s.cfg with admission := new }
    let raised := old.k < new.k ∨ old.bypassLimit < new.bypassLimit ∨ old.retryLimit < new.retryLimit
    let checked := fun b : Bay => ((s.bay b).state = .queued ∨ (s.bay b).state = .faulted) ∧
      new.retryLimit < (s.bay b).failCount
    Reaches r s → stagger < 65536 → window < 65536 →
      r.payload = [k] ++ two stagger ++ [bypass, retry] ++ two window → ∃ t,
        exec (.setAdmission r) s = .next (t.replying 0x42 r.tag (clampedOr changed)
          ([BitVec.ofNat 8 new.k] ++ two new.stagger ++ [BitVec.ofNat 8 new.bypassLimit, BitVec.ofNat 8 new.retryLimit] ++
            two new.grantWindow)) ∧ t.cfg = u.cfg ∧ t.link = u.link ∧
        (old.retryLimit ≤ new.retryLimit → ¬ raised → t = u) ∧
        (old.retryLimit ≤ new.retryLimit → raised → PassTaken u t) ∧
        (new.retryLimit < old.retryLimit →
          (∀ b, checked b → t.bay b = (s.bay b).openIn .idleOff none ∧ (t.bayLights b).conditions.get 7 = true) ∧
          (∀ b, ¬ checked b → t.bay b = s.bay b ∧ (t.bayLights b).conditions.get 7 = (s.bayLights b).conditions.get 7) ∧
          t.quarantine = s.quarantine ++ (allBays.filter (fun b => decide (checked b))).map
            (fun b => ⟨b, (s.bay b).code, quarantineReason (s.bay b), (s.bay b).failCount, s.time⟩) ∧
          (∃ more, t.events = (s.raiseAll more).events ∧
            ((allBays.filter (fun b => decide (checked b))).map (fun b => bayEvent .bayQuarantined b
              (some (quarantineReason (s.bay b)).byte) (some (s.bay b).failCount))).Sublist more) ∧
          t.arbiter.queue = s.arbiter.queue.filter
            (fun e => decide (¬ (checked e.bay ∧ (s.bay e.bay).state = .queued))) ∧
          (t.arbiter.queue ≠ s.arbiter.queue → Triggered (fun _ => True) t) ∧
          (raised → ∃ v, PassTaken v t) ∧ t.chans = s.chans)

/-- SET_PROFILE (R42) clamps each field, refuses a number outside 1-7 and a profile that breaks the relations of R41, and
else replaces the profile, changing nothing else. SET_PROFILE_RULE (R48, R49) refuses a rule number above 7 or an enable
above 1; otherwise the fields are clamped and written, and every bay in IDLE_OFF, QUEUED and FAULTED selects its profile again
under the new table, in bay-number order, with a RULE_CONFLICT that carries the code and the count for each that finds
several rules, and no other event (R47). -/
def Obligations.ProfileAndRuleWrites : Prop :=
  ∀ (n heat : Byte) (inrush steady standby spin settle trip : Nat) (enable base mask carriers profile : Byte) (r : Request) (s : State),
    let two := fun v : Nat => [BitVec.ofNat 8 (v % 256), BitVec.ofNat 8 (v / 256 % 256)]
    let p : Profile := ⟨max 500 (min 5000 inrush), max 100 (min 3000 steady), min 1500 standby,
      max 1000 (min 30000 spin), max 100 (min 4000 settle), max 1000 (min 8000 trip), min 20 heat.toNat⟩
    let related := p.standby ≤ p.steady ∧ p.steady ≤ p.inrush ∧ p.inrush ≤ p.trip ∧ p.steady ≤ p.settle
    let profileChanged := p ≠ ⟨inrush, steady, standby, spin, settle, trip, heat.toNat⟩
    let refused := exec (.setProfile r) s = .next (s.listening.replying 0x50 r.tag .badValue [])
    let rule : ProfileRule := ⟨decide (enable = 1), min 23 base.toNat, min 31 mask.toNat,
      BitVec.ofNat 4 (carriers.toNat % 16), ⟨max 1 (min 7 profile.toNat), by omega⟩⟩
    let ruleChanged := 23 < base.toNat ∨ 31 < mask.toNat ∨ 15 < carriers.toNat ∨ profile = 0 ∨ 7 < profile.toNat
    let selects := fun b : Bay =>
      (s.bay b).state = .idleOff ∨ (s.bay b).state = .queued ∨ (s.bay b).state = .faulted
    Reaches r s →
      (inrush < 65536 → steady < 65536 → standby < 65536 → spin < 65536 → settle < 65536 → trip < 65536 →
        r.payload = [n] ++ two inrush ++ two steady ++ two standby ++ two spin ++ two settle ++ two trip ++ [heat] →
        (n = 0 ∨ 7 < n.toNat → refused) ∧ (¬ related → refused) ∧
        (∀ i : Fin 7, n.toNat = i.val + 1 → related → exec (.setProfile r) s =
          .next ((s.listening.putCfg { s.cfg with profiles := Table.put s.cfg.profiles i p }).replying 0x50 r.tag
            (clampedOr profileChanged) ([n] ++ two p.inrush ++ two p.steady ++ two p.standby ++ two p.spinMs ++
              two p.settle ++ two p.trip ++ [BitVec.ofNat 8 p.heat])))) ∧
      (r.payload = [n, enable, base, mask, carriers, profile] →
        (7 < n.toNat ∨ 1 < enable.toNat →
          exec (.setProfileRule r) s = .next (s.listening.replying 0x52 r.tag .badValue [])) ∧
        (∀ i : Fin 8, n.toNat = i.val → enable.toNat ≤ 1 → ∃ t : State,
          exec (.setProfileRule r) s = .next (t.replying 0x52 r.tag (clampedOr ruleChanged)
            [n, enable, BitVec.ofNat 8 rule.base, BitVec.ofNat 8 rule.mask, BitVec.ofNat 8 (carriers.toNat % 16),
              BitVec.ofNat 8 rule.profile.val]) ∧
          (∃ (count : Bay → Nat) (index : Bay → Fin 8),
            (∀ b, selects b → Selects t.cfg b (s.bay b).code (count b) (index b) ∧
              t.bay b = { s.bay b with profileIndex := some (index b) }) ∧
            t.events = (s.raiseAll (allBays.flatMap (fun b =>
              if selects b ∧ 2 ≤ count b then
                [bayEvent .ruleConflict b ((s.bay b).code.map (fun c => BitVec.ofNat 8 c.val)) (some (count b))]
              else []))).events) ∧
          (∀ b, ¬ selects b → t.bay b = s.bay b) ∧
          t = { s.listening with
            cfg := { s.cfg with rules := Table.put s.cfg.rules i rule }, bays := t.bays, events := t.events }))

/-- DRIVE_TEMPS (R128): a count of 0 or above 24 refuses it; otherwise the pairs are taken in order, each with its status,
a report set FRESH for 60,000 ms with its temperature clamped, or cleared by 127, and then the zones of the changed reports
are reviewed. -/
def Obligations.DriveTempsSetReports : Prop :=
  ∀ (n : Byte) (pairs : List Byte) (r : Request) (s : State),
    Reaches r s → r.payload = n :: pairs → pairs.length = 2 * n.toNat →
      (n = 0 ∨ 24 < n.toNat → exec (.driveTemps r) s = .next (s.listening.replying 0x30 r.tag .badValue [])) ∧
      (n ≠ 0 → n.toNat ≤ 24 → ∃ u t statuses, EachPair pairs s.listening u statuses ∧
        ReviewsThermal (fun z => ∃ c, s.zoneOf c = z ∧ u.cooling.reports.get c ≠ s.cooling.reports.get c) u t ∧
        exec (.driveTemps r) s = .next (t.replying 0x30 r.tag .ok (n :: statuses.map Status.byte)))

/-- SET_ZONE in its two forms (R131, R132): values clamped, a curve out of order, a warning threshold not below its critical
one, a window of no allowed length and a zone code above 3 refused; else the settings written whole and answered as stored,
and the targets formed anew, in the common form with the thermal states. -/
def Obligations.ZoneSettingsAreCheckedAndWritten : Prop :=
  ∀ (z : Zone) (curve : Curve) (floor stale failover aw ac dw dc : Byte) (window : Nat) (r : Request) (s : State),
    let two := fun v : Nat => [BitVec.ofNat 8 (v % 256), BitVec.ofNat 8 (v / 256 % 256)]
    let point := fun p : CurvePoint => [BitVec.ofInt 8 p.temp, BitVec.ofNat 8 p.duty]
    let bytes := fun c : Curve => point c.p1 ++ point c.p2 ++ point c.p3 ++ point c.p4
    let sent := fun p : CurvePoint => -128 ≤ p.temp ∧ p.temp ≤ 127 ∧ p.duty < 256
    let temp := fun t : Int => max (-40) (min 125 t)
    let clamp := fun p : CurvePoint => (⟨temp p.temp, min 100 p.duty⟩ : CurvePoint)
    let c : Curve := ⟨clamp curve.p1, clamp curve.p2, clamp curve.p3, clamp curve.p4⟩
    let common : CoolingCommon := ⟨c, min 100 floor.toNat, min 100 stale.toNat, min 100 failover.toNat, temp aw.toInt,
      temp ac.toInt, temp dw.toInt, temp dc.toInt, window⟩
    let asSent : CoolingCommon := ⟨curve, floor.toNat, stale.toNat, failover.toNat, aw.toInt, ac.toInt, dw.toInt,
      dc.toInt, window⟩
    let allowed := common.legal
    let refused := fun (i : Instr) => exec i s = .next (s.listening.replying 0x31 r.tag .badValue [])
    Reaches r s → sent curve.p1 → sent curve.p2 → sent curve.p3 → sent curve.p4 → window < 65536 →
      (r.payload = [BitVec.ofNat 8 z.number.val] ++ bytes curve →
        (¬ c.legal → refused (.setZone r)) ∧
        (c.legal → ∃ t, exec (.setZone r) s = .next (t.replying 0x31 r.tag (clampedOr (c ≠ curve))
            ([BitVec.ofNat 8 z.number.val] ++ bytes c)) ∧
          Reviews (fun y => y = z)
            (s.listening.putCfg { s.cfg with airCurves := Table.put s.cfg.airCurves z.number c }) t ∧
          ∀ y, (t.zone y).thermal = (s.zone y).thermal)) ∧
      (∀ code : Byte, 3 < code.toNat → r.payload = [code] ++ bytes curve → refused (.setZone r)) ∧
      (r.payload = [3] ++ bytes curve ++ [floor, stale, failover, aw, ac, dw, dc] ++ two window →
        (¬ allowed → refused (.setZoneCommon r)) ∧
        (allowed → ∃ t, exec (.setZoneCommon r) s = .next (t.replying 0x31 r.tag (clampedOr (common ≠ asSent))
            ([3] ++ bytes c ++ [BitVec.ofNat 8 common.floorDuty, BitVec.ofNat 8 common.staleDuty,
              BitVec.ofNat 8 common.failoverDuty, BitVec.ofInt 8 common.airWarning, BitVec.ofInt 8 common.airCritical,
              BitVec.ofInt 8 common.driveWarning, BitVec.ofInt 8 common.driveCritical] ++ two window)) ∧
          ReviewsThermal (fun _ => True) (s.listening.putCfg { s.cfg with common := common }) t))

/-- SET_FAN (R124): a fan number above 5 or an absent setting above 1 is refused; otherwise the values are clamped, full_mA
from the stored idle_mA up, written together and answered with the fan's state, and the fan follows its absent setting at
once, with neither FAN_FAILED nor FAN_RECOVERED; a change of its state, duty or limits goes to the budget unit by a fan
notice (R59, R120). -/
def Obligations.FanSettingsMoveTheFan : Prop :=
  ∀ (n absent ppr : Byte) (minRpm idle full : Nat) (r : Request) (s : State),
    let two := fun v : Nat => [BitVec.ofNat 8 (v % 256), BitVec.ofNat 8 (v / 256 % 256)]
    let x : FanSettings := ⟨decide (absent = 1), min 20000 minRpm, max 1 (min 4 ppr.toNat), min 2000 idle,
      max (min 2000 idle) (min 6000 full)⟩
    let changed := x ≠ ⟨decide (absent = 1), minRpm, ppr.toNat, idle, full⟩
    let window := TachWindow.mk s.cfg.common.windowMs s.cfg.common.windowMs 0
    Reaches r s → minRpm < 65536 → idle < 65536 → full < 65536 →
      r.payload = [n, absent] ++ two minRpm ++ [ppr] ++ two idle ++ two full →
      (5 < n.toNat ∨ 1 < absent.toNat →
        exec (.setFan r) s = .next (s.listening.replying 0x32 r.tag .badValue [])) ∧
      (∀ f : Fan, n.toNat = f.val → absent.toNat ≤ 1 →
        let was := s.fan f
        let now : FanRecord :=
          if absent = 1 then
            (if was.state = .absent then was
            else { was with state := .absent, duty := 0, low := 0, good := 0, judgment := none, window := none })
          else if was.state ≠ .absent then was
          else if s.cooling.fanCheck.isSome = true then
            { was with state := .checking, duty := 100, window := some window }
          else { was with state := .running, duty := (s.zone (zoneOfFan f)).duty, low := 0, good := 0, window := some window }
        ∃ t, exec (.setFan r) s = .next (t.replying 0x32 r.tag (clampedOr changed)
            ([n, absent] ++ two x.minRpm ++ [BitVec.ofNat 8 x.ppr] ++ two x.idle ++ two x.full ++ [now.state.byte])) ∧
          Reviews (fun z => z = zoneOfFan f ∧ now.state ≠ was.state)
            ((s.listening.putCfg { s.cfg with fans := Table.put s.cfg.fans f x }).putFan f now) t ∧
          (∀ z, (t.zone z).thermal = (s.zone z).thermal) ∧
          (∀ e ∈ t.events.records, e ∈ s.events.records ∨ (e.event.kind ≠ .fanFailed ∧ e.event.kind ≠ .fanRecovered)) ∧
          t.budget.fanViews.get f = (if now.state = was.state ∧ now.duty = was.duty ∧ x.idle = (s.cfg.fans.get f).idle ∧
            x.full = (s.cfg.fans.get f).full then s.budget.fanViews.get f
            else ⟨(t.fan f).state, (t.fan f).duty, x.idle, x.full⟩))

/-- READ_EVENTS removes and answers the oldest records, each in its 13 bytes (Table 11-1, R188), and reports and clears the
overflow mark (R191); SAVE_SETTINGS copies the running configuration, to be written within 200 ms, or is answered STORE_BUSY
(R195); RESTART and SET_LINK hold their effect back until the reply has
left (R173, R189), and by broadcast take it at once (R173). -/
def Obligations.UnitRequestsActOrWait : Prop :=
  ∀ (x y : Byte) (r : Request) (s : State),
    let refuses := fun (i : Instr) (code : Byte) (status : Status) =>
      exec i s = .next (s.listening.replying code r.tag status [])
    let speedOf : Option Speed := if x = 0 then some .b9600 else if x = 1 then some .b19200 else if x = 2 then some .b57600
      else if x = 3 then some .b115200 else none
    let delay := min 50 y.toNat
    Reaches r s →
      (r.payload = [x] →
        (x = 0 ∨ 16 < x.toNat → refuses (.readEvents r) 0x60 .badValue) ∧
        (x ≠ 0 → x.toNat ≤ 16 → exec (.readEvents r) s =
          .next ((s.listening.putEvents ⟨s.events.records.drop x.toNat, false⟩).replying 0x60 r.tag .ok
            ([if s.events.overflow = true then 1 else 0,
              BitVec.ofNat 8 (min x.toNat s.events.records.length)] ++
              (s.events.records.take x.toNat).flatMap recordFields)))) ∧
      (r.payload = [] →
        (s.store.writing = none → exec (.saveSettings r) s =
          .next ((s.listening.putStore { s.store with writing := some ⟨s.cfg, 200⟩ }).replying 0x61 r.tag .accepted [])) ∧
        (s.store.writing.isSome = true → refuses (.saveSettings r) 0x61 .storeBusy) ∧
        exec (.restart r) s = .next (s.listening.replyingThen 0x62 r.tag .accepted [] .restart) ∧
        exec (.restart { r with address := 0 }) s =
          exec .replySent (s.putLink { s.link with reply := .sending [] .restart })) ∧
      (r.payload = [x, y] →
        (speedOf = none → refuses (.setLink r) 0x63 .badValue) ∧
        (∀ speed, speedOf = some speed →
          exec (.setLink r) s = .next (s.listening.replyingThen 0x63 r.tag (clampedOr (50 < y.toNat))
            [x, BitVec.ofNat 8 delay] (.linkChange speed delay)) ∧
          exec (.setLink { r with address := 0 }) s =
            .next (s.listening.putCfg { s.cfg with speed := speed, turnaround := delay })))

/-! ## Events and outputs -/

/-- Events raised are stamped with the event time and appended in order while the queue holds fewer than 32 records, the rest
discarded with the overflow mark set (R190), and nothing else changes. The event kinds have the codes of Table 11-2. ALERT is
driven low exactly while the queue holds a record and RESET is not held low (R192): RESET_ASSERTED releases it until the part
idles (the model's choice, notes/assumptions/19.md), and a READ_EVENTS of all records releases it. PEN is asserted exactly on
RAMPING and CLOSED channels while RESET is not held low (R7, R14), and negated by a trip (R11). MDE is asserted exactly while
a reply is sent and the receiver SUSPENDED, while RESET is not held low (R171, R178). MTX carries the characters of the
reply's bytes back to back, each least significant bit first between a start and a stop bit (R162, R171), and rests at the
idle level at every other time (R178). The light outputs are the levels driven while RESET is not held low, and off while it
is (R160). FPWM of a fan is its commanded duty, by its state (R120). -/
def Obligations.EventsQueueAndOutputsFollow : Prop :=
  ∀ (es : List Event) (straps : BitVec 3) (b : Bay) (f : Fan) (level mA : Nat) (n : Byte) (r : Request) (s : State),
    let room := 32 - s.events.records.length
    let kinds : List EventKind := [.bayInserted, .bayPartial, .bayRemoved, .bayDisturbed, .bayPowered, .spinFailed,
      .powerFault, .bayQuarantined, .unscheduledSpin, .grant, .grantExpired, .grantRevoked, .wakeDropped, .ruleConflict,
      .psuChange, .budgetOvercommit, .budgetRestored, .fanFailed, .fanRecovered, .sensorFailed, .thermal, .tempStale,
      .settingsDefaulted, .coldStart, .warmRestart]
    s.raiseAll es = s.putEvents ⟨s.events.records ++ (es.take room).map (fun e => ⟨e, s.time⟩),
      s.events.overflow || decide (room < es.length)⟩ ∧
    kinds.map EventKind.byte = (List.range 25).map (fun i => BitVec.ofNat 8 (i + 1)) ∧
    (s.alert = true ↔ s.events.records ≠ [] ∧ s.resetLow = false) ∧
    (s.pen b = true ↔ ((s.chan b).switch = .ramping ∨ (s.chan b).switch = .closed) ∧ s.resetLow = false) ∧
    (∃ t, exec (.resetAsserted straps) s = .next t ∧ t.alert = false ∧ (∀ c, t.pen c = false) ∧
      ∃ u, step (t.putPending []) = .next u ∧ u.alert = true ∧ ∀ c, u.pen c = false) ∧
    (Reaches r s → r.payload = [n] → n ≠ 0 → n.toNat ≤ 16 → ∃ t, exec (.readEvents r) s = .next t ∧
      (t.alert = true ↔ n.toNat < s.events.records.length ∧ s.resetLow = false)) ∧
    ((s.chan b).tripLevel = some level → level < mA → ∃ t, exec (.tripExcursion b mA) s = .next t ∧ t.pen b = false) ∧
    (LinkAgrees s → (s.mde = true ↔ s.link.receiver = .suspended ∧ s.resetLow = false)) ∧
    (∀ (frame : List Byte) (action : AfterReply) (i k : Nat) (byte : Byte), s.link.reply = .sending frame action →
      s.resetLow = false → frame[i]? = some byte → k < 10 → s.mtx (10 * i + k) =
        if k = 0 then false else if k = 9 then true else byte.getLsbD (k - 1)) ∧
    (∀ (frame : List Byte) (action : AfterReply) (k : Nat), s.link.reply = .sending frame action → 10 * frame.length ≤ k →
      s.mtx k = true) ∧
    (∀ k, s.mde = false → s.mtx k = true) ∧
    (s.resetLow = true → s.latnOut b = false ∧ s.lactOut b = false ∧ s.elfOut = false ∧ s.ellOut = false) ∧
    (s.resetLow = false → s.latnOut b = (s.bayLights b).latn ∧ s.lactOut b = (s.bayLights b).lact ∧
      s.elfOut = s.lights.elf ∧ s.ellOut = s.lights.ell) ∧
    (CoolingAgrees s → s.fpwm f = (s.fan f).state.dutyIn (s.zone (zoneOfFan f)).duty)

/-! ## What every step keeps -/

/-- Every step keeps the configuration, the image, the turnaround delay that a reply's action carries and the snapshots in
their ranges, and no zone cooled short of its target. -/
def Obligations.StepKeepsSettingsInRange : Prop :=
  ∀ (s : State), SettingsInRange s → CooledEnough s → ∃ t, step s = .next t ∧ SettingsInRange t ∧ CooledEnough t

/-- Every step keeps the budget unit in agreement with the enclosure, and the spin count, grant order list and outstanding
revocation with the bays. -/
def Obligations.StepKeepsTheBudget : Prop :=
  ∀ (s : State), BudgetAgrees s → CountsAgree s → ∃ t, step s = .next t ∧ BudgetAgrees t ∧ CountsAgree t

/-- Every step keeps each bay record in agreement with its state, and the quarantine table with the bays. -/
def Obligations.StepKeepsTheBayRecords : Prop :=
  ∀ (s : State), RecordsAgree s → ∃ t, step s = .next t ∧ RecordsAgree t

/-- Every step keeps each channel's and each supply slot's parts in agreement, and no watch armed but those of Table 6-1 (by
arming and DISARM of the model's choice, notes/assumptions/34.md). -/
def Obligations.StepKeepsTheChannels : Prop :=
  ∀ (s : State), ChannelsAgree s → ∃ t, step s = .next t ∧ ChannelsAgree t

/-- Every step keeps the cooling controller in agreement with itself and with the start-up hold, and the lights with the
bays. -/
def Obligations.StepKeepsTheCoolingAndLights : Prop :=
  ∀ (s : State), CoolingAgrees s → LightsAgree s → ∃ t, step s = .next t ∧ CoolingAgrees t ∧ LightsAgree t

/-- Every step keeps the link interface in agreement with itself and the event queue within 32 records. -/
def Obligations.StepKeepsTheLink : Prop :=
  ∀ (s : State), LinkAgrees s → EventsBounded s → ∃ t, step s = .next t ∧ LinkAgrees t ∧ EventsBounded t

/-- Every step keeps the spin queue in agreement with the bays, and at most one grant awaiting its answer. -/
def Obligations.StepKeepsTheQueue : Prop :=
  ∀ (s : State), QueueAgrees s → ∃ t, step s = .next t ∧ QueueAgrees t

/-- The state after reset meets every invariant. The levels of its pins and its image are the model's choice
(notes/assumptions/4.md and 5.md). -/
def Obligations.ResetMeetsTheInvariants : Prop :=
  SettingsInRange State.reset ∧ CooledEnough State.reset ∧ BudgetAgrees State.reset ∧ CountsAgree State.reset ∧
    RecordsAgree State.reset ∧ ChannelsAgree State.reset ∧ CoolingAgrees State.reset ∧ LightsAgree State.reset ∧
    LinkAgrees State.reset ∧ EventsBounded State.reset ∧ QueueAgrees State.reset
end

