-- ==== Sys2Proof/Laws/State.lean ====
section
/-! SUPPORT. What each update of the state leaves in each field: one lemma per field per update, true by `rfl`. -/

namespace Sys2Proof.Machine

variable (s : State)

/-! ## Updates of one block -/

@[simp] theorem State.putChan_chans (b : Bay) (x : Channel) : (s.putChan b x).chans = Table.put s.chans b x := rfl
@[simp] theorem State.putChan_bays (b : Bay) (x : Channel) : (s.putChan b x).bays = s.bays := rfl
@[simp] theorem State.putChan_quarantine (b : Bay) (x : Channel) : (s.putChan b x).quarantine = s.quarantine := rfl
@[simp] theorem State.putChan_budget (b : Bay) (x : Channel) : (s.putChan b x).budget = s.budget := rfl
@[simp] theorem State.putChan_arbiter (b : Bay) (x : Channel) : (s.putChan b x).arbiter = s.arbiter := rfl
@[simp] theorem State.putChan_cooling (b : Bay) (x : Channel) : (s.putChan b x).cooling = s.cooling := rfl
@[simp] theorem State.putChan_lights (b : Bay) (x : Channel) : (s.putChan b x).lights = s.lights := rfl
@[simp] theorem State.putChan_link (b : Bay) (x : Channel) : (s.putChan b x).link = s.link := rfl
@[simp] theorem State.putChan_events (b : Bay) (x : Channel) : (s.putChan b x).events = s.events := rfl
@[simp] theorem State.putChan_time (b : Bay) (x : Channel) : (s.putChan b x).time = s.time := rfl
@[simp] theorem State.putChan_store (b : Bay) (x : Channel) : (s.putChan b x).store = s.store := rfl
@[simp] theorem State.putChan_cfg (b : Bay) (x : Channel) : (s.putChan b x).cfg = s.cfg := rfl
@[simp] theorem State.putChan_pending (b : Bay) (x : Channel) : (s.putChan b x).pending = s.pending := rfl
@[simp] theorem State.putChan_resetLow (b : Bay) (x : Channel) : (s.putChan b x).resetLow = s.resetLow := rfl

@[simp] theorem State.putBay_chans (b : Bay) (x : BayRecord) : (s.putBay b x).chans = s.chans := rfl
@[simp] theorem State.putBay_bays (b : Bay) (x : BayRecord) : (s.putBay b x).bays = Table.put s.bays b x := rfl
@[simp] theorem State.putBay_quarantine (b : Bay) (x : BayRecord) : (s.putBay b x).quarantine = s.quarantine := rfl
@[simp] theorem State.putBay_budget (b : Bay) (x : BayRecord) : (s.putBay b x).budget = s.budget := rfl
@[simp] theorem State.putBay_arbiter (b : Bay) (x : BayRecord) : (s.putBay b x).arbiter = s.arbiter := rfl
@[simp] theorem State.putBay_cooling (b : Bay) (x : BayRecord) : (s.putBay b x).cooling = s.cooling := rfl
@[simp] theorem State.putBay_lights (b : Bay) (x : BayRecord) : (s.putBay b x).lights = s.lights := rfl
@[simp] theorem State.putBay_link (b : Bay) (x : BayRecord) : (s.putBay b x).link = s.link := rfl
@[simp] theorem State.putBay_events (b : Bay) (x : BayRecord) : (s.putBay b x).events = s.events := rfl
@[simp] theorem State.putBay_time (b : Bay) (x : BayRecord) : (s.putBay b x).time = s.time := rfl
@[simp] theorem State.putBay_store (b : Bay) (x : BayRecord) : (s.putBay b x).store = s.store := rfl
@[simp] theorem State.putBay_cfg (b : Bay) (x : BayRecord) : (s.putBay b x).cfg = s.cfg := rfl
@[simp] theorem State.putBay_pending (b : Bay) (x : BayRecord) : (s.putBay b x).pending = s.pending := rfl
@[simp] theorem State.putBay_resetLow (b : Bay) (x : BayRecord) : (s.putBay b x).resetLow = s.resetLow := rfl

@[simp] theorem State.putQuarantine_chans (x : List QuarantineEntry) : (s.putQuarantine x).chans = s.chans := rfl
@[simp] theorem State.putQuarantine_bays (x : List QuarantineEntry) : (s.putQuarantine x).bays = s.bays := rfl
@[simp] theorem State.putQuarantine_quarantine (x : List QuarantineEntry) : (s.putQuarantine x).quarantine = x := rfl
@[simp] theorem State.putQuarantine_budget (x : List QuarantineEntry) : (s.putQuarantine x).budget = s.budget := rfl
@[simp] theorem State.putQuarantine_arbiter (x : List QuarantineEntry) : (s.putQuarantine x).arbiter = s.arbiter := rfl
@[simp] theorem State.putQuarantine_cooling (x : List QuarantineEntry) : (s.putQuarantine x).cooling = s.cooling := rfl
@[simp] theorem State.putQuarantine_lights (x : List QuarantineEntry) : (s.putQuarantine x).lights = s.lights := rfl
@[simp] theorem State.putQuarantine_link (x : List QuarantineEntry) : (s.putQuarantine x).link = s.link := rfl
@[simp] theorem State.putQuarantine_events (x : List QuarantineEntry) : (s.putQuarantine x).events = s.events := rfl
@[simp] theorem State.putQuarantine_time (x : List QuarantineEntry) : (s.putQuarantine x).time = s.time := rfl
@[simp] theorem State.putQuarantine_store (x : List QuarantineEntry) : (s.putQuarantine x).store = s.store := rfl
@[simp] theorem State.putQuarantine_cfg (x : List QuarantineEntry) : (s.putQuarantine x).cfg = s.cfg := rfl
@[simp] theorem State.putQuarantine_pending (x : List QuarantineEntry) : (s.putQuarantine x).pending = s.pending := rfl
@[simp] theorem State.putQuarantine_resetLow (x : List QuarantineEntry) : (s.putQuarantine x).resetLow = s.resetLow := rfl

@[simp] theorem State.putBudget_chans (x : Budget) : (s.putBudget x).chans = s.chans := rfl
@[simp] theorem State.putBudget_bays (x : Budget) : (s.putBudget x).bays = s.bays := rfl
@[simp] theorem State.putBudget_quarantine (x : Budget) : (s.putBudget x).quarantine = s.quarantine := rfl
@[simp] theorem State.putBudget_budget (x : Budget) : (s.putBudget x).budget = x := rfl
@[simp] theorem State.putBudget_arbiter (x : Budget) : (s.putBudget x).arbiter = s.arbiter := rfl
@[simp] theorem State.putBudget_cooling (x : Budget) : (s.putBudget x).cooling = s.cooling := rfl
@[simp] theorem State.putBudget_lights (x : Budget) : (s.putBudget x).lights = s.lights := rfl
@[simp] theorem State.putBudget_link (x : Budget) : (s.putBudget x).link = s.link := rfl
@[simp] theorem State.putBudget_events (x : Budget) : (s.putBudget x).events = s.events := rfl
@[simp] theorem State.putBudget_time (x : Budget) : (s.putBudget x).time = s.time := rfl
@[simp] theorem State.putBudget_store (x : Budget) : (s.putBudget x).store = s.store := rfl
@[simp] theorem State.putBudget_cfg (x : Budget) : (s.putBudget x).cfg = s.cfg := rfl
@[simp] theorem State.putBudget_pending (x : Budget) : (s.putBudget x).pending = s.pending := rfl
@[simp] theorem State.putBudget_resetLow (x : Budget) : (s.putBudget x).resetLow = s.resetLow := rfl

@[simp] theorem State.putArbiter_chans (x : Arbiter) : (s.putArbiter x).chans = s.chans := rfl
@[simp] theorem State.putArbiter_bays (x : Arbiter) : (s.putArbiter x).bays = s.bays := rfl
@[simp] theorem State.putArbiter_quarantine (x : Arbiter) : (s.putArbiter x).quarantine = s.quarantine := rfl
@[simp] theorem State.putArbiter_budget (x : Arbiter) : (s.putArbiter x).budget = s.budget := rfl
@[simp] theorem State.putArbiter_arbiter (x : Arbiter) : (s.putArbiter x).arbiter = x := rfl
@[simp] theorem State.putArbiter_cooling (x : Arbiter) : (s.putArbiter x).cooling = s.cooling := rfl
@[simp] theorem State.putArbiter_lights (x : Arbiter) : (s.putArbiter x).lights = s.lights := rfl
@[simp] theorem State.putArbiter_link (x : Arbiter) : (s.putArbiter x).link = s.link := rfl
@[simp] theorem State.putArbiter_events (x : Arbiter) : (s.putArbiter x).events = s.events := rfl
@[simp] theorem State.putArbiter_time (x : Arbiter) : (s.putArbiter x).time = s.time := rfl
@[simp] theorem State.putArbiter_store (x : Arbiter) : (s.putArbiter x).store = s.store := rfl
@[simp] theorem State.putArbiter_cfg (x : Arbiter) : (s.putArbiter x).cfg = s.cfg := rfl
@[simp] theorem State.putArbiter_pending (x : Arbiter) : (s.putArbiter x).pending = s.pending := rfl
@[simp] theorem State.putArbiter_resetLow (x : Arbiter) : (s.putArbiter x).resetLow = s.resetLow := rfl

@[simp] theorem State.putCooling_chans (x : Cooling) : (s.putCooling x).chans = s.chans := rfl
@[simp] theorem State.putCooling_bays (x : Cooling) : (s.putCooling x).bays = s.bays := rfl
@[simp] theorem State.putCooling_quarantine (x : Cooling) : (s.putCooling x).quarantine = s.quarantine := rfl
@[simp] theorem State.putCooling_budget (x : Cooling) : (s.putCooling x).budget = s.budget := rfl
@[simp] theorem State.putCooling_arbiter (x : Cooling) : (s.putCooling x).arbiter = s.arbiter := rfl
@[simp] theorem State.putCooling_cooling (x : Cooling) : (s.putCooling x).cooling = x := rfl
@[simp] theorem State.putCooling_lights (x : Cooling) : (s.putCooling x).lights = s.lights := rfl
@[simp] theorem State.putCooling_link (x : Cooling) : (s.putCooling x).link = s.link := rfl
@[simp] theorem State.putCooling_events (x : Cooling) : (s.putCooling x).events = s.events := rfl
@[simp] theorem State.putCooling_time (x : Cooling) : (s.putCooling x).time = s.time := rfl
@[simp] theorem State.putCooling_store (x : Cooling) : (s.putCooling x).store = s.store := rfl
@[simp] theorem State.putCooling_cfg (x : Cooling) : (s.putCooling x).cfg = s.cfg := rfl
@[simp] theorem State.putCooling_pending (x : Cooling) : (s.putCooling x).pending = s.pending := rfl
@[simp] theorem State.putCooling_resetLow (x : Cooling) : (s.putCooling x).resetLow = s.resetLow := rfl

@[simp] theorem State.putLights_chans (x : Lights) : (s.putLights x).chans = s.chans := rfl
@[simp] theorem State.putLights_bays (x : Lights) : (s.putLights x).bays = s.bays := rfl
@[simp] theorem State.putLights_quarantine (x : Lights) : (s.putLights x).quarantine = s.quarantine := rfl
@[simp] theorem State.putLights_budget (x : Lights) : (s.putLights x).budget = s.budget := rfl
@[simp] theorem State.putLights_arbiter (x : Lights) : (s.putLights x).arbiter = s.arbiter := rfl
@[simp] theorem State.putLights_cooling (x : Lights) : (s.putLights x).cooling = s.cooling := rfl
@[simp] theorem State.putLights_lights (x : Lights) : (s.putLights x).lights = x := rfl
@[simp] theorem State.putLights_link (x : Lights) : (s.putLights x).link = s.link := rfl
@[simp] theorem State.putLights_events (x : Lights) : (s.putLights x).events = s.events := rfl
@[simp] theorem State.putLights_time (x : Lights) : (s.putLights x).time = s.time := rfl
@[simp] theorem State.putLights_store (x : Lights) : (s.putLights x).store = s.store := rfl
@[simp] theorem State.putLights_cfg (x : Lights) : (s.putLights x).cfg = s.cfg := rfl
@[simp] theorem State.putLights_pending (x : Lights) : (s.putLights x).pending = s.pending := rfl
@[simp] theorem State.putLights_resetLow (x : Lights) : (s.putLights x).resetLow = s.resetLow := rfl

@[simp] theorem State.putLink_chans (x : Link) : (s.putLink x).chans = s.chans := rfl
@[simp] theorem State.putLink_bays (x : Link) : (s.putLink x).bays = s.bays := rfl
@[simp] theorem State.putLink_quarantine (x : Link) : (s.putLink x).quarantine = s.quarantine := rfl
@[simp] theorem State.putLink_budget (x : Link) : (s.putLink x).budget = s.budget := rfl
@[simp] theorem State.putLink_arbiter (x : Link) : (s.putLink x).arbiter = s.arbiter := rfl
@[simp] theorem State.putLink_cooling (x : Link) : (s.putLink x).cooling = s.cooling := rfl
@[simp] theorem State.putLink_lights (x : Link) : (s.putLink x).lights = s.lights := rfl
@[simp] theorem State.putLink_link (x : Link) : (s.putLink x).link = x := rfl
@[simp] theorem State.putLink_events (x : Link) : (s.putLink x).events = s.events := rfl
@[simp] theorem State.putLink_time (x : Link) : (s.putLink x).time = s.time := rfl
@[simp] theorem State.putLink_store (x : Link) : (s.putLink x).store = s.store := rfl
@[simp] theorem State.putLink_cfg (x : Link) : (s.putLink x).cfg = s.cfg := rfl
@[simp] theorem State.putLink_pending (x : Link) : (s.putLink x).pending = s.pending := rfl
@[simp] theorem State.putLink_resetLow (x : Link) : (s.putLink x).resetLow = s.resetLow := rfl

@[simp] theorem State.putEvents_chans (x : EventQueue) : (s.putEvents x).chans = s.chans := rfl
@[simp] theorem State.putEvents_bays (x : EventQueue) : (s.putEvents x).bays = s.bays := rfl
@[simp] theorem State.putEvents_quarantine (x : EventQueue) : (s.putEvents x).quarantine = s.quarantine := rfl
@[simp] theorem State.putEvents_budget (x : EventQueue) : (s.putEvents x).budget = s.budget := rfl
@[simp] theorem State.putEvents_arbiter (x : EventQueue) : (s.putEvents x).arbiter = s.arbiter := rfl
@[simp] theorem State.putEvents_cooling (x : EventQueue) : (s.putEvents x).cooling = s.cooling := rfl
@[simp] theorem State.putEvents_lights (x : EventQueue) : (s.putEvents x).lights = s.lights := rfl
@[simp] theorem State.putEvents_link (x : EventQueue) : (s.putEvents x).link = s.link := rfl
@[simp] theorem State.putEvents_events (x : EventQueue) : (s.putEvents x).events = x := rfl
@[simp] theorem State.putEvents_time (x : EventQueue) : (s.putEvents x).time = s.time := rfl
@[simp] theorem State.putEvents_store (x : EventQueue) : (s.putEvents x).store = s.store := rfl
@[simp] theorem State.putEvents_cfg (x : EventQueue) : (s.putEvents x).cfg = s.cfg := rfl
@[simp] theorem State.putEvents_pending (x : EventQueue) : (s.putEvents x).pending = s.pending := rfl
@[simp] theorem State.putEvents_resetLow (x : EventQueue) : (s.putEvents x).resetLow = s.resetLow := rfl

@[simp] theorem State.putStore_chans (x : Store) : (s.putStore x).chans = s.chans := rfl
@[simp] theorem State.putStore_bays (x : Store) : (s.putStore x).bays = s.bays := rfl
@[simp] theorem State.putStore_quarantine (x : Store) : (s.putStore x).quarantine = s.quarantine := rfl
@[simp] theorem State.putStore_budget (x : Store) : (s.putStore x).budget = s.budget := rfl
@[simp] theorem State.putStore_arbiter (x : Store) : (s.putStore x).arbiter = s.arbiter := rfl
@[simp] theorem State.putStore_cooling (x : Store) : (s.putStore x).cooling = s.cooling := rfl
@[simp] theorem State.putStore_lights (x : Store) : (s.putStore x).lights = s.lights := rfl
@[simp] theorem State.putStore_link (x : Store) : (s.putStore x).link = s.link := rfl
@[simp] theorem State.putStore_events (x : Store) : (s.putStore x).events = s.events := rfl
@[simp] theorem State.putStore_time (x : Store) : (s.putStore x).time = s.time := rfl
@[simp] theorem State.putStore_store (x : Store) : (s.putStore x).store = x := rfl
@[simp] theorem State.putStore_cfg (x : Store) : (s.putStore x).cfg = s.cfg := rfl
@[simp] theorem State.putStore_pending (x : Store) : (s.putStore x).pending = s.pending := rfl
@[simp] theorem State.putStore_resetLow (x : Store) : (s.putStore x).resetLow = s.resetLow := rfl

@[simp] theorem State.putCfg_chans (x : Settings) : (s.putCfg x).chans = s.chans := rfl
@[simp] theorem State.putCfg_bays (x : Settings) : (s.putCfg x).bays = s.bays := rfl
@[simp] theorem State.putCfg_quarantine (x : Settings) : (s.putCfg x).quarantine = s.quarantine := rfl
@[simp] theorem State.putCfg_budget (x : Settings) : (s.putCfg x).budget = s.budget := rfl
@[simp] theorem State.putCfg_arbiter (x : Settings) : (s.putCfg x).arbiter = s.arbiter := rfl
@[simp] theorem State.putCfg_cooling (x : Settings) : (s.putCfg x).cooling = s.cooling := rfl
@[simp] theorem State.putCfg_lights (x : Settings) : (s.putCfg x).lights = s.lights := rfl
@[simp] theorem State.putCfg_link (x : Settings) : (s.putCfg x).link = s.link := rfl
@[simp] theorem State.putCfg_events (x : Settings) : (s.putCfg x).events = s.events := rfl
@[simp] theorem State.putCfg_time (x : Settings) : (s.putCfg x).time = s.time := rfl
@[simp] theorem State.putCfg_store (x : Settings) : (s.putCfg x).store = s.store := rfl
@[simp] theorem State.putCfg_cfg (x : Settings) : (s.putCfg x).cfg = x := rfl
@[simp] theorem State.putCfg_pending (x : Settings) : (s.putCfg x).pending = s.pending := rfl
@[simp] theorem State.putCfg_resetLow (x : Settings) : (s.putCfg x).resetLow = s.resetLow := rfl

@[simp] theorem State.putReset_chans (x : Bool) : (s.putReset x).chans = s.chans := rfl
@[simp] theorem State.putReset_bays (x : Bool) : (s.putReset x).bays = s.bays := rfl
@[simp] theorem State.putReset_quarantine (x : Bool) : (s.putReset x).quarantine = s.quarantine := rfl
@[simp] theorem State.putReset_budget (x : Bool) : (s.putReset x).budget = s.budget := rfl
@[simp] theorem State.putReset_arbiter (x : Bool) : (s.putReset x).arbiter = s.arbiter := rfl
@[simp] theorem State.putReset_cooling (x : Bool) : (s.putReset x).cooling = s.cooling := rfl
@[simp] theorem State.putReset_lights (x : Bool) : (s.putReset x).lights = s.lights := rfl
@[simp] theorem State.putReset_link (x : Bool) : (s.putReset x).link = s.link := rfl
@[simp] theorem State.putReset_events (x : Bool) : (s.putReset x).events = s.events := rfl
@[simp] theorem State.putReset_time (x : Bool) : (s.putReset x).time = s.time := rfl
@[simp] theorem State.putReset_store (x : Bool) : (s.putReset x).store = s.store := rfl
@[simp] theorem State.putReset_cfg (x : Bool) : (s.putReset x).cfg = s.cfg := rfl
@[simp] theorem State.putReset_pending (x : Bool) : (s.putReset x).pending = s.pending := rfl
@[simp] theorem State.putReset_resetLow (x : Bool) : (s.putReset x).resetLow = x := rfl

@[simp] theorem State.putPending_chans (x : List Instr) : (s.putPending x).chans = s.chans := rfl
@[simp] theorem State.putPending_bays (x : List Instr) : (s.putPending x).bays = s.bays := rfl
@[simp] theorem State.putPending_quarantine (x : List Instr) : (s.putPending x).quarantine = s.quarantine := rfl
@[simp] theorem State.putPending_budget (x : List Instr) : (s.putPending x).budget = s.budget := rfl
@[simp] theorem State.putPending_arbiter (x : List Instr) : (s.putPending x).arbiter = s.arbiter := rfl
@[simp] theorem State.putPending_cooling (x : List Instr) : (s.putPending x).cooling = s.cooling := rfl
@[simp] theorem State.putPending_lights (x : List Instr) : (s.putPending x).lights = s.lights := rfl
@[simp] theorem State.putPending_link (x : List Instr) : (s.putPending x).link = s.link := rfl
@[simp] theorem State.putPending_events (x : List Instr) : (s.putPending x).events = s.events := rfl
@[simp] theorem State.putPending_time (x : List Instr) : (s.putPending x).time = s.time := rfl
@[simp] theorem State.putPending_store (x : List Instr) : (s.putPending x).store = s.store := rfl
@[simp] theorem State.putPending_cfg (x : List Instr) : (s.putPending x).cfg = s.cfg := rfl
@[simp] theorem State.putPending_pending (x : List Instr) : (s.putPending x).pending = x := rfl
@[simp] theorem State.putPending_resetLow (x : List Instr) : (s.putPending x).resetLow = s.resetLow := rfl

/-! ## Updates within a block -/

@[simp] theorem State.toChan_chans (b : Bay) (g : Channel → Channel) : (s.toChan b g).chans = Table.put s.chans b (g (s.chan b)) := rfl
@[simp] theorem State.toChan_bays (b : Bay) (g : Channel → Channel) : (s.toChan b g).bays = s.bays := rfl
@[simp] theorem State.toChan_quarantine (b : Bay) (g : Channel → Channel) : (s.toChan b g).quarantine = s.quarantine := rfl
@[simp] theorem State.toChan_budget (b : Bay) (g : Channel → Channel) : (s.toChan b g).budget = s.budget := rfl
@[simp] theorem State.toChan_arbiter (b : Bay) (g : Channel → Channel) : (s.toChan b g).arbiter = s.arbiter := rfl
@[simp] theorem State.toChan_cooling (b : Bay) (g : Channel → Channel) : (s.toChan b g).cooling = s.cooling := rfl
@[simp] theorem State.toChan_lights (b : Bay) (g : Channel → Channel) : (s.toChan b g).lights = s.lights := rfl
@[simp] theorem State.toChan_link (b : Bay) (g : Channel → Channel) : (s.toChan b g).link = s.link := rfl
@[simp] theorem State.toChan_events (b : Bay) (g : Channel → Channel) : (s.toChan b g).events = s.events := rfl
@[simp] theorem State.toChan_time (b : Bay) (g : Channel → Channel) : (s.toChan b g).time = s.time := rfl
@[simp] theorem State.toChan_store (b : Bay) (g : Channel → Channel) : (s.toChan b g).store = s.store := rfl
@[simp] theorem State.toChan_cfg (b : Bay) (g : Channel → Channel) : (s.toChan b g).cfg = s.cfg := rfl
@[simp] theorem State.toChan_pending (b : Bay) (g : Channel → Channel) : (s.toChan b g).pending = s.pending := rfl
@[simp] theorem State.toChan_resetLow (b : Bay) (g : Channel → Channel) : (s.toChan b g).resetLow = s.resetLow := rfl

@[simp] theorem State.onBay_chans (b : Bay) (g : BayRecord → BayRecord) : (s.onBay b g).chans = s.chans := rfl
@[simp] theorem State.onBay_bays (b : Bay) (g : BayRecord → BayRecord) : (s.onBay b g).bays = Table.put s.bays b (g (s.bay b)) := rfl
@[simp] theorem State.onBay_quarantine (b : Bay) (g : BayRecord → BayRecord) : (s.onBay b g).quarantine = s.quarantine := rfl
@[simp] theorem State.onBay_budget (b : Bay) (g : BayRecord → BayRecord) : (s.onBay b g).budget = s.budget := rfl
@[simp] theorem State.onBay_arbiter (b : Bay) (g : BayRecord → BayRecord) : (s.onBay b g).arbiter = s.arbiter := rfl
@[simp] theorem State.onBay_cooling (b : Bay) (g : BayRecord → BayRecord) : (s.onBay b g).cooling = s.cooling := rfl
@[simp] theorem State.onBay_lights (b : Bay) (g : BayRecord → BayRecord) : (s.onBay b g).lights = s.lights := rfl
@[simp] theorem State.onBay_link (b : Bay) (g : BayRecord → BayRecord) : (s.onBay b g).link = s.link := rfl
@[simp] theorem State.onBay_events (b : Bay) (g : BayRecord → BayRecord) : (s.onBay b g).events = s.events := rfl
@[simp] theorem State.onBay_time (b : Bay) (g : BayRecord → BayRecord) : (s.onBay b g).time = s.time := rfl
@[simp] theorem State.onBay_store (b : Bay) (g : BayRecord → BayRecord) : (s.onBay b g).store = s.store := rfl
@[simp] theorem State.onBay_cfg (b : Bay) (g : BayRecord → BayRecord) : (s.onBay b g).cfg = s.cfg := rfl
@[simp] theorem State.onBay_pending (b : Bay) (g : BayRecord → BayRecord) : (s.onBay b g).pending = s.pending := rfl
@[simp] theorem State.onBay_resetLow (b : Bay) (g : BayRecord → BayRecord) : (s.onBay b g).resetLow = s.resetLow := rfl

@[simp] theorem State.putFan_chans (f : Fan) (x : FanRecord) : (s.putFan f x).chans = s.chans := rfl
@[simp] theorem State.putFan_bays (f : Fan) (x : FanRecord) : (s.putFan f x).bays = s.bays := rfl
@[simp] theorem State.putFan_quarantine (f : Fan) (x : FanRecord) : (s.putFan f x).quarantine = s.quarantine := rfl
@[simp] theorem State.putFan_budget (f : Fan) (x : FanRecord) : (s.putFan f x).budget = s.budget := rfl
@[simp] theorem State.putFan_arbiter (f : Fan) (x : FanRecord) : (s.putFan f x).arbiter = s.arbiter := rfl
@[simp] theorem State.putFan_cooling (f : Fan) (x : FanRecord) : (s.putFan f x).cooling = { s.cooling with fans := Table.put s.cooling.fans f x } := rfl
@[simp] theorem State.putFan_lights (f : Fan) (x : FanRecord) : (s.putFan f x).lights = s.lights := rfl
@[simp] theorem State.putFan_link (f : Fan) (x : FanRecord) : (s.putFan f x).link = s.link := rfl
@[simp] theorem State.putFan_events (f : Fan) (x : FanRecord) : (s.putFan f x).events = s.events := rfl
@[simp] theorem State.putFan_time (f : Fan) (x : FanRecord) : (s.putFan f x).time = s.time := rfl
@[simp] theorem State.putFan_store (f : Fan) (x : FanRecord) : (s.putFan f x).store = s.store := rfl
@[simp] theorem State.putFan_cfg (f : Fan) (x : FanRecord) : (s.putFan f x).cfg = s.cfg := rfl
@[simp] theorem State.putFan_pending (f : Fan) (x : FanRecord) : (s.putFan f x).pending = s.pending := rfl
@[simp] theorem State.putFan_resetLow (f : Fan) (x : FanRecord) : (s.putFan f x).resetLow = s.resetLow := rfl

@[simp] theorem State.putZone_chans (z : Zone) (x : ZoneRecord) : (s.putZone z x).chans = s.chans := rfl
@[simp] theorem State.putZone_bays (z : Zone) (x : ZoneRecord) : (s.putZone z x).bays = s.bays := rfl
@[simp] theorem State.putZone_quarantine (z : Zone) (x : ZoneRecord) : (s.putZone z x).quarantine = s.quarantine := rfl
@[simp] theorem State.putZone_budget (z : Zone) (x : ZoneRecord) : (s.putZone z x).budget = s.budget := rfl
@[simp] theorem State.putZone_arbiter (z : Zone) (x : ZoneRecord) : (s.putZone z x).arbiter = s.arbiter := rfl
@[simp] theorem State.putZone_cooling (z : Zone) (x : ZoneRecord) : (s.putZone z x).cooling = { s.cooling with zones := Table.put s.cooling.zones z.number x } := rfl
@[simp] theorem State.putZone_lights (z : Zone) (x : ZoneRecord) : (s.putZone z x).lights = s.lights := rfl
@[simp] theorem State.putZone_link (z : Zone) (x : ZoneRecord) : (s.putZone z x).link = s.link := rfl
@[simp] theorem State.putZone_events (z : Zone) (x : ZoneRecord) : (s.putZone z x).events = s.events := rfl
@[simp] theorem State.putZone_time (z : Zone) (x : ZoneRecord) : (s.putZone z x).time = s.time := rfl
@[simp] theorem State.putZone_store (z : Zone) (x : ZoneRecord) : (s.putZone z x).store = s.store := rfl
@[simp] theorem State.putZone_cfg (z : Zone) (x : ZoneRecord) : (s.putZone z x).cfg = s.cfg := rfl
@[simp] theorem State.putZone_pending (z : Zone) (x : ZoneRecord) : (s.putZone z x).pending = s.pending := rfl
@[simp] theorem State.putZone_resetLow (z : Zone) (x : ZoneRecord) : (s.putZone z x).resetLow = s.resetLow := rfl

@[simp] theorem State.putBayLights_chans (b : Bay) (x : BayLights) : (s.putBayLights b x).chans = s.chans := rfl
@[simp] theorem State.putBayLights_bays (b : Bay) (x : BayLights) : (s.putBayLights b x).bays = s.bays := rfl
@[simp] theorem State.putBayLights_quarantine (b : Bay) (x : BayLights) : (s.putBayLights b x).quarantine = s.quarantine := rfl
@[simp] theorem State.putBayLights_budget (b : Bay) (x : BayLights) : (s.putBayLights b x).budget = s.budget := rfl
@[simp] theorem State.putBayLights_arbiter (b : Bay) (x : BayLights) : (s.putBayLights b x).arbiter = s.arbiter := rfl
@[simp] theorem State.putBayLights_cooling (b : Bay) (x : BayLights) : (s.putBayLights b x).cooling = s.cooling := rfl
@[simp] theorem State.putBayLights_lights (b : Bay) (x : BayLights) : (s.putBayLights b x).lights = { s.lights with bays := Table.put s.lights.bays b x } := rfl
@[simp] theorem State.putBayLights_link (b : Bay) (x : BayLights) : (s.putBayLights b x).link = s.link := rfl
@[simp] theorem State.putBayLights_events (b : Bay) (x : BayLights) : (s.putBayLights b x).events = s.events := rfl
@[simp] theorem State.putBayLights_time (b : Bay) (x : BayLights) : (s.putBayLights b x).time = s.time := rfl
@[simp] theorem State.putBayLights_store (b : Bay) (x : BayLights) : (s.putBayLights b x).store = s.store := rfl
@[simp] theorem State.putBayLights_cfg (b : Bay) (x : BayLights) : (s.putBayLights b x).cfg = s.cfg := rfl
@[simp] theorem State.putBayLights_pending (b : Bay) (x : BayLights) : (s.putBayLights b x).pending = s.pending := rfl
@[simp] theorem State.putBayLights_resetLow (b : Bay) (x : BayLights) : (s.putBayLights b x).resetLow = s.resetLow := rfl

@[simp] theorem State.setCond_chans (b : Bay) (c : Fin 9) (v : Bool) : (s.setCond b c v).chans = s.chans := rfl
@[simp] theorem State.setCond_bays (b : Bay) (c : Fin 9) (v : Bool) : (s.setCond b c v).bays = s.bays := rfl
@[simp] theorem State.setCond_quarantine (b : Bay) (c : Fin 9) (v : Bool) : (s.setCond b c v).quarantine = s.quarantine := rfl
@[simp] theorem State.setCond_budget (b : Bay) (c : Fin 9) (v : Bool) : (s.setCond b c v).budget = s.budget := rfl
@[simp] theorem State.setCond_arbiter (b : Bay) (c : Fin 9) (v : Bool) : (s.setCond b c v).arbiter = s.arbiter := rfl
@[simp] theorem State.setCond_cooling (b : Bay) (c : Fin 9) (v : Bool) : (s.setCond b c v).cooling = s.cooling := rfl
@[simp] theorem State.setCond_lights (b : Bay) (c : Fin 9) (v : Bool) : (s.setCond b c v).lights = { s.lights with bays := Table.put s.lights.bays b { s.bayLights b with conditions := Table.put (s.bayLights b).conditions c v } } := rfl
@[simp] theorem State.setCond_link (b : Bay) (c : Fin 9) (v : Bool) : (s.setCond b c v).link = s.link := rfl
@[simp] theorem State.setCond_events (b : Bay) (c : Fin 9) (v : Bool) : (s.setCond b c v).events = s.events := rfl
@[simp] theorem State.setCond_time (b : Bay) (c : Fin 9) (v : Bool) : (s.setCond b c v).time = s.time := rfl
@[simp] theorem State.setCond_store (b : Bay) (c : Fin 9) (v : Bool) : (s.setCond b c v).store = s.store := rfl
@[simp] theorem State.setCond_cfg (b : Bay) (c : Fin 9) (v : Bool) : (s.setCond b c v).cfg = s.cfg := rfl
@[simp] theorem State.setCond_pending (b : Bay) (c : Fin 9) (v : Bool) : (s.setCond b c v).pending = s.pending := rfl
@[simp] theorem State.setCond_resetLow (b : Bay) (c : Fin 9) (v : Bool) : (s.setCond b c v).resetLow = s.resetLow := rfl

@[simp] theorem State.driveAct_chans (b : Bay) : (s.driveAct b).chans = s.chans := rfl
@[simp] theorem State.driveAct_bays (b : Bay) : (s.driveAct b).bays = s.bays := rfl
@[simp] theorem State.driveAct_quarantine (b : Bay) : (s.driveAct b).quarantine = s.quarantine := rfl
@[simp] theorem State.driveAct_budget (b : Bay) : (s.driveAct b).budget = s.budget := rfl
@[simp] theorem State.driveAct_arbiter (b : Bay) : (s.driveAct b).arbiter = s.arbiter := rfl
@[simp] theorem State.driveAct_cooling (b : Bay) : (s.driveAct b).cooling = s.cooling := rfl
@[simp] theorem State.driveAct_lights (b : Bay) : (s.driveAct b).lights = { s.lights with bays := Table.put s.lights.bays b { s.bayLights b with lact := s.actLevel b } } := rfl
@[simp] theorem State.driveAct_link (b : Bay) : (s.driveAct b).link = s.link := rfl
@[simp] theorem State.driveAct_events (b : Bay) : (s.driveAct b).events = s.events := rfl
@[simp] theorem State.driveAct_time (b : Bay) : (s.driveAct b).time = s.time := rfl
@[simp] theorem State.driveAct_store (b : Bay) : (s.driveAct b).store = s.store := rfl
@[simp] theorem State.driveAct_cfg (b : Bay) : (s.driveAct b).cfg = s.cfg := rfl
@[simp] theorem State.driveAct_pending (b : Bay) : (s.driveAct b).pending = s.pending := rfl
@[simp] theorem State.driveAct_resetLow (b : Bay) : (s.driveAct b).resetLow = s.resetLow := rfl

/-! ## A millisecond -/

@[simp] theorem State.tick_quarantine : s.tick.quarantine = s.quarantine := rfl
@[simp] theorem State.tick_events : s.tick.events = s.events := rfl
@[simp] theorem State.tick_image : s.tick.store.image = s.store.image := rfl
@[simp] theorem State.tick_writing : s.tick.store.writing = s.store.writing.map SettingsWrite.tick := rfl
@[simp] theorem State.tick_defaulted : s.tick.store.defaulted = s.store.defaulted := rfl
@[simp] theorem State.tick_reloadAwaited : s.tick.store.reloadAwaited = s.store.reloadAwaited := rfl
@[simp] theorem State.tick_cfg : s.tick.cfg = s.cfg := rfl
@[simp] theorem State.tick_pending : s.tick.pending = s.pending := rfl
@[simp] theorem State.tick_resetLow : s.tick.resetLow = s.resetLow := rfl
@[simp] theorem State.tick_time : s.tick.time = s.time + 1 := rfl

/-! ## An entry removed, and idling -/

@[simp] theorem Arbiter.without_queue (a : Arbiter) (b : Bay) : (a.without b).queue = withoutEntry a.queue b := rfl
@[simp] theorem Arbiter.without_grants (a : Arbiter) (b : Bay) : (a.without b).grants = a.grants := rfl
@[simp] theorem Arbiter.without_declines (a : Arbiter) (b : Bay) : (a.without b).declines = a.declines := rfl
@[simp] theorem Arbiter.without_lastPass (a : Arbiter) (b : Bay) : (a.without b).lastPass = a.lastPass := rfl
@[simp] theorem Arbiter.without_stagger (a : Arbiter) (b : Bay) : (a.without b).stagger = a.stagger := rfl
@[simp] theorem Arbiter.without_spinCount (a : Arbiter) (b : Bay) : (a.without b).spinCount = a.spinCount := rfl
@[simp] theorem Arbiter.without_pendingMark (a : Arbiter) (b : Bay) : (a.without b).pendingMark = a.pendingMark := rfl
@[simp] theorem Arbiter.without_startUpHold (a : Arbiter) (b : Bay) : (a.without b).startUpHold = a.startUpHold := rfl
@[simp] theorem Arbiter.without_grantRecord (a : Arbiter) (b : Bay) :
    (a.without b).grantRecord = a.grantRecord.map (fun g => g.without b) := rfl

/-- What an arming and a power-off leave of the two watches and of the rest of the channel (R7, R10). -/
@[simp] theorem Channel.armRise_riseWatch (c : Channel) (level : Nat) : (c.armRise level).riseWatch = some level := rfl
@[simp] theorem Channel.armRise_fallWatch (c : Channel) (level : Nat) : (c.armRise level).fallWatch = c.fallWatch := rfl
@[simp] theorem Channel.armFall_riseWatch (c : Channel) (level : Nat) : (c.armFall level).riseWatch = c.riseWatch := rfl
@[simp] theorem Channel.armFall_fallWatch (c : Channel) (level : Nat) : (c.armFall level).fallWatch = some level := rfl
@[simp] theorem Channel.powerOff_riseWatch (c : Channel) : c.powerOff.riseWatch = none := rfl
@[simp] theorem Channel.powerOff_fallWatch (c : Channel) : c.powerOff.fallWatch = none := rfl
theorem Channel.powerOff_eq (c : Channel) : c.powerOff = { c.openSwitch with riseWatch := none, fallWatch := none } := rfl

/-- What becomes of a reply at its latest moment: it begins while HUNTING, or lapses while RECEIVING (R170). -/
theorem State.replyDue_cases {t : State} (h : s.replyDue = some t) : ∃ p, s.link.reply = .pending p ∧ p.latest = 0 ∧
    ((s.link.receiver = .hunting ∧ p.earliest = 0 ∧ t = s.beginReply p) ∨
      ((∃ taken gap, s.link.receiver = .receiving taken gap) ∧ t = s.lapse p)) := by
  unfold State.replyDue at h
  split at h
  · rename_i p hp hr
    split at h
    · exact ⟨p, hp, ‹_ ∧ _›.2, .inl ⟨hr, ‹_ ∧ _›.1, (Option.some.inj h).symm⟩⟩
    · cases h
  · rename_i p taken gap hp hr
    split at h
    · exact ⟨p, hp, ‹_›, .inr ⟨⟨taken, gap, hr⟩, (Option.some.inj h).symm⟩⟩
    · cases h
  · cases h

/-- What idling does: RESET is released, a due settings write completes, a reply at its latest moment begins or lapses
(`State.replyDue_cases`), or a millisecond passes. -/
theorem State.idle_cases : (s.resetLow = true ∧ s.idle = s.putReset false) ∨
    (s.resetLow = false ∧ ∃ w, s.store.writing = some w ∧ w.left = 0 ∧ s.idle = s.writeCompletes w.items) ∨
    (s.resetLow = false ∧ (∀ w, s.store.writing = some w → w.left ≠ 0) ∧
      (s.replyDue = some s.idle ∨ (s.replyDue = none ∧ s.idle = s.tick))) := by
  have hl : s.replyDue = some s.passLink ∨ (s.replyDue = none ∧ s.passLink = s.tick) := by
    unfold State.passLink
    cases s.replyDue <;> simp
  unfold State.idle State.pass
  split
  · exact .inl ⟨‹_›, rfl⟩
  · have hr : s.resetLow = false := by simpa using ‹¬ s.resetLow = true›
    split
    · rename_i h
      exact .inr (.inr ⟨hr, by simp [h], hl⟩)
    · rename_i w h
      split
      · exact .inr (.inl ⟨hr, w, h, ‹_›, rfl⟩)
      · refine .inr (.inr ⟨hr, ?_, hl⟩)
        rintro v e
        rw [h] at e; cases e
        assumption

/-! ## Reading one record after an update -/

@[simp] theorem State.chan_putChan (b c : Bay) (x : Channel) : (s.putChan b x).chan c = if b = c then x else s.chan c := by
  simp [State.chan]

@[simp] theorem State.bay_putBay (b c : Bay) (x : BayRecord) : (s.putBay b x).bay c = if b = c then x else s.bay c := by
  simp [State.bay]

@[simp] theorem State.chan_toChan (b c : Bay) (g : Channel → Channel) :
    (s.toChan b g).chan c = if b = c then g (s.chan b) else s.chan c := by
  simp [State.toChan]

@[simp] theorem State.bay_onBay (b c : Bay) (g : BayRecord → BayRecord) :
    (s.onBay b g).bay c = if b = c then g (s.bay b) else s.bay c := by
  simp [State.onBay]

@[simp] theorem State.fan_putFan (f g : Fan) (x : FanRecord) : (s.putFan f x).fan g = if f = g then x else s.fan g := by
  simp [State.fan]

theorem Zone.number_inj {y z : Zone} (h : y.number = z.number) : y = z := by
  cases y <;> cases z <;> first | rfl | exact absurd h (by decide)

@[simp] theorem State.zone_putZone (z y : Zone) (x : ZoneRecord) : (s.putZone z x).zone y = if z = y then x else s.zone y := by
  have : z.number = y.number ↔ z = y := ⟨Zone.number_inj, fun h => h ▸ rfl⟩
  simp [State.zone, this]

@[simp] theorem State.bayLights_putBayLights (b c : Bay) (x : BayLights) :
    (s.putBayLights b x).bayLights c = if b = c then x else s.bayLights c := by
  simp [State.bayLights]

@[simp] theorem State.chan_putBay (b : Bay) (x : BayRecord) (i : Bay) : (s.putBay b x).chan i = s.chan i := rfl
@[simp] theorem State.chan_putQuarantine (x : List QuarantineEntry) (i : Bay) : (s.putQuarantine x).chan i = s.chan i := rfl
@[simp] theorem State.chan_putBudget (x : Budget) (i : Bay) : (s.putBudget x).chan i = s.chan i := rfl
@[simp] theorem State.chan_putArbiter (x : Arbiter) (i : Bay) : (s.putArbiter x).chan i = s.chan i := rfl
@[simp] theorem State.chan_putCooling (x : Cooling) (i : Bay) : (s.putCooling x).chan i = s.chan i := rfl
@[simp] theorem State.chan_putLights (x : Lights) (i : Bay) : (s.putLights x).chan i = s.chan i := rfl
@[simp] theorem State.chan_putLink (x : Link) (i : Bay) : (s.putLink x).chan i = s.chan i := rfl
@[simp] theorem State.chan_putEvents (x : EventQueue) (i : Bay) : (s.putEvents x).chan i = s.chan i := rfl
@[simp] theorem State.chan_putStore (x : Store) (i : Bay) : (s.putStore x).chan i = s.chan i := rfl
@[simp] theorem State.chan_putCfg (x : Settings) (i : Bay) : (s.putCfg x).chan i = s.chan i := rfl
@[simp] theorem State.chan_putPending (x : List Instr) (i : Bay) : (s.putPending x).chan i = s.chan i := rfl
@[simp] theorem State.chan_putReset (x : Bool) (i : Bay) : (s.putReset x).chan i = s.chan i := rfl

@[simp] theorem State.bay_putChan (b : Bay) (x : Channel) (i : Bay) : (s.putChan b x).bay i = s.bay i := rfl
@[simp] theorem State.bay_putQuarantine (x : List QuarantineEntry) (i : Bay) : (s.putQuarantine x).bay i = s.bay i := rfl
@[simp] theorem State.bay_putBudget (x : Budget) (i : Bay) : (s.putBudget x).bay i = s.bay i := rfl
@[simp] theorem State.bay_putArbiter (x : Arbiter) (i : Bay) : (s.putArbiter x).bay i = s.bay i := rfl
@[simp] theorem State.bay_putCooling (x : Cooling) (i : Bay) : (s.putCooling x).bay i = s.bay i := rfl
@[simp] theorem State.bay_putLights (x : Lights) (i : Bay) : (s.putLights x).bay i = s.bay i := rfl
@[simp] theorem State.bay_putLink (x : Link) (i : Bay) : (s.putLink x).bay i = s.bay i := rfl
@[simp] theorem State.bay_putEvents (x : EventQueue) (i : Bay) : (s.putEvents x).bay i = s.bay i := rfl
@[simp] theorem State.bay_putStore (x : Store) (i : Bay) : (s.putStore x).bay i = s.bay i := rfl
@[simp] theorem State.bay_putCfg (x : Settings) (i : Bay) : (s.putCfg x).bay i = s.bay i := rfl
@[simp] theorem State.bay_putPending (x : List Instr) (i : Bay) : (s.putPending x).bay i = s.bay i := rfl
@[simp] theorem State.bay_putReset (x : Bool) (i : Bay) : (s.putReset x).bay i = s.bay i := rfl

@[simp] theorem State.fan_putChan (b : Bay) (x : Channel) (i : Fan) : (s.putChan b x).fan i = s.fan i := rfl
@[simp] theorem State.fan_putBay (b : Bay) (x : BayRecord) (i : Fan) : (s.putBay b x).fan i = s.fan i := rfl
@[simp] theorem State.fan_putQuarantine (x : List QuarantineEntry) (i : Fan) : (s.putQuarantine x).fan i = s.fan i := rfl
@[simp] theorem State.fan_putBudget (x : Budget) (i : Fan) : (s.putBudget x).fan i = s.fan i := rfl
@[simp] theorem State.fan_putArbiter (x : Arbiter) (i : Fan) : (s.putArbiter x).fan i = s.fan i := rfl
@[simp] theorem State.fan_putLights (x : Lights) (i : Fan) : (s.putLights x).fan i = s.fan i := rfl
@[simp] theorem State.fan_putLink (x : Link) (i : Fan) : (s.putLink x).fan i = s.fan i := rfl
@[simp] theorem State.fan_putEvents (x : EventQueue) (i : Fan) : (s.putEvents x).fan i = s.fan i := rfl
@[simp] theorem State.fan_putStore (x : Store) (i : Fan) : (s.putStore x).fan i = s.fan i := rfl
@[simp] theorem State.fan_putCfg (x : Settings) (i : Fan) : (s.putCfg x).fan i = s.fan i := rfl
@[simp] theorem State.fan_putPending (x : List Instr) (i : Fan) : (s.putPending x).fan i = s.fan i := rfl
@[simp] theorem State.fan_putReset (x : Bool) (i : Fan) : (s.putReset x).fan i = s.fan i := rfl

@[simp] theorem State.zone_putChan (b : Bay) (x : Channel) (i : Zone) : (s.putChan b x).zone i = s.zone i := rfl
@[simp] theorem State.zone_putBay (b : Bay) (x : BayRecord) (i : Zone) : (s.putBay b x).zone i = s.zone i := rfl
@[simp] theorem State.zone_putQuarantine (x : List QuarantineEntry) (i : Zone) : (s.putQuarantine x).zone i = s.zone i := rfl
@[simp] theorem State.zone_putBudget (x : Budget) (i : Zone) : (s.putBudget x).zone i = s.zone i := rfl
@[simp] theorem State.zone_putArbiter (x : Arbiter) (i : Zone) : (s.putArbiter x).zone i = s.zone i := rfl
@[simp] theorem State.zone_putLights (x : Lights) (i : Zone) : (s.putLights x).zone i = s.zone i := rfl
@[simp] theorem State.zone_putLink (x : Link) (i : Zone) : (s.putLink x).zone i = s.zone i := rfl
@[simp] theorem State.zone_putEvents (x : EventQueue) (i : Zone) : (s.putEvents x).zone i = s.zone i := rfl
@[simp] theorem State.zone_putStore (x : Store) (i : Zone) : (s.putStore x).zone i = s.zone i := rfl
@[simp] theorem State.zone_putCfg (x : Settings) (i : Zone) : (s.putCfg x).zone i = s.zone i := rfl
@[simp] theorem State.zone_putPending (x : List Instr) (i : Zone) : (s.putPending x).zone i = s.zone i := rfl
@[simp] theorem State.zone_putReset (x : Bool) (i : Zone) : (s.putReset x).zone i = s.zone i := rfl

@[simp] theorem State.bayLights_putChan (b : Bay) (x : Channel) (i : Bay) : (s.putChan b x).bayLights i = s.bayLights i := rfl
@[simp] theorem State.bayLights_putBay (b : Bay) (x : BayRecord) (i : Bay) : (s.putBay b x).bayLights i = s.bayLights i := rfl
@[simp] theorem State.bayLights_putQuarantine (x : List QuarantineEntry) (i : Bay) : (s.putQuarantine x).bayLights i = s.bayLights i := rfl
@[simp] theorem State.bayLights_putBudget (x : Budget) (i : Bay) : (s.putBudget x).bayLights i = s.bayLights i := rfl
@[simp] theorem State.bayLights_putArbiter (x : Arbiter) (i : Bay) : (s.putArbiter x).bayLights i = s.bayLights i := rfl
@[simp] theorem State.bayLights_putCooling (x : Cooling) (i : Bay) : (s.putCooling x).bayLights i = s.bayLights i := rfl
@[simp] theorem State.bayLights_putLink (x : Link) (i : Bay) : (s.putLink x).bayLights i = s.bayLights i := rfl
@[simp] theorem State.bayLights_putEvents (x : EventQueue) (i : Bay) : (s.putEvents x).bayLights i = s.bayLights i := rfl
@[simp] theorem State.bayLights_putStore (x : Store) (i : Bay) : (s.putStore x).bayLights i = s.bayLights i := rfl
@[simp] theorem State.bayLights_putCfg (x : Settings) (i : Bay) : (s.putCfg x).bayLights i = s.bayLights i := rfl
@[simp] theorem State.bayLights_putPending (x : List Instr) (i : Bay) : (s.putPending x).bayLights i = s.bayLights i := rfl
@[simp] theorem State.bayLights_putReset (x : Bool) (i : Bay) : (s.putReset x).bayLights i = s.bayLights i := rfl

@[simp] theorem State.bay_toChan (b : Bay) (g : Channel → Channel) (i : Bay) : (s.toChan b g).bay i = s.bay i := rfl
@[simp] theorem State.bay_putFan (f : Fan) (x : FanRecord) (i : Bay) : (s.putFan f x).bay i = s.bay i := rfl
@[simp] theorem State.bay_putZone (z : Zone) (x : ZoneRecord) (i : Bay) : (s.putZone z x).bay i = s.bay i := rfl
@[simp] theorem State.bay_putBayLights (b : Bay) (x : BayLights) (i : Bay) : (s.putBayLights b x).bay i = s.bay i := rfl
@[simp] theorem State.bay_setCond (b : Bay) (c : Fin 9) (v : Bool) (i : Bay) : (s.setCond b c v).bay i = s.bay i := rfl
@[simp] theorem State.bay_driveAct (b : Bay) (i : Bay) : (s.driveAct b).bay i = s.bay i := rfl
@[simp] theorem State.chan_onBay (b : Bay) (g : BayRecord → BayRecord) (i : Bay) : (s.onBay b g).chan i = s.chan i := rfl
@[simp] theorem State.chan_putFan (f : Fan) (x : FanRecord) (i : Bay) : (s.putFan f x).chan i = s.chan i := rfl
@[simp] theorem State.chan_putZone (z : Zone) (x : ZoneRecord) (i : Bay) : (s.putZone z x).chan i = s.chan i := rfl
@[simp] theorem State.chan_putBayLights (b : Bay) (x : BayLights) (i : Bay) : (s.putBayLights b x).chan i = s.chan i := rfl
@[simp] theorem State.chan_setCond (b : Bay) (c : Fin 9) (v : Bool) (i : Bay) : (s.setCond b c v).chan i = s.chan i := rfl
@[simp] theorem State.chan_driveAct (b : Bay) (i : Bay) : (s.driveAct b).chan i = s.chan i := rfl
@[simp] theorem State.fan_toChan (b : Bay) (g : Channel → Channel) (i : Fan) : (s.toChan b g).fan i = s.fan i := rfl
@[simp] theorem State.fan_onBay (b : Bay) (g : BayRecord → BayRecord) (i : Fan) : (s.onBay b g).fan i = s.fan i := rfl
@[simp] theorem State.fan_putZone (z : Zone) (x : ZoneRecord) (i : Fan) : (s.putZone z x).fan i = s.fan i := rfl
@[simp] theorem State.fan_putBayLights (b : Bay) (x : BayLights) (i : Fan) : (s.putBayLights b x).fan i = s.fan i := rfl
@[simp] theorem State.fan_setCond (b : Bay) (c : Fin 9) (v : Bool) (i : Fan) : (s.setCond b c v).fan i = s.fan i := rfl
@[simp] theorem State.fan_driveAct (b : Bay) (i : Fan) : (s.driveAct b).fan i = s.fan i := rfl
@[simp] theorem State.zone_toChan (b : Bay) (g : Channel → Channel) (i : Zone) : (s.toChan b g).zone i = s.zone i := rfl
@[simp] theorem State.zone_onBay (b : Bay) (g : BayRecord → BayRecord) (i : Zone) : (s.onBay b g).zone i = s.zone i := rfl
@[simp] theorem State.zone_putFan (f : Fan) (x : FanRecord) (i : Zone) : (s.putFan f x).zone i = s.zone i := rfl
@[simp] theorem State.zone_putBayLights (b : Bay) (x : BayLights) (i : Zone) : (s.putBayLights b x).zone i = s.zone i := rfl
@[simp] theorem State.zone_setCond (b : Bay) (c : Fin 9) (v : Bool) (i : Zone) : (s.setCond b c v).zone i = s.zone i := rfl
@[simp] theorem State.zone_driveAct (b : Bay) (i : Zone) : (s.driveAct b).zone i = s.zone i := rfl
@[simp] theorem State.bayLights_toChan (b : Bay) (g : Channel → Channel) (i : Bay) : (s.toChan b g).bayLights i = s.bayLights i := rfl
@[simp] theorem State.bayLights_onBay (b : Bay) (g : BayRecord → BayRecord) (i : Bay) : (s.onBay b g).bayLights i = s.bayLights i := rfl
@[simp] theorem State.bayLights_putFan (f : Fan) (x : FanRecord) (i : Bay) : (s.putFan f x).bayLights i = s.bayLights i := rfl
@[simp] theorem State.bayLights_putZone (z : Zone) (x : ZoneRecord) (i : Bay) : (s.putZone z x).bayLights i = s.bayLights i := rfl

end Sys2Proof.Machine
end

