-- ==== Sys2Proof/Laws/Frames.lean ====
section
/-! SUPPORT. The fields each shared operation leaves as they are, one lemma per operation and field. -/

namespace Sys2Proof.Machine

/-- A fold over a list keeps what each of its steps keeps. -/
theorem foldl_keeps {σ α β : Type} (P : σ → β) {f : σ → α → σ} (h : ∀ s a, P (f s a) = P s) (l : List α) (s : σ) :
    P (l.foldl f s) = P s := by
  induction l generalizing s with
  | nil => rfl
  | cons a l ih => rw [List.foldl_cons, ih, h]

variable (s : State)

@[simp] theorem State.raise_chans (e : Event) : (s.raise e).chans = s.chans := rfl
@[simp] theorem State.raise_bays (e : Event) : (s.raise e).bays = s.bays := rfl
@[simp] theorem State.raise_quarantine (e : Event) : (s.raise e).quarantine = s.quarantine := rfl
@[simp] theorem State.raise_budget (e : Event) : (s.raise e).budget = s.budget := rfl
@[simp] theorem State.raise_arbiter (e : Event) : (s.raise e).arbiter = s.arbiter := rfl
@[simp] theorem State.raise_cooling (e : Event) : (s.raise e).cooling = s.cooling := rfl
@[simp] theorem State.raise_lights (e : Event) : (s.raise e).lights = s.lights := rfl
@[simp] theorem State.raise_link (e : Event) : (s.raise e).link = s.link := rfl
@[simp] theorem State.raise_time (e : Event) : (s.raise e).time = s.time := rfl
@[simp] theorem State.raise_store (e : Event) : (s.raise e).store = s.store := rfl
@[simp] theorem State.raise_cfg (e : Event) : (s.raise e).cfg = s.cfg := rfl
@[simp] theorem State.raise_pending (e : Event) : (s.raise e).pending = s.pending := rfl
@[simp] theorem State.raise_resetLow (e : Event) : (s.raise e).resetLow = s.resetLow := rfl

@[simp] theorem State.raiseAll_chans (es : List Event) : (s.raiseAll es).chans = s.chans := 
  (foldl_keeps (fun t : State => t.chans) (by intros; simp) _ _).trans (by simp)
@[simp] theorem State.raiseAll_bays (es : List Event) : (s.raiseAll es).bays = s.bays := 
  (foldl_keeps (fun t : State => t.bays) (by intros; simp) _ _).trans (by simp)
@[simp] theorem State.raiseAll_quarantine (es : List Event) : (s.raiseAll es).quarantine = s.quarantine := 
  (foldl_keeps (fun t : State => t.quarantine) (by intros; simp) _ _).trans (by simp)
@[simp] theorem State.raiseAll_budget (es : List Event) : (s.raiseAll es).budget = s.budget := 
  (foldl_keeps (fun t : State => t.budget) (by intros; simp) _ _).trans (by simp)
@[simp] theorem State.raiseAll_arbiter (es : List Event) : (s.raiseAll es).arbiter = s.arbiter := 
  (foldl_keeps (fun t : State => t.arbiter) (by intros; simp) _ _).trans (by simp)
@[simp] theorem State.raiseAll_cooling (es : List Event) : (s.raiseAll es).cooling = s.cooling := 
  (foldl_keeps (fun t : State => t.cooling) (by intros; simp) _ _).trans (by simp)
@[simp] theorem State.raiseAll_lights (es : List Event) : (s.raiseAll es).lights = s.lights := 
  (foldl_keeps (fun t : State => t.lights) (by intros; simp) _ _).trans (by simp)
@[simp] theorem State.raiseAll_link (es : List Event) : (s.raiseAll es).link = s.link := 
  (foldl_keeps (fun t : State => t.link) (by intros; simp) _ _).trans (by simp)
@[simp] theorem State.raiseAll_time (es : List Event) : (s.raiseAll es).time = s.time := 
  (foldl_keeps (fun t : State => t.time) (by intros; simp) _ _).trans (by simp)
@[simp] theorem State.raiseAll_store (es : List Event) : (s.raiseAll es).store = s.store := 
  (foldl_keeps (fun t : State => t.store) (by intros; simp) _ _).trans (by simp)
@[simp] theorem State.raiseAll_cfg (es : List Event) : (s.raiseAll es).cfg = s.cfg := 
  (foldl_keeps (fun t : State => t.cfg) (by intros; simp) _ _).trans (by simp)
@[simp] theorem State.raiseAll_pending (es : List Event) : (s.raiseAll es).pending = s.pending := 
  (foldl_keeps (fun t : State => t.pending) (by intros; simp) _ _).trans (by simp)
@[simp] theorem State.raiseAll_resetLow (es : List Event) : (s.raiseAll es).resetLow = s.resetLow := 
  (foldl_keeps (fun t : State => t.resetLow) (by intros; simp) _ _).trans (by simp)

@[simp] theorem State.lightNotice_chans (b : Bay) : (s.lightNotice b).chans = s.chans := rfl
@[simp] theorem State.lightNotice_bays (b : Bay) : (s.lightNotice b).bays = s.bays := rfl
@[simp] theorem State.lightNotice_quarantine (b : Bay) : (s.lightNotice b).quarantine = s.quarantine := rfl
@[simp] theorem State.lightNotice_budget (b : Bay) : (s.lightNotice b).budget = s.budget := rfl
@[simp] theorem State.lightNotice_arbiter (b : Bay) : (s.lightNotice b).arbiter = s.arbiter := rfl
@[simp] theorem State.lightNotice_cooling (b : Bay) : (s.lightNotice b).cooling = s.cooling := rfl
@[simp] theorem State.lightNotice_link (b : Bay) : (s.lightNotice b).link = s.link := rfl
@[simp] theorem State.lightNotice_events (b : Bay) : (s.lightNotice b).events = s.events := rfl
@[simp] theorem State.lightNotice_time (b : Bay) : (s.lightNotice b).time = s.time := rfl
@[simp] theorem State.lightNotice_store (b : Bay) : (s.lightNotice b).store = s.store := rfl
@[simp] theorem State.lightNotice_cfg (b : Bay) : (s.lightNotice b).cfg = s.cfg := rfl
@[simp] theorem State.lightNotice_pending (b : Bay) : (s.lightNotice b).pending = s.pending := rfl
@[simp] theorem State.lightNotice_resetLow (b : Bay) : (s.lightNotice b).resetLow = s.resetLow := rfl

@[simp] theorem State.trigger_chans : (s.trigger).chans = s.chans := rfl
@[simp] theorem State.trigger_bays : (s.trigger).bays = s.bays := rfl
@[simp] theorem State.trigger_quarantine : (s.trigger).quarantine = s.quarantine := rfl
@[simp] theorem State.trigger_budget : (s.trigger).budget = s.budget := rfl
@[simp] theorem State.trigger_cooling : (s.trigger).cooling = s.cooling := rfl
@[simp] theorem State.trigger_lights : (s.trigger).lights = s.lights := rfl
@[simp] theorem State.trigger_link : (s.trigger).link = s.link := rfl
@[simp] theorem State.trigger_events : (s.trigger).events = s.events := rfl
@[simp] theorem State.trigger_time : (s.trigger).time = s.time := rfl
@[simp] theorem State.trigger_store : (s.trigger).store = s.store := rfl
@[simp] theorem State.trigger_cfg : (s.trigger).cfg = s.cfg := rfl
@[simp] theorem State.trigger_pending : (s.trigger).pending = s.pending := rfl
@[simp] theorem State.trigger_resetLow : (s.trigger).resetLow = s.resetLow := rfl

@[simp] theorem State.triggerIf_chans (c : Bool) : (s.triggerIf c).chans = s.chans := by
  unfold State.triggerIf
  try dsimp only
  repeat' split
  all_goals simp
@[simp] theorem State.triggerIf_bays (c : Bool) : (s.triggerIf c).bays = s.bays := by
  unfold State.triggerIf
  try dsimp only
  repeat' split
  all_goals simp
@[simp] theorem State.triggerIf_quarantine (c : Bool) : (s.triggerIf c).quarantine = s.quarantine := by
  unfold State.triggerIf
  try dsimp only
  repeat' split
  all_goals simp
@[simp] theorem State.triggerIf_budget (c : Bool) : (s.triggerIf c).budget = s.budget := by
  unfold State.triggerIf
  try dsimp only
  repeat' split
  all_goals simp
@[simp] theorem State.triggerIf_cooling (c : Bool) : (s.triggerIf c).cooling = s.cooling := by
  unfold State.triggerIf
  try dsimp only
  repeat' split
  all_goals simp
@[simp] theorem State.triggerIf_lights (c : Bool) : (s.triggerIf c).lights = s.lights := by
  unfold State.triggerIf
  try dsimp only
  repeat' split
  all_goals simp
@[simp] theorem State.triggerIf_link (c : Bool) : (s.triggerIf c).link = s.link := by
  unfold State.triggerIf
  try dsimp only
  repeat' split
  all_goals simp
@[simp] theorem State.triggerIf_events (c : Bool) : (s.triggerIf c).events = s.events := by
  unfold State.triggerIf
  try dsimp only
  repeat' split
  all_goals simp
@[simp] theorem State.triggerIf_time (c : Bool) : (s.triggerIf c).time = s.time := by
  unfold State.triggerIf
  try dsimp only
  repeat' split
  all_goals simp
@[simp] theorem State.triggerIf_store (c : Bool) : (s.triggerIf c).store = s.store := by
  unfold State.triggerIf
  try dsimp only
  repeat' split
  all_goals simp
@[simp] theorem State.triggerIf_cfg (c : Bool) : (s.triggerIf c).cfg = s.cfg := by
  unfold State.triggerIf
  try dsimp only
  repeat' split
  all_goals simp
@[simp] theorem State.triggerIf_pending (c : Bool) : (s.triggerIf c).pending = s.pending := by
  unfold State.triggerIf
  try dsimp only
  repeat' split
  all_goals simp
@[simp] theorem State.triggerIf_resetLow (c : Bool) : (s.triggerIf c).resetLow = s.resetLow := by
  unfold State.triggerIf
  try dsimp only
  repeat' split
  all_goals simp

@[simp] theorem State.joinAt_chans (b : Bay) (k : EntryKind) (time : EventTime) : (s.joinAt b k time).chans = s.chans := rfl
@[simp] theorem State.joinAt_bays (b : Bay) (k : EntryKind) (time : EventTime) : (s.joinAt b k time).bays = s.bays := rfl
@[simp] theorem State.joinAt_quarantine (b : Bay) (k : EntryKind) (time : EventTime) : (s.joinAt b k time).quarantine = s.quarantine := rfl
@[simp] theorem State.joinAt_budget (b : Bay) (k : EntryKind) (time : EventTime) : (s.joinAt b k time).budget = s.budget := rfl
@[simp] theorem State.joinAt_cooling (b : Bay) (k : EntryKind) (time : EventTime) : (s.joinAt b k time).cooling = s.cooling := rfl
@[simp] theorem State.joinAt_lights (b : Bay) (k : EntryKind) (time : EventTime) : (s.joinAt b k time).lights = s.lights := rfl
@[simp] theorem State.joinAt_link (b : Bay) (k : EntryKind) (time : EventTime) : (s.joinAt b k time).link = s.link := rfl
@[simp] theorem State.joinAt_events (b : Bay) (k : EntryKind) (time : EventTime) : (s.joinAt b k time).events = s.events := rfl
@[simp] theorem State.joinAt_time (b : Bay) (k : EntryKind) (time : EventTime) : (s.joinAt b k time).time = s.time := rfl
@[simp] theorem State.joinAt_store (b : Bay) (k : EntryKind) (time : EventTime) : (s.joinAt b k time).store = s.store := rfl
@[simp] theorem State.joinAt_cfg (b : Bay) (k : EntryKind) (time : EventTime) : (s.joinAt b k time).cfg = s.cfg := rfl
@[simp] theorem State.joinAt_pending (b : Bay) (k : EntryKind) (time : EventTime) : (s.joinAt b k time).pending = s.pending := rfl
@[simp] theorem State.joinAt_resetLow (b : Bay) (k : EntryKind) (time : EventTime) : (s.joinAt b k time).resetLow = s.resetLow := rfl

@[simp] theorem State.join_chans (b : Bay) (k : EntryKind) : (s.join b k).chans = s.chans := rfl
@[simp] theorem State.join_bays (b : Bay) (k : EntryKind) : (s.join b k).bays = s.bays := rfl
@[simp] theorem State.join_quarantine (b : Bay) (k : EntryKind) : (s.join b k).quarantine = s.quarantine := rfl
@[simp] theorem State.join_budget (b : Bay) (k : EntryKind) : (s.join b k).budget = s.budget := rfl
@[simp] theorem State.join_cooling (b : Bay) (k : EntryKind) : (s.join b k).cooling = s.cooling := rfl
@[simp] theorem State.join_lights (b : Bay) (k : EntryKind) : (s.join b k).lights = s.lights := rfl
@[simp] theorem State.join_link (b : Bay) (k : EntryKind) : (s.join b k).link = s.link := rfl
@[simp] theorem State.join_events (b : Bay) (k : EntryKind) : (s.join b k).events = s.events := rfl
@[simp] theorem State.join_time (b : Bay) (k : EntryKind) : (s.join b k).time = s.time := rfl
@[simp] theorem State.join_store (b : Bay) (k : EntryKind) : (s.join b k).store = s.store := rfl
@[simp] theorem State.join_cfg (b : Bay) (k : EntryKind) : (s.join b k).cfg = s.cfg := rfl
@[simp] theorem State.join_pending (b : Bay) (k : EntryKind) : (s.join b k).pending = s.pending := rfl
@[simp] theorem State.join_resetLow (b : Bay) (k : EntryKind) : (s.join b k).resetLow = s.resetLow := rfl

@[simp] theorem State.removeEntry_chans (b : Bay) : (s.removeEntry b).chans = s.chans := by
  unfold State.removeEntry
  try dsimp only
  repeat' split
  all_goals simp
@[simp] theorem State.removeEntry_bays (b : Bay) : (s.removeEntry b).bays = s.bays := by
  unfold State.removeEntry
  try dsimp only
  repeat' split
  all_goals simp
@[simp] theorem State.removeEntry_quarantine (b : Bay) : (s.removeEntry b).quarantine = s.quarantine := by
  unfold State.removeEntry
  try dsimp only
  repeat' split
  all_goals simp
@[simp] theorem State.removeEntry_budget (b : Bay) : (s.removeEntry b).budget = s.budget := by
  unfold State.removeEntry
  try dsimp only
  repeat' split
  all_goals simp
@[simp] theorem State.removeEntry_cooling (b : Bay) : (s.removeEntry b).cooling = s.cooling := by
  unfold State.removeEntry
  try dsimp only
  repeat' split
  all_goals simp
@[simp] theorem State.removeEntry_lights (b : Bay) : (s.removeEntry b).lights = s.lights := by
  unfold State.removeEntry
  try dsimp only
  repeat' split
  all_goals simp
@[simp] theorem State.removeEntry_link (b : Bay) : (s.removeEntry b).link = s.link := by
  unfold State.removeEntry
  try dsimp only
  repeat' split
  all_goals simp
@[simp] theorem State.removeEntry_events (b : Bay) : (s.removeEntry b).events = s.events := by
  unfold State.removeEntry
  try dsimp only
  repeat' split
  all_goals simp
@[simp] theorem State.removeEntry_time (b : Bay) : (s.removeEntry b).time = s.time := by
  unfold State.removeEntry
  try dsimp only
  repeat' split
  all_goals simp
@[simp] theorem State.removeEntry_store (b : Bay) : (s.removeEntry b).store = s.store := by
  unfold State.removeEntry
  try dsimp only
  repeat' split
  all_goals simp
@[simp] theorem State.removeEntry_cfg (b : Bay) : (s.removeEntry b).cfg = s.cfg := by
  unfold State.removeEntry
  try dsimp only
  repeat' split
  all_goals simp
@[simp] theorem State.removeEntry_pending (b : Bay) : (s.removeEntry b).pending = s.pending := by
  unfold State.removeEntry
  try dsimp only
  repeat' split
  all_goals simp
@[simp] theorem State.removeEntry_resetLow (b : Bay) : (s.removeEntry b).resetLow = s.resetLow := by
  unfold State.removeEntry
  try dsimp only
  repeat' split
  all_goals simp

@[simp] theorem State.removeEntryIf_chans (c : Bool) (b : Bay) : (s.removeEntryIf c b).chans = s.chans := by
  unfold State.removeEntryIf
  try dsimp only
  repeat' split
  all_goals simp
@[simp] theorem State.removeEntryIf_bays (c : Bool) (b : Bay) : (s.removeEntryIf c b).bays = s.bays := by
  unfold State.removeEntryIf
  try dsimp only
  repeat' split
  all_goals simp
@[simp] theorem State.removeEntryIf_quarantine (c : Bool) (b : Bay) : (s.removeEntryIf c b).quarantine = s.quarantine := by
  unfold State.removeEntryIf
  try dsimp only
  repeat' split
  all_goals simp
@[simp] theorem State.removeEntryIf_budget (c : Bool) (b : Bay) : (s.removeEntryIf c b).budget = s.budget := by
  unfold State.removeEntryIf
  try dsimp only
  repeat' split
  all_goals simp
@[simp] theorem State.removeEntryIf_cooling (c : Bool) (b : Bay) : (s.removeEntryIf c b).cooling = s.cooling := by
  unfold State.removeEntryIf
  try dsimp only
  repeat' split
  all_goals simp
@[simp] theorem State.removeEntryIf_lights (c : Bool) (b : Bay) : (s.removeEntryIf c b).lights = s.lights := by
  unfold State.removeEntryIf
  try dsimp only
  repeat' split
  all_goals simp
@[simp] theorem State.removeEntryIf_link (c : Bool) (b : Bay) : (s.removeEntryIf c b).link = s.link := by
  unfold State.removeEntryIf
  try dsimp only
  repeat' split
  all_goals simp
@[simp] theorem State.removeEntryIf_events (c : Bool) (b : Bay) : (s.removeEntryIf c b).events = s.events := by
  unfold State.removeEntryIf
  try dsimp only
  repeat' split
  all_goals simp
@[simp] theorem State.removeEntryIf_time (c : Bool) (b : Bay) : (s.removeEntryIf c b).time = s.time := by
  unfold State.removeEntryIf
  try dsimp only
  repeat' split
  all_goals simp
@[simp] theorem State.removeEntryIf_store (c : Bool) (b : Bay) : (s.removeEntryIf c b).store = s.store := by
  unfold State.removeEntryIf
  try dsimp only
  repeat' split
  all_goals simp
@[simp] theorem State.removeEntryIf_cfg (c : Bool) (b : Bay) : (s.removeEntryIf c b).cfg = s.cfg := by
  unfold State.removeEntryIf
  try dsimp only
  repeat' split
  all_goals simp
@[simp] theorem State.removeEntryIf_pending (c : Bool) (b : Bay) : (s.removeEntryIf c b).pending = s.pending := by
  unfold State.removeEntryIf
  try dsimp only
  repeat' split
  all_goals simp
@[simp] theorem State.removeEntryIf_resetLow (c : Bool) (b : Bay) : (s.removeEntryIf c b).resetLow = s.resetLow := by
  unfold State.removeEntryIf
  try dsimp only
  repeat' split
  all_goals simp

@[simp] theorem State.grantCarriedOut_chans (g : GrantRecord) : (s.grantCarriedOut g).chans = s.chans := rfl
@[simp] theorem State.grantCarriedOut_bays (g : GrantRecord) : (s.grantCarriedOut g).bays = s.bays := rfl
@[simp] theorem State.grantCarriedOut_quarantine (g : GrantRecord) : (s.grantCarriedOut g).quarantine = s.quarantine := rfl
@[simp] theorem State.grantCarriedOut_budget (g : GrantRecord) : (s.grantCarriedOut g).budget = s.budget := rfl
@[simp] theorem State.grantCarriedOut_cooling (g : GrantRecord) : (s.grantCarriedOut g).cooling = s.cooling := rfl
@[simp] theorem State.grantCarriedOut_lights (g : GrantRecord) : (s.grantCarriedOut g).lights = s.lights := rfl
@[simp] theorem State.grantCarriedOut_link (g : GrantRecord) : (s.grantCarriedOut g).link = s.link := rfl
@[simp] theorem State.grantCarriedOut_events (g : GrantRecord) : (s.grantCarriedOut g).events = s.events := rfl
@[simp] theorem State.grantCarriedOut_time (g : GrantRecord) : (s.grantCarriedOut g).time = s.time := rfl
@[simp] theorem State.grantCarriedOut_store (g : GrantRecord) : (s.grantCarriedOut g).store = s.store := rfl
@[simp] theorem State.grantCarriedOut_cfg (g : GrantRecord) : (s.grantCarriedOut g).cfg = s.cfg := rfl
@[simp] theorem State.grantCarriedOut_pending (g : GrantRecord) : (s.grantCarriedOut g).pending = s.pending := rfl
@[simp] theorem State.grantCarriedOut_resetLow (g : GrantRecord) : (s.grantCarriedOut g).resetLow = s.resetLow := rfl

@[simp] theorem State.declineTaken_chans (d : Decline) : (s.declineTaken d).chans = s.chans := by
  unfold State.declineTaken
  try dsimp only
  repeat' split
  all_goals simp
@[simp] theorem State.declineTaken_bays (d : Decline) : (s.declineTaken d).bays = s.bays := by
  unfold State.declineTaken
  try dsimp only
  repeat' split
  all_goals simp
@[simp] theorem State.declineTaken_quarantine (d : Decline) : (s.declineTaken d).quarantine = s.quarantine := by
  unfold State.declineTaken
  try dsimp only
  repeat' split
  all_goals simp
@[simp] theorem State.declineTaken_budget (d : Decline) : (s.declineTaken d).budget = s.budget := by
  unfold State.declineTaken
  try dsimp only
  repeat' split
  all_goals simp
@[simp] theorem State.declineTaken_cooling (d : Decline) : (s.declineTaken d).cooling = s.cooling := by
  unfold State.declineTaken
  try dsimp only
  repeat' split
  all_goals simp
@[simp] theorem State.declineTaken_lights (d : Decline) : (s.declineTaken d).lights = s.lights := by
  unfold State.declineTaken
  try dsimp only
  repeat' split
  all_goals simp
@[simp] theorem State.declineTaken_link (d : Decline) : (s.declineTaken d).link = s.link := by
  unfold State.declineTaken
  try dsimp only
  repeat' split
  all_goals simp
@[simp] theorem State.declineTaken_events (d : Decline) : (s.declineTaken d).events = s.events := by
  unfold State.declineTaken
  try dsimp only
  repeat' split
  all_goals simp
@[simp] theorem State.declineTaken_time (d : Decline) : (s.declineTaken d).time = s.time := by
  unfold State.declineTaken
  try dsimp only
  repeat' split
  all_goals simp
@[simp] theorem State.declineTaken_store (d : Decline) : (s.declineTaken d).store = s.store := by
  unfold State.declineTaken
  try dsimp only
  repeat' split
  all_goals simp
@[simp] theorem State.declineTaken_cfg (d : Decline) : (s.declineTaken d).cfg = s.cfg := by
  unfold State.declineTaken
  try dsimp only
  repeat' split
  all_goals simp
@[simp] theorem State.declineTaken_pending (d : Decline) : (s.declineTaken d).pending = s.pending := by
  unfold State.declineTaken
  try dsimp only
  repeat' split
  all_goals simp
@[simp] theorem State.declineTaken_resetLow (d : Decline) : (s.declineTaken d).resetLow = s.resetLow := by
  unfold State.declineTaken
  try dsimp only
  repeat' split
  all_goals simp

@[simp] theorem State.answerGrant_chans (b : Bay) (n : BayState) : (s.answerGrant b n).chans = s.chans := by
  unfold State.answerGrant
  try dsimp only
  repeat' split
  all_goals simp
@[simp] theorem State.answerGrant_bays (b : Bay) (n : BayState) : (s.answerGrant b n).bays = s.bays := by
  unfold State.answerGrant
  try dsimp only
  repeat' split
  all_goals simp
@[simp] theorem State.answerGrant_quarantine (b : Bay) (n : BayState) : (s.answerGrant b n).quarantine = s.quarantine := by
  unfold State.answerGrant
  try dsimp only
  repeat' split
  all_goals simp
@[simp] theorem State.answerGrant_budget (b : Bay) (n : BayState) : (s.answerGrant b n).budget = s.budget := by
  unfold State.answerGrant
  try dsimp only
  repeat' split
  all_goals simp
@[simp] theorem State.answerGrant_cooling (b : Bay) (n : BayState) : (s.answerGrant b n).cooling = s.cooling := by
  unfold State.answerGrant
  try dsimp only
  repeat' split
  all_goals simp
@[simp] theorem State.answerGrant_lights (b : Bay) (n : BayState) : (s.answerGrant b n).lights = s.lights := by
  unfold State.answerGrant
  try dsimp only
  repeat' split
  all_goals simp
@[simp] theorem State.answerGrant_link (b : Bay) (n : BayState) : (s.answerGrant b n).link = s.link := by
  unfold State.answerGrant
  try dsimp only
  repeat' split
  all_goals simp
@[simp] theorem State.answerGrant_events (b : Bay) (n : BayState) : (s.answerGrant b n).events = s.events := by
  unfold State.answerGrant
  try dsimp only
  repeat' split
  all_goals simp
@[simp] theorem State.answerGrant_time (b : Bay) (n : BayState) : (s.answerGrant b n).time = s.time := by
  unfold State.answerGrant
  try dsimp only
  repeat' split
  all_goals simp
@[simp] theorem State.answerGrant_store (b : Bay) (n : BayState) : (s.answerGrant b n).store = s.store := by
  unfold State.answerGrant
  try dsimp only
  repeat' split
  all_goals simp
@[simp] theorem State.answerGrant_cfg (b : Bay) (n : BayState) : (s.answerGrant b n).cfg = s.cfg := by
  unfold State.answerGrant
  try dsimp only
  repeat' split
  all_goals simp
@[simp] theorem State.answerGrant_pending (b : Bay) (n : BayState) : (s.answerGrant b n).pending = s.pending := by
  unfold State.answerGrant
  try dsimp only
  repeat' split
  all_goals simp
@[simp] theorem State.answerGrant_resetLow (b : Bay) (n : BayState) : (s.answerGrant b n).resetLow = s.resetLow := by
  unfold State.answerGrant
  try dsimp only
  repeat' split
  all_goals simp

@[simp] theorem State.withFigures_chans : (s.withFigures).chans = s.chans := rfl
@[simp] theorem State.withFigures_bays : (s.withFigures).bays = s.bays := rfl
@[simp] theorem State.withFigures_quarantine : (s.withFigures).quarantine = s.quarantine := rfl
@[simp] theorem State.withFigures_arbiter : (s.withFigures).arbiter = s.arbiter := rfl
@[simp] theorem State.withFigures_cooling : (s.withFigures).cooling = s.cooling := rfl
@[simp] theorem State.withFigures_lights : (s.withFigures).lights = s.lights := rfl
@[simp] theorem State.withFigures_link : (s.withFigures).link = s.link := rfl
@[simp] theorem State.withFigures_events : (s.withFigures).events = s.events := rfl
@[simp] theorem State.withFigures_time : (s.withFigures).time = s.time := rfl
@[simp] theorem State.withFigures_store : (s.withFigures).store = s.store := rfl
@[simp] theorem State.withFigures_cfg : (s.withFigures).cfg = s.cfg := rfl
@[simp] theorem State.withFigures_pending : (s.withFigures).pending = s.pending := rfl
@[simp] theorem State.withFigures_resetLow : (s.withFigures).resetLow = s.resetLow := rfl

@[simp] theorem State.budgetState_chans : (s.budgetState).chans = s.chans := by
  unfold State.budgetState
  try dsimp only
  repeat' split
  all_goals simp
@[simp] theorem State.budgetState_bays : (s.budgetState).bays = s.bays := by
  unfold State.budgetState
  try dsimp only
  repeat' split
  all_goals simp
@[simp] theorem State.budgetState_quarantine : (s.budgetState).quarantine = s.quarantine := by
  unfold State.budgetState
  try dsimp only
  repeat' split
  all_goals simp
@[simp] theorem State.budgetState_arbiter : (s.budgetState).arbiter = s.arbiter := by
  unfold State.budgetState
  try dsimp only
  repeat' split
  all_goals simp
@[simp] theorem State.budgetState_cooling : (s.budgetState).cooling = s.cooling := by
  unfold State.budgetState
  try dsimp only
  repeat' split
  all_goals simp
@[simp] theorem State.budgetState_lights : (s.budgetState).lights = s.lights := by
  unfold State.budgetState
  try dsimp only
  repeat' split
  all_goals simp
@[simp] theorem State.budgetState_link : (s.budgetState).link = s.link := by
  unfold State.budgetState
  try dsimp only
  repeat' split
  all_goals simp
@[simp] theorem State.budgetState_time : (s.budgetState).time = s.time := by
  unfold State.budgetState
  try dsimp only
  repeat' split
  all_goals simp
@[simp] theorem State.budgetState_store : (s.budgetState).store = s.store := by
  unfold State.budgetState
  try dsimp only
  repeat' split
  all_goals simp
@[simp] theorem State.budgetState_cfg : (s.budgetState).cfg = s.cfg := by
  unfold State.budgetState
  try dsimp only
  repeat' split
  all_goals simp
@[simp] theorem State.budgetState_pending : (s.budgetState).pending = s.pending := by
  unfold State.budgetState
  try dsimp only
  repeat' split
  all_goals simp
@[simp] theorem State.budgetState_resetLow : (s.budgetState).resetLow = s.resetLow := by
  unfold State.budgetState
  try dsimp only
  repeat' split
  all_goals simp

@[simp] theorem State.revocationStep_chans : (s.revocationStep).chans = s.chans := by
  unfold State.revocationStep
  try dsimp only
  repeat' split
  all_goals simp
@[simp] theorem State.revocationStep_bays : (s.revocationStep).bays = s.bays := by
  unfold State.revocationStep
  try dsimp only
  repeat' split
  all_goals simp
@[simp] theorem State.revocationStep_quarantine : (s.revocationStep).quarantine = s.quarantine := by
  unfold State.revocationStep
  try dsimp only
  repeat' split
  all_goals simp
@[simp] theorem State.revocationStep_arbiter : (s.revocationStep).arbiter = s.arbiter := by
  unfold State.revocationStep
  try dsimp only
  repeat' split
  all_goals simp
@[simp] theorem State.revocationStep_cooling : (s.revocationStep).cooling = s.cooling := by
  unfold State.revocationStep
  try dsimp only
  repeat' split
  all_goals simp
@[simp] theorem State.revocationStep_lights : (s.revocationStep).lights = s.lights := by
  unfold State.revocationStep
  try dsimp only
  repeat' split
  all_goals simp
@[simp] theorem State.revocationStep_link : (s.revocationStep).link = s.link := by
  unfold State.revocationStep
  try dsimp only
  repeat' split
  all_goals simp
@[simp] theorem State.revocationStep_events : (s.revocationStep).events = s.events := by
  unfold State.revocationStep
  try dsimp only
  repeat' split
  all_goals simp
@[simp] theorem State.revocationStep_time : (s.revocationStep).time = s.time := by
  unfold State.revocationStep
  try dsimp only
  repeat' split
  all_goals simp
@[simp] theorem State.revocationStep_store : (s.revocationStep).store = s.store := by
  unfold State.revocationStep
  try dsimp only
  repeat' split
  all_goals simp
@[simp] theorem State.revocationStep_cfg : (s.revocationStep).cfg = s.cfg := by
  unfold State.revocationStep
  try dsimp only
  repeat' split
  all_goals simp
@[simp] theorem State.revocationStep_pending : (s.revocationStep).pending = s.pending := by
  unfold State.revocationStep
  try dsimp only
  repeat' split
  all_goals simp
@[simp] theorem State.revocationStep_resetLow : (s.revocationStep).resetLow = s.resetLow := by
  unfold State.revocationStep
  try dsimp only
  repeat' split
  all_goals simp

@[simp] theorem State.budgetTriggers_chans (x : Figures) : (s.budgetTriggers x).chans = s.chans := by
  simp [State.budgetTriggers]
@[simp] theorem State.budgetTriggers_bays (x : Figures) : (s.budgetTriggers x).bays = s.bays := by
  simp [State.budgetTriggers]
@[simp] theorem State.budgetTriggers_quarantine (x : Figures) : (s.budgetTriggers x).quarantine = s.quarantine := by
  simp [State.budgetTriggers]
@[simp] theorem State.budgetTriggers_budget (x : Figures) : (s.budgetTriggers x).budget = s.budget := by
  simp [State.budgetTriggers]
@[simp] theorem State.budgetTriggers_cooling (x : Figures) : (s.budgetTriggers x).cooling = s.cooling := by
  simp [State.budgetTriggers]
@[simp] theorem State.budgetTriggers_lights (x : Figures) : (s.budgetTriggers x).lights = s.lights := by
  simp [State.budgetTriggers]
@[simp] theorem State.budgetTriggers_link (x : Figures) : (s.budgetTriggers x).link = s.link := by
  simp [State.budgetTriggers]
@[simp] theorem State.budgetTriggers_events (x : Figures) : (s.budgetTriggers x).events = s.events := by
  simp [State.budgetTriggers]
@[simp] theorem State.budgetTriggers_time (x : Figures) : (s.budgetTriggers x).time = s.time := by
  simp [State.budgetTriggers]
@[simp] theorem State.budgetTriggers_store (x : Figures) : (s.budgetTriggers x).store = s.store := by
  simp [State.budgetTriggers]
@[simp] theorem State.budgetTriggers_cfg (x : Figures) : (s.budgetTriggers x).cfg = s.cfg := by
  simp [State.budgetTriggers]
@[simp] theorem State.budgetTriggers_pending (x : Figures) : (s.budgetTriggers x).pending = s.pending := by
  simp [State.budgetTriggers]
@[simp] theorem State.budgetTriggers_resetLow (x : Figures) : (s.budgetTriggers x).resetLow = s.resetLow := by
  simp [State.budgetTriggers]

@[simp] theorem State.recompute_chans : (s.recompute).chans = s.chans := by
  simp [State.recompute]
@[simp] theorem State.recompute_bays : (s.recompute).bays = s.bays := by
  simp [State.recompute]
@[simp] theorem State.recompute_quarantine : (s.recompute).quarantine = s.quarantine := by
  simp [State.recompute]
@[simp] theorem State.recompute_cooling : (s.recompute).cooling = s.cooling := by
  simp [State.recompute]
@[simp] theorem State.recompute_lights : (s.recompute).lights = s.lights := by
  simp [State.recompute]
@[simp] theorem State.recompute_link : (s.recompute).link = s.link := by
  simp [State.recompute]
@[simp] theorem State.recompute_time : (s.recompute).time = s.time := by
  simp [State.recompute]
@[simp] theorem State.recompute_store : (s.recompute).store = s.store := by
  simp [State.recompute]
@[simp] theorem State.recompute_cfg : (s.recompute).cfg = s.cfg := by
  simp [State.recompute]
@[simp] theorem State.recompute_pending : (s.recompute).pending = s.pending := by
  simp [State.recompute]
@[simp] theorem State.recompute_resetLow : (s.recompute).resetLow = s.resetLow := by
  simp [State.recompute]

@[simp] theorem State.recomputeForSlot_chans (k : Slot) : (s.recomputeForSlot k).chans = s.chans := by
  simp [State.recomputeForSlot]
@[simp] theorem State.recomputeForSlot_bays (k : Slot) : (s.recomputeForSlot k).bays = s.bays := by
  simp [State.recomputeForSlot]
@[simp] theorem State.recomputeForSlot_quarantine (k : Slot) : (s.recomputeForSlot k).quarantine = s.quarantine := by
  simp [State.recomputeForSlot]
@[simp] theorem State.recomputeForSlot_cooling (k : Slot) : (s.recomputeForSlot k).cooling = s.cooling := by
  simp [State.recomputeForSlot]
@[simp] theorem State.recomputeForSlot_lights (k : Slot) : (s.recomputeForSlot k).lights = s.lights := by
  simp [State.recomputeForSlot]
@[simp] theorem State.recomputeForSlot_link (k : Slot) : (s.recomputeForSlot k).link = s.link := by
  simp [State.recomputeForSlot]
@[simp] theorem State.recomputeForSlot_time (k : Slot) : (s.recomputeForSlot k).time = s.time := by
  simp [State.recomputeForSlot]
@[simp] theorem State.recomputeForSlot_store (k : Slot) : (s.recomputeForSlot k).store = s.store := by
  simp [State.recomputeForSlot]
@[simp] theorem State.recomputeForSlot_cfg (k : Slot) : (s.recomputeForSlot k).cfg = s.cfg := by
  simp [State.recomputeForSlot]
@[simp] theorem State.recomputeForSlot_pending (k : Slot) : (s.recomputeForSlot k).pending = s.pending := by
  simp [State.recomputeForSlot]
@[simp] theorem State.recomputeForSlot_resetLow (k : Slot) : (s.recomputeForSlot k).resetLow = s.resetLow := by
  simp [State.recomputeForSlot]

@[simp] theorem State.fanNotice_chans (f : Fan) : (s.fanNotice f).chans = s.chans := by
  simp [State.fanNotice]
@[simp] theorem State.fanNotice_bays (f : Fan) : (s.fanNotice f).bays = s.bays := by
  simp [State.fanNotice]
@[simp] theorem State.fanNotice_quarantine (f : Fan) : (s.fanNotice f).quarantine = s.quarantine := by
  simp [State.fanNotice]
@[simp] theorem State.fanNotice_cooling (f : Fan) : (s.fanNotice f).cooling = s.cooling := by
  simp [State.fanNotice]
@[simp] theorem State.fanNotice_lights (f : Fan) : (s.fanNotice f).lights = s.lights := by
  simp [State.fanNotice]
@[simp] theorem State.fanNotice_link (f : Fan) : (s.fanNotice f).link = s.link := by
  simp [State.fanNotice]
@[simp] theorem State.fanNotice_time (f : Fan) : (s.fanNotice f).time = s.time := by
  simp [State.fanNotice]
@[simp] theorem State.fanNotice_store (f : Fan) : (s.fanNotice f).store = s.store := by
  simp [State.fanNotice]
@[simp] theorem State.fanNotice_cfg (f : Fan) : (s.fanNotice f).cfg = s.cfg := by
  simp [State.fanNotice]
@[simp] theorem State.fanNotice_pending (f : Fan) : (s.fanNotice f).pending = s.pending := by
  simp [State.fanNotice]
@[simp] theorem State.fanNotice_resetLow (f : Fan) : (s.fanNotice f).resetLow = s.resetLow := by
  simp [State.fanNotice]

@[simp] theorem State.budgetNotice_chans (b : Bay) (o n : BayState) : (s.budgetNotice b o n).chans = s.chans := by
  simp [State.budgetNotice]
@[simp] theorem State.budgetNotice_bays (b : Bay) (o n : BayState) : (s.budgetNotice b o n).bays = s.bays := by
  simp [State.budgetNotice]
@[simp] theorem State.budgetNotice_quarantine (b : Bay) (o n : BayState) : (s.budgetNotice b o n).quarantine = s.quarantine := by
  simp [State.budgetNotice]
@[simp] theorem State.budgetNotice_cooling (b : Bay) (o n : BayState) : (s.budgetNotice b o n).cooling = s.cooling := by
  simp [State.budgetNotice]
@[simp] theorem State.budgetNotice_lights (b : Bay) (o n : BayState) : (s.budgetNotice b o n).lights = s.lights := by
  simp [State.budgetNotice]
@[simp] theorem State.budgetNotice_link (b : Bay) (o n : BayState) : (s.budgetNotice b o n).link = s.link := by
  simp [State.budgetNotice]
@[simp] theorem State.budgetNotice_time (b : Bay) (o n : BayState) : (s.budgetNotice b o n).time = s.time := by
  simp [State.budgetNotice]
@[simp] theorem State.budgetNotice_store (b : Bay) (o n : BayState) : (s.budgetNotice b o n).store = s.store := by
  simp [State.budgetNotice]
@[simp] theorem State.budgetNotice_cfg (b : Bay) (o n : BayState) : (s.budgetNotice b o n).cfg = s.cfg := by
  simp [State.budgetNotice]
@[simp] theorem State.budgetNotice_pending (b : Bay) (o n : BayState) : (s.budgetNotice b o n).pending = s.pending := by
  simp [State.budgetNotice]
@[simp] theorem State.budgetNotice_resetLow (b : Bay) (o n : BayState) : (s.budgetNotice b o n).resetLow = s.resetLow := by
  simp [State.budgetNotice]

@[simp] theorem State.commandFan_chans (d : Nat) (f : Fan) : (s.commandFan d f).chans = s.chans := by
  unfold State.commandFan
  try dsimp only
  repeat' split
  all_goals simp
@[simp] theorem State.commandFan_bays (d : Nat) (f : Fan) : (s.commandFan d f).bays = s.bays := by
  unfold State.commandFan
  try dsimp only
  repeat' split
  all_goals simp
@[simp] theorem State.commandFan_quarantine (d : Nat) (f : Fan) : (s.commandFan d f).quarantine = s.quarantine := by
  unfold State.commandFan
  try dsimp only
  repeat' split
  all_goals simp
@[simp] theorem State.commandFan_lights (d : Nat) (f : Fan) : (s.commandFan d f).lights = s.lights := by
  unfold State.commandFan
  try dsimp only
  repeat' split
  all_goals simp
@[simp] theorem State.commandFan_link (d : Nat) (f : Fan) : (s.commandFan d f).link = s.link := by
  unfold State.commandFan
  try dsimp only
  repeat' split
  all_goals simp
@[simp] theorem State.commandFan_time (d : Nat) (f : Fan) : (s.commandFan d f).time = s.time := by
  unfold State.commandFan
  try dsimp only
  repeat' split
  all_goals simp
@[simp] theorem State.commandFan_store (d : Nat) (f : Fan) : (s.commandFan d f).store = s.store := by
  unfold State.commandFan
  try dsimp only
  repeat' split
  all_goals simp
@[simp] theorem State.commandFan_cfg (d : Nat) (f : Fan) : (s.commandFan d f).cfg = s.cfg := by
  unfold State.commandFan
  try dsimp only
  repeat' split
  all_goals simp
@[simp] theorem State.commandFan_pending (d : Nat) (f : Fan) : (s.commandFan d f).pending = s.pending := by
  unfold State.commandFan
  try dsimp only
  repeat' split
  all_goals simp
@[simp] theorem State.commandFan_resetLow (d : Nat) (f : Fan) : (s.commandFan d f).resetLow = s.resetLow := by
  unfold State.commandFan
  try dsimp only
  repeat' split
  all_goals simp

@[simp] theorem State.setZoneDuty_chans (z : Zone) (d : Nat) : (s.setZoneDuty z d).chans = s.chans := 
  (foldl_keeps (fun t : State => t.chans) (by intros; simp) _ _).trans (by simp)
@[simp] theorem State.setZoneDuty_bays (z : Zone) (d : Nat) : (s.setZoneDuty z d).bays = s.bays := 
  (foldl_keeps (fun t : State => t.bays) (by intros; simp) _ _).trans (by simp)
@[simp] theorem State.setZoneDuty_quarantine (z : Zone) (d : Nat) : (s.setZoneDuty z d).quarantine = s.quarantine := 
  (foldl_keeps (fun t : State => t.quarantine) (by intros; simp) _ _).trans (by simp)
@[simp] theorem State.setZoneDuty_lights (z : Zone) (d : Nat) : (s.setZoneDuty z d).lights = s.lights := 
  (foldl_keeps (fun t : State => t.lights) (by intros; simp) _ _).trans (by simp)
@[simp] theorem State.setZoneDuty_link (z : Zone) (d : Nat) : (s.setZoneDuty z d).link = s.link := 
  (foldl_keeps (fun t : State => t.link) (by intros; simp) _ _).trans (by simp)
@[simp] theorem State.setZoneDuty_time (z : Zone) (d : Nat) : (s.setZoneDuty z d).time = s.time := 
  (foldl_keeps (fun t : State => t.time) (by intros; simp) _ _).trans (by simp)
@[simp] theorem State.setZoneDuty_store (z : Zone) (d : Nat) : (s.setZoneDuty z d).store = s.store := 
  (foldl_keeps (fun t : State => t.store) (by intros; simp) _ _).trans (by simp)
@[simp] theorem State.setZoneDuty_cfg (z : Zone) (d : Nat) : (s.setZoneDuty z d).cfg = s.cfg := 
  (foldl_keeps (fun t : State => t.cfg) (by intros; simp) _ _).trans (by simp)
@[simp] theorem State.setZoneDuty_pending (z : Zone) (d : Nat) : (s.setZoneDuty z d).pending = s.pending := 
  (foldl_keeps (fun t : State => t.pending) (by intros; simp) _ _).trans (by simp)
@[simp] theorem State.setZoneDuty_resetLow (z : Zone) (d : Nat) : (s.setZoneDuty z d).resetLow = s.resetLow := 
  (foldl_keeps (fun t : State => t.resetLow) (by intros; simp) _ _).trans (by simp)

@[simp] theorem State.retarget_chans (a : Bool) (z : Zone) : (s.retarget a z).chans = s.chans := by
  unfold State.retarget
  try dsimp only
  repeat' split
  all_goals simp
@[simp] theorem State.retarget_bays (a : Bool) (z : Zone) : (s.retarget a z).bays = s.bays := by
  unfold State.retarget
  try dsimp only
  repeat' split
  all_goals simp
@[simp] theorem State.retarget_quarantine (a : Bool) (z : Zone) : (s.retarget a z).quarantine = s.quarantine := by
  unfold State.retarget
  try dsimp only
  repeat' split
  all_goals simp
@[simp] theorem State.retarget_lights (a : Bool) (z : Zone) : (s.retarget a z).lights = s.lights := by
  unfold State.retarget
  try dsimp only
  repeat' split
  all_goals simp
@[simp] theorem State.retarget_link (a : Bool) (z : Zone) : (s.retarget a z).link = s.link := by
  unfold State.retarget
  try dsimp only
  repeat' split
  all_goals simp
@[simp] theorem State.retarget_time (a : Bool) (z : Zone) : (s.retarget a z).time = s.time := by
  unfold State.retarget
  try dsimp only
  repeat' split
  all_goals simp
@[simp] theorem State.retarget_store (a : Bool) (z : Zone) : (s.retarget a z).store = s.store := by
  unfold State.retarget
  try dsimp only
  repeat' split
  all_goals simp
@[simp] theorem State.retarget_cfg (a : Bool) (z : Zone) : (s.retarget a z).cfg = s.cfg := by
  unfold State.retarget
  try dsimp only
  repeat' split
  all_goals simp
@[simp] theorem State.retarget_pending (a : Bool) (z : Zone) : (s.retarget a z).pending = s.pending := by
  unfold State.retarget
  try dsimp only
  repeat' split
  all_goals simp
@[simp] theorem State.retarget_resetLow (a : Bool) (z : Zone) : (s.retarget a z).resetLow = s.resetLow := by
  unfold State.retarget
  try dsimp only
  repeat' split
  all_goals simp

@[simp] theorem State.judgeZone_chans (z : Zone) : (s.judgeZone z).chans = s.chans := by
  unfold State.judgeZone
  try dsimp only
  repeat' split
  all_goals simp
@[simp] theorem State.judgeZone_bays (z : Zone) : (s.judgeZone z).bays = s.bays := by
  unfold State.judgeZone
  try dsimp only
  repeat' split
  all_goals simp
@[simp] theorem State.judgeZone_quarantine (z : Zone) : (s.judgeZone z).quarantine = s.quarantine := by
  unfold State.judgeZone
  try dsimp only
  repeat' split
  all_goals simp
@[simp] theorem State.judgeZone_budget (z : Zone) : (s.judgeZone z).budget = s.budget := by
  unfold State.judgeZone
  try dsimp only
  repeat' split
  all_goals simp
@[simp] theorem State.judgeZone_lights (z : Zone) : (s.judgeZone z).lights = s.lights := by
  unfold State.judgeZone
  try dsimp only
  repeat' split
  all_goals simp
@[simp] theorem State.judgeZone_link (z : Zone) : (s.judgeZone z).link = s.link := by
  unfold State.judgeZone
  try dsimp only
  repeat' split
  all_goals simp
@[simp] theorem State.judgeZone_time (z : Zone) : (s.judgeZone z).time = s.time := by
  unfold State.judgeZone
  try dsimp only
  repeat' split
  all_goals simp
@[simp] theorem State.judgeZone_store (z : Zone) : (s.judgeZone z).store = s.store := by
  unfold State.judgeZone
  try dsimp only
  repeat' split
  all_goals simp
@[simp] theorem State.judgeZone_cfg (z : Zone) : (s.judgeZone z).cfg = s.cfg := by
  unfold State.judgeZone
  try dsimp only
  repeat' split
  all_goals simp
@[simp] theorem State.judgeZone_pending (z : Zone) : (s.judgeZone z).pending = s.pending := by
  unfold State.judgeZone
  try dsimp only
  repeat' split
  all_goals simp
@[simp] theorem State.judgeZone_resetLow (z : Zone) : (s.judgeZone z).resetLow = s.resetLow := by
  unfold State.judgeZone
  try dsimp only
  repeat' split
  all_goals simp

@[simp] theorem State.reviewZone_chans (z : Zone) : (s.reviewZone z).chans = s.chans := by
  simp [State.reviewZone]
@[simp] theorem State.reviewZone_bays (z : Zone) : (s.reviewZone z).bays = s.bays := by
  simp [State.reviewZone]
@[simp] theorem State.reviewZone_quarantine (z : Zone) : (s.reviewZone z).quarantine = s.quarantine := by
  simp [State.reviewZone]
@[simp] theorem State.reviewZone_lights (z : Zone) : (s.reviewZone z).lights = s.lights := by
  simp [State.reviewZone]
@[simp] theorem State.reviewZone_link (z : Zone) : (s.reviewZone z).link = s.link := by
  simp [State.reviewZone]
@[simp] theorem State.reviewZone_time (z : Zone) : (s.reviewZone z).time = s.time := by
  simp [State.reviewZone]
@[simp] theorem State.reviewZone_store (z : Zone) : (s.reviewZone z).store = s.store := by
  simp [State.reviewZone]
@[simp] theorem State.reviewZone_cfg (z : Zone) : (s.reviewZone z).cfg = s.cfg := by
  simp [State.reviewZone]
@[simp] theorem State.reviewZone_pending (z : Zone) : (s.reviewZone z).pending = s.pending := by
  simp [State.reviewZone]
@[simp] theorem State.reviewZone_resetLow (z : Zone) : (s.reviewZone z).resetLow = s.resetLow := by
  simp [State.reviewZone]

@[simp] theorem State.reviewZones_chans (zs : List Zone) : (s.reviewZones zs).chans = s.chans := 
  (foldl_keeps (fun t : State => t.chans) (by intros; simp) _ _).trans (by simp)
@[simp] theorem State.reviewZones_bays (zs : List Zone) : (s.reviewZones zs).bays = s.bays := 
  (foldl_keeps (fun t : State => t.bays) (by intros; simp) _ _).trans (by simp)
@[simp] theorem State.reviewZones_quarantine (zs : List Zone) : (s.reviewZones zs).quarantine = s.quarantine := 
  (foldl_keeps (fun t : State => t.quarantine) (by intros; simp) _ _).trans (by simp)
@[simp] theorem State.reviewZones_lights (zs : List Zone) : (s.reviewZones zs).lights = s.lights := 
  (foldl_keeps (fun t : State => t.lights) (by intros; simp) _ _).trans (by simp)
@[simp] theorem State.reviewZones_link (zs : List Zone) : (s.reviewZones zs).link = s.link := 
  (foldl_keeps (fun t : State => t.link) (by intros; simp) _ _).trans (by simp)
@[simp] theorem State.reviewZones_time (zs : List Zone) : (s.reviewZones zs).time = s.time := 
  (foldl_keeps (fun t : State => t.time) (by intros; simp) _ _).trans (by simp)
@[simp] theorem State.reviewZones_store (zs : List Zone) : (s.reviewZones zs).store = s.store := 
  (foldl_keeps (fun t : State => t.store) (by intros; simp) _ _).trans (by simp)
@[simp] theorem State.reviewZones_cfg (zs : List Zone) : (s.reviewZones zs).cfg = s.cfg := 
  (foldl_keeps (fun t : State => t.cfg) (by intros; simp) _ _).trans (by simp)
@[simp] theorem State.reviewZones_pending (zs : List Zone) : (s.reviewZones zs).pending = s.pending := 
  (foldl_keeps (fun t : State => t.pending) (by intros; simp) _ _).trans (by simp)
@[simp] theorem State.reviewZones_resetLow (zs : List Zone) : (s.reviewZones zs).resetLow = s.resetLow := 
  (foldl_keeps (fun t : State => t.resetLow) (by intros; simp) _ _).trans (by simp)

@[simp] theorem State.coolingNotice_chans (b : Bay) : (s.coolingNotice b).chans = s.chans := by
  simp [State.coolingNotice]
@[simp] theorem State.coolingNotice_bays (b : Bay) : (s.coolingNotice b).bays = s.bays := by
  simp [State.coolingNotice]
@[simp] theorem State.coolingNotice_quarantine (b : Bay) : (s.coolingNotice b).quarantine = s.quarantine := by
  simp [State.coolingNotice]
@[simp] theorem State.coolingNotice_lights (b : Bay) : (s.coolingNotice b).lights = s.lights := by
  simp [State.coolingNotice]
@[simp] theorem State.coolingNotice_link (b : Bay) : (s.coolingNotice b).link = s.link := by
  simp [State.coolingNotice]
@[simp] theorem State.coolingNotice_time (b : Bay) : (s.coolingNotice b).time = s.time := by
  simp [State.coolingNotice]
@[simp] theorem State.coolingNotice_store (b : Bay) : (s.coolingNotice b).store = s.store := by
  simp [State.coolingNotice]
@[simp] theorem State.coolingNotice_cfg (b : Bay) : (s.coolingNotice b).cfg = s.cfg := by
  simp [State.coolingNotice]
@[simp] theorem State.coolingNotice_pending (b : Bay) : (s.coolingNotice b).pending = s.pending := by
  simp [State.coolingNotice]
@[simp] theorem State.coolingNotice_resetLow (b : Bay) : (s.coolingNotice b).resetLow = s.resetLow := by
  simp [State.coolingNotice]

@[simp] theorem State.zoneNotice_chans (y z : Zone) : (s.zoneNotice y z).chans = s.chans := by
  simp [State.zoneNotice]
@[simp] theorem State.zoneNotice_bays (y z : Zone) : (s.zoneNotice y z).bays = s.bays := by
  simp [State.zoneNotice]
@[simp] theorem State.zoneNotice_quarantine (y z : Zone) : (s.zoneNotice y z).quarantine = s.quarantine := by
  simp [State.zoneNotice]
@[simp] theorem State.zoneNotice_lights (y z : Zone) : (s.zoneNotice y z).lights = s.lights := by
  simp [State.zoneNotice]
@[simp] theorem State.zoneNotice_link (y z : Zone) : (s.zoneNotice y z).link = s.link := by
  simp [State.zoneNotice]
@[simp] theorem State.zoneNotice_time (y z : Zone) : (s.zoneNotice y z).time = s.time := by
  simp [State.zoneNotice]
@[simp] theorem State.zoneNotice_store (y z : Zone) : (s.zoneNotice y z).store = s.store := by
  simp [State.zoneNotice]
@[simp] theorem State.zoneNotice_cfg (y z : Zone) : (s.zoneNotice y z).cfg = s.cfg := by
  simp [State.zoneNotice]
@[simp] theorem State.zoneNotice_pending (y z : Zone) : (s.zoneNotice y z).pending = s.pending := by
  simp [State.zoneNotice]
@[simp] theorem State.zoneNotice_resetLow (y z : Zone) : (s.zoneNotice y z).resetLow = s.resetLow := by
  simp [State.zoneNotice]

@[simp] theorem State.stateNotice_chans (b : Bay) (o n : BayState) : (s.stateNotice b o n).chans = s.chans := by
  simp [State.stateNotice]
@[simp] theorem State.stateNotice_bays (b : Bay) (o n : BayState) : (s.stateNotice b o n).bays = s.bays := by
  simp [State.stateNotice]
@[simp] theorem State.stateNotice_quarantine (b : Bay) (o n : BayState) : (s.stateNotice b o n).quarantine = s.quarantine := by
  simp [State.stateNotice]
@[simp] theorem State.stateNotice_link (b : Bay) (o n : BayState) : (s.stateNotice b o n).link = s.link := by
  simp [State.stateNotice]
@[simp] theorem State.stateNotice_time (b : Bay) (o n : BayState) : (s.stateNotice b o n).time = s.time := by
  simp [State.stateNotice]
@[simp] theorem State.stateNotice_store (b : Bay) (o n : BayState) : (s.stateNotice b o n).store = s.store := by
  simp [State.stateNotice]
@[simp] theorem State.stateNotice_cfg (b : Bay) (o n : BayState) : (s.stateNotice b o n).cfg = s.cfg := by
  simp [State.stateNotice]
@[simp] theorem State.stateNotice_pending (b : Bay) (o n : BayState) : (s.stateNotice b o n).pending = s.pending := by
  simp [State.stateNotice]
@[simp] theorem State.stateNotice_resetLow (b : Bay) (o n : BayState) : (s.stateNotice b o n).resetLow = s.resetLow := by
  simp [State.stateNotice]

@[simp] theorem State.move_chans (b : Bay) (n : BayState) (t : Option Nat) (es : List Event) : (s.move b n t es).chans = s.chans := by
  simp [State.move]
@[simp] theorem State.move_quarantine (b : Bay) (n : BayState) (t : Option Nat) (es : List Event) : (s.move b n t es).quarantine = s.quarantine := by
  simp [State.move]
@[simp] theorem State.move_link (b : Bay) (n : BayState) (t : Option Nat) (es : List Event) : (s.move b n t es).link = s.link := by
  simp [State.move]
@[simp] theorem State.move_time (b : Bay) (n : BayState) (t : Option Nat) (es : List Event) : (s.move b n t es).time = s.time := by
  simp [State.move]
@[simp] theorem State.move_store (b : Bay) (n : BayState) (t : Option Nat) (es : List Event) : (s.move b n t es).store = s.store := by
  simp [State.move]
@[simp] theorem State.move_cfg (b : Bay) (n : BayState) (t : Option Nat) (es : List Event) : (s.move b n t es).cfg = s.cfg := by
  simp [State.move]
@[simp] theorem State.move_pending (b : Bay) (n : BayState) (t : Option Nat) (es : List Event) : (s.move b n t es).pending = s.pending := by
  simp [State.move]
@[simp] theorem State.move_resetLow (b : Bay) (n : BayState) (t : Option Nat) (es : List Event) : (s.move b n t es).resetLow = s.resetLow := by
  simp [State.move]

@[simp] theorem State.select_chans (b : Bay) : (s.select b).chans = s.chans := by
  simp [State.select]
@[simp] theorem State.select_quarantine (b : Bay) : (s.select b).quarantine = s.quarantine := by
  simp [State.select]
@[simp] theorem State.select_budget (b : Bay) : (s.select b).budget = s.budget := by
  simp [State.select]
@[simp] theorem State.select_arbiter (b : Bay) : (s.select b).arbiter = s.arbiter := by
  simp [State.select]
@[simp] theorem State.select_cooling (b : Bay) : (s.select b).cooling = s.cooling := by
  simp [State.select]
@[simp] theorem State.select_lights (b : Bay) : (s.select b).lights = s.lights := by
  simp [State.select]
@[simp] theorem State.select_link (b : Bay) : (s.select b).link = s.link := by
  simp [State.select]
@[simp] theorem State.select_time (b : Bay) : (s.select b).time = s.time := by
  simp [State.select]
@[simp] theorem State.select_store (b : Bay) : (s.select b).store = s.store := by
  simp [State.select]
@[simp] theorem State.select_cfg (b : Bay) : (s.select b).cfg = s.cfg := by
  simp [State.select]
@[simp] theorem State.select_pending (b : Bay) : (s.select b).pending = s.pending := by
  simp [State.select]
@[simp] theorem State.select_resetLow (b : Bay) : (s.select b).resetLow = s.resetLow := by
  simp [State.select]

@[simp] theorem State.reselect_chans (l : List BayState) : (s.reselect l).chans = s.chans := 
  foldl_keeps (fun t : State => t.chans) (by intros; split <;> simp) _ _
@[simp] theorem State.reselect_quarantine (l : List BayState) : (s.reselect l).quarantine = s.quarantine := 
  foldl_keeps (fun t : State => t.quarantine) (by intros; split <;> simp) _ _
@[simp] theorem State.reselect_budget (l : List BayState) : (s.reselect l).budget = s.budget := 
  foldl_keeps (fun t : State => t.budget) (by intros; split <;> simp) _ _
@[simp] theorem State.reselect_arbiter (l : List BayState) : (s.reselect l).arbiter = s.arbiter := 
  foldl_keeps (fun t : State => t.arbiter) (by intros; split <;> simp) _ _
@[simp] theorem State.reselect_cooling (l : List BayState) : (s.reselect l).cooling = s.cooling := 
  foldl_keeps (fun t : State => t.cooling) (by intros; split <;> simp) _ _
@[simp] theorem State.reselect_lights (l : List BayState) : (s.reselect l).lights = s.lights := 
  foldl_keeps (fun t : State => t.lights) (by intros; split <;> simp) _ _
@[simp] theorem State.reselect_link (l : List BayState) : (s.reselect l).link = s.link := 
  foldl_keeps (fun t : State => t.link) (by intros; split <;> simp) _ _
@[simp] theorem State.reselect_time (l : List BayState) : (s.reselect l).time = s.time := 
  foldl_keeps (fun t : State => t.time) (by intros; split <;> simp) _ _
@[simp] theorem State.reselect_store (l : List BayState) : (s.reselect l).store = s.store := 
  foldl_keeps (fun t : State => t.store) (by intros; split <;> simp) _ _
@[simp] theorem State.reselect_cfg (l : List BayState) : (s.reselect l).cfg = s.cfg := 
  foldl_keeps (fun t : State => t.cfg) (by intros; split <;> simp) _ _
@[simp] theorem State.reselect_pending (l : List BayState) : (s.reselect l).pending = s.pending := 
  foldl_keeps (fun t : State => t.pending) (by intros; split <;> simp) _ _
@[simp] theorem State.reselect_resetLow (l : List BayState) : (s.reselect l).resetLow = s.resetLow := 
  foldl_keeps (fun t : State => t.resetLow) (by intros; split <;> simp) _ _

@[simp] theorem State.quarantineBay_chans (b : Bay) : (s.quarantineBay b).chans = s.chans := by
  simp [State.quarantineBay]
@[simp] theorem State.quarantineBay_bays (b : Bay) : (s.quarantineBay b).bays = s.bays := by
  simp [State.quarantineBay]
@[simp] theorem State.quarantineBay_budget (b : Bay) : (s.quarantineBay b).budget = s.budget := by
  simp [State.quarantineBay]
@[simp] theorem State.quarantineBay_arbiter (b : Bay) : (s.quarantineBay b).arbiter = s.arbiter := by
  simp [State.quarantineBay]
@[simp] theorem State.quarantineBay_cooling (b : Bay) : (s.quarantineBay b).cooling = s.cooling := by
  simp [State.quarantineBay]
@[simp] theorem State.quarantineBay_link (b : Bay) : (s.quarantineBay b).link = s.link := by
  simp [State.quarantineBay]
@[simp] theorem State.quarantineBay_time (b : Bay) : (s.quarantineBay b).time = s.time := by
  simp [State.quarantineBay]
@[simp] theorem State.quarantineBay_store (b : Bay) : (s.quarantineBay b).store = s.store := by
  simp [State.quarantineBay]
@[simp] theorem State.quarantineBay_cfg (b : Bay) : (s.quarantineBay b).cfg = s.cfg := by
  simp [State.quarantineBay]
@[simp] theorem State.quarantineBay_pending (b : Bay) : (s.quarantineBay b).pending = s.pending := by
  simp [State.quarantineBay]
@[simp] theorem State.quarantineBay_resetLow (b : Bay) : (s.quarantineBay b).resetLow = s.resetLow := by
  simp [State.quarantineBay]

@[simp] theorem State.unquarantine_chans (b : Bay) : (s.unquarantine b).chans = s.chans := by
  unfold State.unquarantine
  try dsimp only
  repeat' split
  all_goals simp
@[simp] theorem State.unquarantine_bays (b : Bay) : (s.unquarantine b).bays = s.bays := by
  unfold State.unquarantine
  try dsimp only
  repeat' split
  all_goals simp
@[simp] theorem State.unquarantine_budget (b : Bay) : (s.unquarantine b).budget = s.budget := by
  unfold State.unquarantine
  try dsimp only
  repeat' split
  all_goals simp
@[simp] theorem State.unquarantine_arbiter (b : Bay) : (s.unquarantine b).arbiter = s.arbiter := by
  unfold State.unquarantine
  try dsimp only
  repeat' split
  all_goals simp
@[simp] theorem State.unquarantine_cooling (b : Bay) : (s.unquarantine b).cooling = s.cooling := by
  unfold State.unquarantine
  try dsimp only
  repeat' split
  all_goals simp
@[simp] theorem State.unquarantine_link (b : Bay) : (s.unquarantine b).link = s.link := by
  unfold State.unquarantine
  try dsimp only
  repeat' split
  all_goals simp
@[simp] theorem State.unquarantine_events (b : Bay) : (s.unquarantine b).events = s.events := by
  unfold State.unquarantine
  try dsimp only
  repeat' split
  all_goals simp
@[simp] theorem State.unquarantine_time (b : Bay) : (s.unquarantine b).time = s.time := by
  unfold State.unquarantine
  try dsimp only
  repeat' split
  all_goals simp
@[simp] theorem State.unquarantine_store (b : Bay) : (s.unquarantine b).store = s.store := by
  unfold State.unquarantine
  try dsimp only
  repeat' split
  all_goals simp
@[simp] theorem State.unquarantine_cfg (b : Bay) : (s.unquarantine b).cfg = s.cfg := by
  unfold State.unquarantine
  try dsimp only
  repeat' split
  all_goals simp
@[simp] theorem State.unquarantine_pending (b : Bay) : (s.unquarantine b).pending = s.pending := by
  unfold State.unquarantine
  try dsimp only
  repeat' split
  all_goals simp
@[simp] theorem State.unquarantine_resetLow (b : Bay) : (s.unquarantine b).resetLow = s.resetLow := by
  unfold State.unquarantine
  try dsimp only
  repeat' split
  all_goals simp

@[simp] theorem State.setRemoval_chans (b : Bay) (v : Bool) : (s.setRemoval b v).chans = s.chans := by
  simp [State.setRemoval]
@[simp] theorem State.setRemoval_quarantine (b : Bay) (v : Bool) : (s.setRemoval b v).quarantine = s.quarantine := by
  simp [State.setRemoval]
@[simp] theorem State.setRemoval_budget (b : Bay) (v : Bool) : (s.setRemoval b v).budget = s.budget := by
  simp [State.setRemoval]
@[simp] theorem State.setRemoval_arbiter (b : Bay) (v : Bool) : (s.setRemoval b v).arbiter = s.arbiter := by
  simp [State.setRemoval]
@[simp] theorem State.setRemoval_cooling (b : Bay) (v : Bool) : (s.setRemoval b v).cooling = s.cooling := by
  simp [State.setRemoval]
@[simp] theorem State.setRemoval_link (b : Bay) (v : Bool) : (s.setRemoval b v).link = s.link := by
  simp [State.setRemoval]
@[simp] theorem State.setRemoval_events (b : Bay) (v : Bool) : (s.setRemoval b v).events = s.events := by
  simp [State.setRemoval]
@[simp] theorem State.setRemoval_time (b : Bay) (v : Bool) : (s.setRemoval b v).time = s.time := by
  simp [State.setRemoval]
@[simp] theorem State.setRemoval_store (b : Bay) (v : Bool) : (s.setRemoval b v).store = s.store := by
  simp [State.setRemoval]
@[simp] theorem State.setRemoval_cfg (b : Bay) (v : Bool) : (s.setRemoval b v).cfg = s.cfg := by
  simp [State.setRemoval]
@[simp] theorem State.setRemoval_pending (b : Bay) (v : Bool) : (s.setRemoval b v).pending = s.pending := by
  simp [State.setRemoval]
@[simp] theorem State.setRemoval_resetLow (b : Bay) (v : Bool) : (s.setRemoval b v).resetLow = s.resetLow := by
  simp [State.setRemoval]

@[simp] theorem State.enterQueued_chans (b : Bay) : (s.enterQueued b).chans = s.chans := by
  simp [State.enterQueued]
@[simp] theorem State.enterQueued_quarantine (b : Bay) : (s.enterQueued b).quarantine = s.quarantine := by
  simp [State.enterQueued]
@[simp] theorem State.enterQueued_link (b : Bay) : (s.enterQueued b).link = s.link := by
  simp [State.enterQueued]
@[simp] theorem State.enterQueued_time (b : Bay) : (s.enterQueued b).time = s.time := by
  simp [State.enterQueued]
@[simp] theorem State.enterQueued_store (b : Bay) : (s.enterQueued b).store = s.store := by
  simp [State.enterQueued]
@[simp] theorem State.enterQueued_cfg (b : Bay) : (s.enterQueued b).cfg = s.cfg := by
  simp [State.enterQueued]
@[simp] theorem State.enterQueued_pending (b : Bay) : (s.enterQueued b).pending = s.pending := by
  simp [State.enterQueued]
@[simp] theorem State.enterQueued_resetLow (b : Bay) : (s.enterQueued b).resetLow = s.resetLow := by
  simp [State.enterQueued]

@[simp] theorem State.enterSpinning_quarantine (b : Bay) (es : List Event) : (s.enterSpinning b es).quarantine = s.quarantine := by
  simp [State.enterSpinning]
@[simp] theorem State.enterSpinning_link (b : Bay) (es : List Event) : (s.enterSpinning b es).link = s.link := by
  simp [State.enterSpinning]
@[simp] theorem State.enterSpinning_time (b : Bay) (es : List Event) : (s.enterSpinning b es).time = s.time := by
  simp [State.enterSpinning]
@[simp] theorem State.enterSpinning_store (b : Bay) (es : List Event) : (s.enterSpinning b es).store = s.store := by
  simp [State.enterSpinning]
@[simp] theorem State.enterSpinning_cfg (b : Bay) (es : List Event) : (s.enterSpinning b es).cfg = s.cfg := by
  simp [State.enterSpinning]
@[simp] theorem State.enterSpinning_pending (b : Bay) (es : List Event) : (s.enterSpinning b es).pending = s.pending := by
  simp [State.enterSpinning]
@[simp] theorem State.enterSpinning_resetLow (b : Bay) (es : List Event) : (s.enterSpinning b es).resetLow = s.resetLow := by
  simp [State.enterSpinning]

@[simp] theorem State.discardReport_chans (b : Bay) : (s.discardReport b).chans = s.chans := by
  unfold State.discardReport
  try dsimp only
  repeat' split
  all_goals simp
@[simp] theorem State.discardReport_bays (b : Bay) : (s.discardReport b).bays = s.bays := by
  unfold State.discardReport
  try dsimp only
  repeat' split
  all_goals simp
@[simp] theorem State.discardReport_quarantine (b : Bay) : (s.discardReport b).quarantine = s.quarantine := by
  unfold State.discardReport
  try dsimp only
  repeat' split
  all_goals simp
@[simp] theorem State.discardReport_lights (b : Bay) : (s.discardReport b).lights = s.lights := by
  unfold State.discardReport
  try dsimp only
  repeat' split
  all_goals simp
@[simp] theorem State.discardReport_link (b : Bay) : (s.discardReport b).link = s.link := by
  unfold State.discardReport
  try dsimp only
  repeat' split
  all_goals simp
@[simp] theorem State.discardReport_time (b : Bay) : (s.discardReport b).time = s.time := by
  unfold State.discardReport
  try dsimp only
  repeat' split
  all_goals simp
@[simp] theorem State.discardReport_store (b : Bay) : (s.discardReport b).store = s.store := by
  unfold State.discardReport
  try dsimp only
  repeat' split
  all_goals simp
@[simp] theorem State.discardReport_cfg (b : Bay) : (s.discardReport b).cfg = s.cfg := by
  unfold State.discardReport
  try dsimp only
  repeat' split
  all_goals simp
@[simp] theorem State.discardReport_pending (b : Bay) : (s.discardReport b).pending = s.pending := by
  unfold State.discardReport
  try dsimp only
  repeat' split
  all_goals simp
@[simp] theorem State.discardReport_resetLow (b : Bay) : (s.discardReport b).resetLow = s.resetLow := by
  unfold State.discardReport
  try dsimp only
  repeat' split
  all_goals simp

@[simp] theorem State.enterEmpty_chans (b : Bay) : (s.enterEmpty b).chans = s.chans := by
  simp [State.enterEmpty, clearedAtEmpty]
@[simp] theorem State.enterEmpty_link (b : Bay) : (s.enterEmpty b).link = s.link := by
  simp [State.enterEmpty, clearedAtEmpty]
@[simp] theorem State.enterEmpty_time (b : Bay) : (s.enterEmpty b).time = s.time := by
  simp [State.enterEmpty, clearedAtEmpty]
@[simp] theorem State.enterEmpty_store (b : Bay) : (s.enterEmpty b).store = s.store := by
  simp [State.enterEmpty, clearedAtEmpty]
@[simp] theorem State.enterEmpty_cfg (b : Bay) : (s.enterEmpty b).cfg = s.cfg := by
  simp [State.enterEmpty, clearedAtEmpty]
@[simp] theorem State.enterEmpty_pending (b : Bay) : (s.enterEmpty b).pending = s.pending := by
  simp [State.enterEmpty, clearedAtEmpty]
@[simp] theorem State.enterEmpty_resetLow (b : Bay) : (s.enterEmpty b).resetLow = s.resetLow := by
  simp [State.enterEmpty, clearedAtEmpty]

@[simp] theorem State.extract_chans (b : Bay) : (s.extract b).chans = Table.put s.chans b (s.chan b).powerOff := by
  simp [State.extract]
@[simp] theorem State.extract_quarantine (b : Bay) : (s.extract b).quarantine = s.quarantine := by
  simp [State.extract]
@[simp] theorem State.extract_link (b : Bay) : (s.extract b).link = s.link := by
  simp [State.extract]
@[simp] theorem State.extract_time (b : Bay) : (s.extract b).time = s.time := by
  simp [State.extract]
@[simp] theorem State.extract_store (b : Bay) : (s.extract b).store = s.store := by
  simp [State.extract]
@[simp] theorem State.extract_cfg (b : Bay) : (s.extract b).cfg = s.cfg := by
  simp [State.extract]
@[simp] theorem State.extract_pending (b : Bay) : (s.extract b).pending = s.pending := by
  simp [State.extract]
@[simp] theorem State.extract_resetLow (b : Bay) : (s.extract b).resetLow = s.resetLow := by
  simp [State.extract]

@[simp] theorem State.spinSucceeds_chans (b : Bay) :
    (s.spinSucceeds b).chans = Table.put s.chans b ((s.chan b).disarm .both) := by
  simp [State.spinSucceeds]
@[simp] theorem State.spinSucceeds_quarantine (b : Bay) : (s.spinSucceeds b).quarantine = s.quarantine := by
  simp [State.spinSucceeds]
@[simp] theorem State.spinSucceeds_link (b : Bay) : (s.spinSucceeds b).link = s.link := by
  simp [State.spinSucceeds]
@[simp] theorem State.spinSucceeds_time (b : Bay) : (s.spinSucceeds b).time = s.time := by
  simp [State.spinSucceeds]
@[simp] theorem State.spinSucceeds_store (b : Bay) : (s.spinSucceeds b).store = s.store := by
  simp [State.spinSucceeds]
@[simp] theorem State.spinSucceeds_cfg (b : Bay) : (s.spinSucceeds b).cfg = s.cfg := by
  simp [State.spinSucceeds]
@[simp] theorem State.spinSucceeds_pending (b : Bay) : (s.spinSucceeds b).pending = s.pending := by
  simp [State.spinSucceeds]
@[simp] theorem State.spinSucceeds_resetLow (b : Bay) : (s.spinSucceeds b).resetLow = s.resetLow := by
  simp [State.spinSucceeds]

@[simp] theorem State.spinFails_chans (b : Bay) (o : SpinOutcome) (n : Nat) :
    (s.spinFails b o n).chans = Table.put s.chans b (s.chan b).powerOff := by
  simp [State.spinFails]
@[simp] theorem State.spinFails_quarantine (b : Bay) (o : SpinOutcome) (n : Nat) : (s.spinFails b o n).quarantine = s.quarantine := by
  simp [State.spinFails]
@[simp] theorem State.spinFails_link (b : Bay) (o : SpinOutcome) (n : Nat) : (s.spinFails b o n).link = s.link := by
  simp [State.spinFails]
@[simp] theorem State.spinFails_time (b : Bay) (o : SpinOutcome) (n : Nat) : (s.spinFails b o n).time = s.time := by
  simp [State.spinFails]
@[simp] theorem State.spinFails_store (b : Bay) (o : SpinOutcome) (n : Nat) : (s.spinFails b o n).store = s.store := by
  simp [State.spinFails]
@[simp] theorem State.spinFails_cfg (b : Bay) (o : SpinOutcome) (n : Nat) : (s.spinFails b o n).cfg = s.cfg := by
  simp [State.spinFails]
@[simp] theorem State.spinFails_pending (b : Bay) (o : SpinOutcome) (n : Nat) : (s.spinFails b o n).pending = s.pending := by
  simp [State.spinFails]
@[simp] theorem State.spinFails_resetLow (b : Bay) (o : SpinOutcome) (n : Nat) : (s.spinFails b o n).resetLow = s.resetLow := by
  simp [State.spinFails]

@[simp] theorem State.tripTaken_chans (b : Bay) (n : Nat) : (s.tripTaken b n).chans = Table.put s.chans b ((s.chan b).disarm .both) := by
  simp [State.tripTaken]
@[simp] theorem State.tripTaken_quarantine (b : Bay) (n : Nat) : (s.tripTaken b n).quarantine = s.quarantine := by
  simp [State.tripTaken]
@[simp] theorem State.tripTaken_link (b : Bay) (n : Nat) : (s.tripTaken b n).link = s.link := by
  simp [State.tripTaken]
@[simp] theorem State.tripTaken_time (b : Bay) (n : Nat) : (s.tripTaken b n).time = s.time := by
  simp [State.tripTaken]
@[simp] theorem State.tripTaken_store (b : Bay) (n : Nat) : (s.tripTaken b n).store = s.store := by
  simp [State.tripTaken]
@[simp] theorem State.tripTaken_cfg (b : Bay) (n : Nat) : (s.tripTaken b n).cfg = s.cfg := by
  simp [State.tripTaken]
@[simp] theorem State.tripTaken_pending (b : Bay) (n : Nat) : (s.tripTaken b n).pending = s.pending := by
  simp [State.tripTaken]
@[simp] theorem State.tripTaken_resetLow (b : Bay) (n : Nat) : (s.tripTaken b n).resetLow = s.resetLow := by
  simp [State.tripTaken]

@[simp] theorem State.tripTakenLate_chans (b : Bay) (n : Nat) : (s.tripTakenLate b n).chans = s.chans := by
  simp [State.tripTakenLate]
@[simp] theorem State.tripTakenLate_bays (b : Bay) (n : Nat) : (s.tripTakenLate b n).bays = s.bays := by
  simp [State.tripTakenLate]
@[simp] theorem State.tripTakenLate_quarantine (b : Bay) (n : Nat) : (s.tripTakenLate b n).quarantine = s.quarantine := by
  simp [State.tripTakenLate]
@[simp] theorem State.tripTakenLate_budget (b : Bay) (n : Nat) : (s.tripTakenLate b n).budget = s.budget := by
  simp [State.tripTakenLate]
@[simp] theorem State.tripTakenLate_arbiter (b : Bay) (n : Nat) : (s.tripTakenLate b n).arbiter = s.arbiter := by
  simp [State.tripTakenLate]
@[simp] theorem State.tripTakenLate_cooling (b : Bay) (n : Nat) : (s.tripTakenLate b n).cooling = s.cooling := by
  simp [State.tripTakenLate]
@[simp] theorem State.tripTakenLate_link (b : Bay) (n : Nat) : (s.tripTakenLate b n).link = s.link := by
  simp [State.tripTakenLate]
@[simp] theorem State.tripTakenLate_time (b : Bay) (n : Nat) : (s.tripTakenLate b n).time = s.time := by
  simp [State.tripTakenLate]
@[simp] theorem State.tripTakenLate_store (b : Bay) (n : Nat) : (s.tripTakenLate b n).store = s.store := by
  simp [State.tripTakenLate]
@[simp] theorem State.tripTakenLate_cfg (b : Bay) (n : Nat) : (s.tripTakenLate b n).cfg = s.cfg := by
  simp [State.tripTakenLate]
@[simp] theorem State.tripTakenLate_pending (b : Bay) (n : Nat) : (s.tripTakenLate b n).pending = s.pending := by
  simp [State.tripTakenLate]
@[simp] theorem State.tripTakenLate_resetLow (b : Bay) (n : Nat) : (s.tripTakenLate b n).resetLow = s.resetLow := by
  simp [State.tripTakenLate]

@[simp] theorem State.powerDown_chans (b : Bay) : (s.powerDown b).chans = Table.put s.chans b (s.chan b).powerOff := by
  simp [State.powerDown]
@[simp] theorem State.powerDown_quarantine (b : Bay) : (s.powerDown b).quarantine = s.quarantine := by
  simp [State.powerDown]
@[simp] theorem State.powerDown_link (b : Bay) : (s.powerDown b).link = s.link := by
  simp [State.powerDown]
@[simp] theorem State.powerDown_time (b : Bay) : (s.powerDown b).time = s.time := by
  simp [State.powerDown]
@[simp] theorem State.powerDown_store (b : Bay) : (s.powerDown b).store = s.store := by
  simp [State.powerDown]
@[simp] theorem State.powerDown_cfg (b : Bay) : (s.powerDown b).cfg = s.cfg := by
  simp [State.powerDown]
@[simp] theorem State.powerDown_pending (b : Bay) : (s.powerDown b).pending = s.pending := by
  simp [State.powerDown]
@[simp] theorem State.powerDown_resetLow (b : Bay) : (s.powerDown b).resetLow = s.resetLow := by
  simp [State.powerDown]

@[simp] theorem State.dequeue_chans (b : Bay) : (s.dequeue b).chans = s.chans := by
  simp [State.dequeue]
@[simp] theorem State.dequeue_quarantine (b : Bay) : (s.dequeue b).quarantine = s.quarantine := by
  simp [State.dequeue]
@[simp] theorem State.dequeue_link (b : Bay) : (s.dequeue b).link = s.link := by
  simp [State.dequeue]
@[simp] theorem State.dequeue_time (b : Bay) : (s.dequeue b).time = s.time := by
  simp [State.dequeue]
@[simp] theorem State.dequeue_store (b : Bay) : (s.dequeue b).store = s.store := by
  simp [State.dequeue]
@[simp] theorem State.dequeue_cfg (b : Bay) : (s.dequeue b).cfg = s.cfg := by
  simp [State.dequeue]
@[simp] theorem State.dequeue_pending (b : Bay) : (s.dequeue b).pending = s.pending := by
  simp [State.dequeue]
@[simp] theorem State.dequeue_resetLow (b : Bay) : (s.dequeue b).resetLow = s.resetLow := by
  simp [State.dequeue]

end Sys2Proof.Machine
end

