-- ==== Sys2Proof/Laws/CommandFrames.lean ====
section
/-! SUPPORT. The fields each operation of a command leaves as they are, one lemma per operation and field. -/

namespace Sys2Proof.Machine

variable (s : State)

@[simp] theorem State.contactInSeating_chans (b : Bay) (e s' : Bool) : (s.contactInSeating b e s').chans = s.chans := by
  unfold State.contactInSeating
  try dsimp only
  repeat' split
  all_goals simp
@[simp] theorem State.contactInSeating_link (b : Bay) (e s' : Bool) : (s.contactInSeating b e s').link = s.link := by
  unfold State.contactInSeating
  try dsimp only
  repeat' split
  all_goals simp
@[simp] theorem State.contactInSeating_time (b : Bay) (e s' : Bool) : (s.contactInSeating b e s').time = s.time := by
  unfold State.contactInSeating
  try dsimp only
  repeat' split
  all_goals simp
@[simp] theorem State.contactInSeating_store (b : Bay) (e s' : Bool) : (s.contactInSeating b e s').store = s.store := by
  unfold State.contactInSeating
  try dsimp only
  repeat' split
  all_goals simp
@[simp] theorem State.contactInSeating_cfg (b : Bay) (e s' : Bool) : (s.contactInSeating b e s').cfg = s.cfg := by
  unfold State.contactInSeating
  try dsimp only
  repeat' split
  all_goals simp
@[simp] theorem State.contactInSeating_pending (b : Bay) (e s' : Bool) : (s.contactInSeating b e s').pending = s.pending := by
  unfold State.contactInSeating
  try dsimp only
  repeat' split
  all_goals simp
@[simp] theorem State.contactInSeating_resetLow (b : Bay) (e s' : Bool) : (s.contactInSeating b e s').resetLow = s.resetLow := by
  unfold State.contactInSeating
  try dsimp only
  repeat' split
  all_goals simp

@[simp] theorem State.contactInExtracting_chans (b : Bay) (e l s' : Bool) : (s.contactInExtracting b e l s').chans = s.chans := by
  unfold State.contactInExtracting
  try dsimp only
  repeat' split
  all_goals simp
@[simp] theorem State.contactInExtracting_link (b : Bay) (e l s' : Bool) : (s.contactInExtracting b e l s').link = s.link := by
  unfold State.contactInExtracting
  try dsimp only
  repeat' split
  all_goals simp
@[simp] theorem State.contactInExtracting_time (b : Bay) (e l s' : Bool) : (s.contactInExtracting b e l s').time = s.time := by
  unfold State.contactInExtracting
  try dsimp only
  repeat' split
  all_goals simp
@[simp] theorem State.contactInExtracting_store (b : Bay) (e l s' : Bool) : (s.contactInExtracting b e l s').store = s.store := by
  unfold State.contactInExtracting
  try dsimp only
  repeat' split
  all_goals simp
@[simp] theorem State.contactInExtracting_cfg (b : Bay) (e l s' : Bool) : (s.contactInExtracting b e l s').cfg = s.cfg := by
  unfold State.contactInExtracting
  try dsimp only
  repeat' split
  all_goals simp
@[simp] theorem State.contactInExtracting_pending (b : Bay) (e l s' : Bool) : (s.contactInExtracting b e l s').pending = s.pending := by
  unfold State.contactInExtracting
  try dsimp only
  repeat' split
  all_goals simp
@[simp] theorem State.contactInExtracting_resetLow (b : Bay) (e l s' : Bool) : (s.contactInExtracting b e l s').resetLow = s.resetLow := by
  unfold State.contactInExtracting
  try dsimp only
  repeat' split
  all_goals simp

@[simp] theorem State.contactInEmpty_chans (b : Bay) (e s' : Bool) : (s.contactInEmpty b e s').chans = s.chans := by
  unfold State.contactInEmpty
  try dsimp only
  repeat' split
  all_goals simp
@[simp] theorem State.contactInEmpty_quarantine (b : Bay) (e s' : Bool) : (s.contactInEmpty b e s').quarantine = s.quarantine := by
  unfold State.contactInEmpty
  try dsimp only
  repeat' split
  all_goals simp
@[simp] theorem State.contactInEmpty_link (b : Bay) (e s' : Bool) : (s.contactInEmpty b e s').link = s.link := by
  unfold State.contactInEmpty
  try dsimp only
  repeat' split
  all_goals simp
@[simp] theorem State.contactInEmpty_time (b : Bay) (e s' : Bool) : (s.contactInEmpty b e s').time = s.time := by
  unfold State.contactInEmpty
  try dsimp only
  repeat' split
  all_goals simp
@[simp] theorem State.contactInEmpty_store (b : Bay) (e s' : Bool) : (s.contactInEmpty b e s').store = s.store := by
  unfold State.contactInEmpty
  try dsimp only
  repeat' split
  all_goals simp
@[simp] theorem State.contactInEmpty_cfg (b : Bay) (e s' : Bool) : (s.contactInEmpty b e s').cfg = s.cfg := by
  unfold State.contactInEmpty
  try dsimp only
  repeat' split
  all_goals simp
@[simp] theorem State.contactInEmpty_pending (b : Bay) (e s' : Bool) : (s.contactInEmpty b e s').pending = s.pending := by
  unfold State.contactInEmpty
  try dsimp only
  repeat' split
  all_goals simp
@[simp] theorem State.contactInEmpty_resetLow (b : Bay) (e s' : Bool) : (s.contactInEmpty b e s').resetLow = s.resetLow := by
  unfold State.contactInEmpty
  try dsimp only
  repeat' split
  all_goals simp

@[simp] theorem State.contactInService_link (b : Bay) (e l s' : Bool) : (s.contactInService b e l s').link = s.link := by
  unfold State.contactInService
  try dsimp only
  repeat' split
  all_goals simp
@[simp] theorem State.contactInService_time (b : Bay) (e l s' : Bool) : (s.contactInService b e l s').time = s.time := by
  unfold State.contactInService
  try dsimp only
  repeat' split
  all_goals simp
@[simp] theorem State.contactInService_store (b : Bay) (e l s' : Bool) : (s.contactInService b e l s').store = s.store := by
  unfold State.contactInService
  try dsimp only
  repeat' split
  all_goals simp
@[simp] theorem State.contactInService_cfg (b : Bay) (e l s' : Bool) : (s.contactInService b e l s').cfg = s.cfg := by
  unfold State.contactInService
  try dsimp only
  repeat' split
  all_goals simp
@[simp] theorem State.contactInService_pending (b : Bay) (e l s' : Bool) : (s.contactInService b e l s').pending = s.pending := by
  unfold State.contactInService
  try dsimp only
  repeat' split
  all_goals simp
@[simp] theorem State.contactInService_resetLow (b : Bay) (e l s' : Bool) : (s.contactInService b e l s').resetLow = s.resetLow := by
  unfold State.contactInService
  try dsimp only
  repeat' split
  all_goals simp

@[simp] theorem State.contactTaken_link (b : Bay) (e l s' : Bool) : (s.contactTaken b e l s').link = s.link := by
  unfold State.contactTaken
  try dsimp only
  repeat' split
  all_goals simp
@[simp] theorem State.contactTaken_time (b : Bay) (e l s' : Bool) : (s.contactTaken b e l s').time = s.time := by
  unfold State.contactTaken
  try dsimp only
  repeat' split
  all_goals simp
@[simp] theorem State.contactTaken_store (b : Bay) (e l s' : Bool) : (s.contactTaken b e l s').store = s.store := by
  unfold State.contactTaken
  try dsimp only
  repeat' split
  all_goals simp
@[simp] theorem State.contactTaken_cfg (b : Bay) (e l s' : Bool) : (s.contactTaken b e l s').cfg = s.cfg := by
  unfold State.contactTaken
  try dsimp only
  repeat' split
  all_goals simp
@[simp] theorem State.contactTaken_pending (b : Bay) (e l s' : Bool) : (s.contactTaken b e l s').pending = s.pending := by
  unfold State.contactTaken
  try dsimp only
  repeat' split
  all_goals simp
@[simp] theorem State.contactTaken_resetLow (b : Bay) (e l s' : Bool) : (s.contactTaken b e l s').resetLow = s.resetLow := by
  unfold State.contactTaken
  try dsimp only
  repeat' split
  all_goals simp

@[simp] theorem State.seatCompleted_chans (b : Bay) (c : Code) : (s.seatCompleted b c).chans = s.chans := by
  unfold State.seatCompleted
  try dsimp only
  repeat' split
  all_goals simp
@[simp] theorem State.seatCompleted_quarantine (b : Bay) (c : Code) : (s.seatCompleted b c).quarantine = s.quarantine := by
  unfold State.seatCompleted
  try dsimp only
  repeat' split
  all_goals simp
@[simp] theorem State.seatCompleted_link (b : Bay) (c : Code) : (s.seatCompleted b c).link = s.link := by
  unfold State.seatCompleted
  try dsimp only
  repeat' split
  all_goals simp
@[simp] theorem State.seatCompleted_time (b : Bay) (c : Code) : (s.seatCompleted b c).time = s.time := by
  unfold State.seatCompleted
  try dsimp only
  repeat' split
  all_goals simp
@[simp] theorem State.seatCompleted_store (b : Bay) (c : Code) : (s.seatCompleted b c).store = s.store := by
  unfold State.seatCompleted
  try dsimp only
  repeat' split
  all_goals simp
@[simp] theorem State.seatCompleted_cfg (b : Bay) (c : Code) : (s.seatCompleted b c).cfg = s.cfg := by
  unfold State.seatCompleted
  try dsimp only
  repeat' split
  all_goals simp
@[simp] theorem State.seatCompleted_pending (b : Bay) (c : Code) : (s.seatCompleted b c).pending = s.pending := by
  unfold State.seatCompleted
  try dsimp only
  repeat' split
  all_goals simp
@[simp] theorem State.seatCompleted_resetLow (b : Bay) (c : Code) : (s.seatCompleted b c).resetLow = s.resetLow := by
  unfold State.seatCompleted
  try dsimp only
  repeat' split
  all_goals simp

@[simp] theorem State.seatStableTaken_chans (b : Bay) (c : Code) : (s.seatStableTaken b c).chans = s.chans := by
  unfold State.seatStableTaken
  try dsimp only
  repeat' split
  all_goals simp
@[simp] theorem State.seatStableTaken_quarantine (b : Bay) (c : Code) : (s.seatStableTaken b c).quarantine = s.quarantine := by
  unfold State.seatStableTaken
  try dsimp only
  repeat' split
  all_goals simp
@[simp] theorem State.seatStableTaken_link (b : Bay) (c : Code) : (s.seatStableTaken b c).link = s.link := by
  unfold State.seatStableTaken
  try dsimp only
  repeat' split
  all_goals simp
@[simp] theorem State.seatStableTaken_time (b : Bay) (c : Code) : (s.seatStableTaken b c).time = s.time := by
  unfold State.seatStableTaken
  try dsimp only
  repeat' split
  all_goals simp
@[simp] theorem State.seatStableTaken_store (b : Bay) (c : Code) : (s.seatStableTaken b c).store = s.store := by
  unfold State.seatStableTaken
  try dsimp only
  repeat' split
  all_goals simp
@[simp] theorem State.seatStableTaken_cfg (b : Bay) (c : Code) : (s.seatStableTaken b c).cfg = s.cfg := by
  unfold State.seatStableTaken
  try dsimp only
  repeat' split
  all_goals simp
@[simp] theorem State.seatStableTaken_pending (b : Bay) (c : Code) : (s.seatStableTaken b c).pending = s.pending := by
  unfold State.seatStableTaken
  try dsimp only
  repeat' split
  all_goals simp
@[simp] theorem State.seatStableTaken_resetLow (b : Bay) (c : Code) : (s.seatStableTaken b c).resetLow = s.resetLow := by
  unfold State.seatStableTaken
  try dsimp only
  repeat' split
  all_goals simp

@[simp] theorem State.rampEndTaken_quarantine (b : Bay) : (s.rampEndTaken b).quarantine = s.quarantine := by
  unfold State.rampEndTaken
  try dsimp only
  repeat' split
  all_goals simp
@[simp] theorem State.rampEndTaken_link (b : Bay) : (s.rampEndTaken b).link = s.link := by
  unfold State.rampEndTaken
  try dsimp only
  repeat' split
  all_goals simp
@[simp] theorem State.rampEndTaken_time (b : Bay) : (s.rampEndTaken b).time = s.time := by
  unfold State.rampEndTaken
  try dsimp only
  repeat' split
  all_goals simp
@[simp] theorem State.rampEndTaken_store (b : Bay) : (s.rampEndTaken b).store = s.store := by
  unfold State.rampEndTaken
  try dsimp only
  repeat' split
  all_goals simp
@[simp] theorem State.rampEndTaken_cfg (b : Bay) : (s.rampEndTaken b).cfg = s.cfg := by
  unfold State.rampEndTaken
  try dsimp only
  repeat' split
  all_goals simp
@[simp] theorem State.rampEndTaken_pending (b : Bay) : (s.rampEndTaken b).pending = s.pending := by
  unfold State.rampEndTaken
  try dsimp only
  repeat' split
  all_goals simp
@[simp] theorem State.rampEndTaken_resetLow (b : Bay) : (s.rampEndTaken b).resetLow = s.resetLow := by
  unfold State.rampEndTaken
  try dsimp only
  repeat' split
  all_goals simp

@[simp] theorem State.tripReport_chans (b : Bay) (n : Nat) : (s.tripReport b n).chans =
    if (s.bay b).state.closedSwitch = true then Table.put s.chans b ((s.chan b).disarm .both) else s.chans := by
  unfold State.tripReport
  split <;> simp [*, BayState.closedSwitch]
@[simp] theorem State.tripReport_quarantine (b : Bay) (n : Nat) : (s.tripReport b n).quarantine = s.quarantine := by
  unfold State.tripReport
  try dsimp only
  repeat' split
  all_goals simp
@[simp] theorem State.tripReport_link (b : Bay) (n : Nat) : (s.tripReport b n).link = s.link := by
  unfold State.tripReport
  try dsimp only
  repeat' split
  all_goals simp
@[simp] theorem State.tripReport_time (b : Bay) (n : Nat) : (s.tripReport b n).time = s.time := by
  unfold State.tripReport
  try dsimp only
  repeat' split
  all_goals simp
@[simp] theorem State.tripReport_store (b : Bay) (n : Nat) : (s.tripReport b n).store = s.store := by
  unfold State.tripReport
  try dsimp only
  repeat' split
  all_goals simp
@[simp] theorem State.tripReport_cfg (b : Bay) (n : Nat) : (s.tripReport b n).cfg = s.cfg := by
  unfold State.tripReport
  try dsimp only
  repeat' split
  all_goals simp
@[simp] theorem State.tripReport_pending (b : Bay) (n : Nat) : (s.tripReport b n).pending = s.pending := by
  unfold State.tripReport
  try dsimp only
  repeat' split
  all_goals simp
@[simp] theorem State.tripReport_resetLow (b : Bay) (n : Nat) : (s.tripReport b n).resetLow = s.resetLow := by
  unfold State.tripReport
  try dsimp only
  repeat' split
  all_goals simp

@[simp] theorem State.riseTaken_quarantine (b : Bay) (n : Nat) : (s.riseTaken b n).quarantine = s.quarantine := by
  unfold State.riseTaken
  try dsimp only
  repeat' split
  all_goals simp
@[simp] theorem State.riseTaken_link (b : Bay) (n : Nat) : (s.riseTaken b n).link = s.link := by
  unfold State.riseTaken
  try dsimp only
  repeat' split
  all_goals simp
@[simp] theorem State.riseTaken_time (b : Bay) (n : Nat) : (s.riseTaken b n).time = s.time := by
  unfold State.riseTaken
  try dsimp only
  repeat' split
  all_goals simp
@[simp] theorem State.riseTaken_store (b : Bay) (n : Nat) : (s.riseTaken b n).store = s.store := by
  unfold State.riseTaken
  try dsimp only
  repeat' split
  all_goals simp
@[simp] theorem State.riseTaken_cfg (b : Bay) (n : Nat) : (s.riseTaken b n).cfg = s.cfg := by
  unfold State.riseTaken
  try dsimp only
  repeat' split
  all_goals simp
@[simp] theorem State.riseTaken_pending (b : Bay) (n : Nat) : (s.riseTaken b n).pending = s.pending := by
  unfold State.riseTaken
  try dsimp only
  repeat' split
  all_goals simp
@[simp] theorem State.riseTaken_resetLow (b : Bay) (n : Nat) : (s.riseTaken b n).resetLow = s.resetLow := by
  unfold State.riseTaken
  try dsimp only
  repeat' split
  all_goals simp

@[simp] theorem State.fallTaken_chans (b : Bay) :
    (s.fallTaken b).chans = if (s.bay b).state = .spinning ∧ (s.bay b).settling = true then
      Table.put s.chans b ((s.chan b).disarm .both) else s.chans := by
  unfold State.fallTaken
  split <;> simp [*]
@[simp] theorem State.fallTaken_quarantine (b : Bay) : (s.fallTaken b).quarantine = s.quarantine := by
  unfold State.fallTaken
  try dsimp only
  repeat' split
  all_goals simp
@[simp] theorem State.fallTaken_link (b : Bay) : (s.fallTaken b).link = s.link := by
  unfold State.fallTaken
  try dsimp only
  repeat' split
  all_goals simp
@[simp] theorem State.fallTaken_time (b : Bay) : (s.fallTaken b).time = s.time := by
  unfold State.fallTaken
  try dsimp only
  repeat' split
  all_goals simp
@[simp] theorem State.fallTaken_store (b : Bay) : (s.fallTaken b).store = s.store := by
  unfold State.fallTaken
  try dsimp only
  repeat' split
  all_goals simp
@[simp] theorem State.fallTaken_cfg (b : Bay) : (s.fallTaken b).cfg = s.cfg := by
  unfold State.fallTaken
  try dsimp only
  repeat' split
  all_goals simp
@[simp] theorem State.fallTaken_pending (b : Bay) : (s.fallTaken b).pending = s.pending := by
  unfold State.fallTaken
  try dsimp only
  repeat' split
  all_goals simp
@[simp] theorem State.fallTaken_resetLow (b : Bay) : (s.fallTaken b).resetLow = s.resetLow := by
  unfold State.fallTaken
  try dsimp only
  repeat' split
  all_goals simp

@[simp] theorem State.beginSettling_quarantine (b : Bay) : (s.beginSettling b).quarantine = s.quarantine := by
  simp [State.beginSettling]
@[simp] theorem State.beginSettling_budget (b : Bay) : (s.beginSettling b).budget = s.budget := by
  simp [State.beginSettling]
@[simp] theorem State.beginSettling_arbiter (b : Bay) : (s.beginSettling b).arbiter = s.arbiter := by
  simp [State.beginSettling]
@[simp] theorem State.beginSettling_cooling (b : Bay) : (s.beginSettling b).cooling = s.cooling := by
  simp [State.beginSettling]
@[simp] theorem State.beginSettling_lights (b : Bay) : (s.beginSettling b).lights = s.lights := by
  simp [State.beginSettling]
@[simp] theorem State.beginSettling_link (b : Bay) : (s.beginSettling b).link = s.link := by
  simp [State.beginSettling]
@[simp] theorem State.beginSettling_events (b : Bay) : (s.beginSettling b).events = s.events := by
  simp [State.beginSettling]
@[simp] theorem State.beginSettling_time (b : Bay) : (s.beginSettling b).time = s.time := by
  simp [State.beginSettling]
@[simp] theorem State.beginSettling_store (b : Bay) : (s.beginSettling b).store = s.store := by
  simp [State.beginSettling]
@[simp] theorem State.beginSettling_cfg (b : Bay) : (s.beginSettling b).cfg = s.cfg := by
  simp [State.beginSettling]
@[simp] theorem State.beginSettling_pending (b : Bay) : (s.beginSettling b).pending = s.pending := by
  simp [State.beginSettling]
@[simp] theorem State.beginSettling_resetLow (b : Bay) : (s.beginSettling b).resetLow = s.resetLow := by
  simp [State.beginSettling]

@[simp] theorem State.spinChecked_quarantine (b : Bay) : (s.spinChecked b).quarantine = s.quarantine := by
  unfold State.spinChecked
  try dsimp only
  repeat' split
  all_goals simp
@[simp] theorem State.spinChecked_link (b : Bay) : (s.spinChecked b).link = s.link := by
  unfold State.spinChecked
  try dsimp only
  repeat' split
  all_goals simp
@[simp] theorem State.spinChecked_time (b : Bay) : (s.spinChecked b).time = s.time := by
  unfold State.spinChecked
  try dsimp only
  repeat' split
  all_goals simp
@[simp] theorem State.spinChecked_store (b : Bay) : (s.spinChecked b).store = s.store := by
  unfold State.spinChecked
  try dsimp only
  repeat' split
  all_goals simp
@[simp] theorem State.spinChecked_cfg (b : Bay) : (s.spinChecked b).cfg = s.cfg := by
  unfold State.spinChecked
  try dsimp only
  repeat' split
  all_goals simp
@[simp] theorem State.spinChecked_pending (b : Bay) : (s.spinChecked b).pending = s.pending := by
  unfold State.spinChecked
  try dsimp only
  repeat' split
  all_goals simp
@[simp] theorem State.spinChecked_resetLow (b : Bay) : (s.spinChecked b).resetLow = s.resetLow := by
  unfold State.spinChecked
  try dsimp only
  repeat' split
  all_goals simp

@[simp] theorem State.extractionEnds_chans (b : Bay) : (s.extractionEnds b).chans = s.chans := by
  unfold State.extractionEnds
  try dsimp only
  repeat' split
  all_goals simp
@[simp] theorem State.extractionEnds_link (b : Bay) : (s.extractionEnds b).link = s.link := by
  unfold State.extractionEnds
  try dsimp only
  repeat' split
  all_goals simp
@[simp] theorem State.extractionEnds_time (b : Bay) : (s.extractionEnds b).time = s.time := by
  unfold State.extractionEnds
  try dsimp only
  repeat' split
  all_goals simp
@[simp] theorem State.extractionEnds_store (b : Bay) : (s.extractionEnds b).store = s.store := by
  unfold State.extractionEnds
  try dsimp only
  repeat' split
  all_goals simp
@[simp] theorem State.extractionEnds_cfg (b : Bay) : (s.extractionEnds b).cfg = s.cfg := by
  unfold State.extractionEnds
  try dsimp only
  repeat' split
  all_goals simp
@[simp] theorem State.extractionEnds_pending (b : Bay) : (s.extractionEnds b).pending = s.pending := by
  unfold State.extractionEnds
  try dsimp only
  repeat' split
  all_goals simp
@[simp] theorem State.extractionEnds_resetLow (b : Bay) : (s.extractionEnds b).resetLow = s.resetLow := by
  unfold State.extractionEnds
  try dsimp only
  repeat' split
  all_goals simp

@[simp] theorem State.backoffEnds_chans (b : Bay) : (s.backoffEnds b).chans = s.chans := by
  unfold State.backoffEnds
  try dsimp only
  repeat' split
  all_goals simp
@[simp] theorem State.backoffEnds_link (b : Bay) : (s.backoffEnds b).link = s.link := by
  unfold State.backoffEnds
  try dsimp only
  repeat' split
  all_goals simp
@[simp] theorem State.backoffEnds_time (b : Bay) : (s.backoffEnds b).time = s.time := by
  unfold State.backoffEnds
  try dsimp only
  repeat' split
  all_goals simp
@[simp] theorem State.backoffEnds_store (b : Bay) : (s.backoffEnds b).store = s.store := by
  unfold State.backoffEnds
  try dsimp only
  repeat' split
  all_goals simp
@[simp] theorem State.backoffEnds_cfg (b : Bay) : (s.backoffEnds b).cfg = s.cfg := by
  unfold State.backoffEnds
  try dsimp only
  repeat' split
  all_goals simp
@[simp] theorem State.backoffEnds_pending (b : Bay) : (s.backoffEnds b).pending = s.pending := by
  unfold State.backoffEnds
  try dsimp only
  repeat' split
  all_goals simp
@[simp] theorem State.backoffEnds_resetLow (b : Bay) : (s.backoffEnds b).resetLow = s.resetLow := by
  unfold State.backoffEnds
  try dsimp only
  repeat' split
  all_goals simp

@[simp] theorem State.powerOnGranted_quarantine (b : Bay) : (s.powerOnGranted b).quarantine = s.quarantine := by
  simp [State.powerOnGranted]
@[simp] theorem State.powerOnGranted_link (b : Bay) : (s.powerOnGranted b).link = s.link := by
  simp [State.powerOnGranted]
@[simp] theorem State.powerOnGranted_time (b : Bay) : (s.powerOnGranted b).time = s.time := by
  simp [State.powerOnGranted]
@[simp] theorem State.powerOnGranted_store (b : Bay) : (s.powerOnGranted b).store = s.store := by
  simp [State.powerOnGranted]
@[simp] theorem State.powerOnGranted_cfg (b : Bay) : (s.powerOnGranted b).cfg = s.cfg := by
  simp [State.powerOnGranted]
@[simp] theorem State.powerOnGranted_pending (b : Bay) : (s.powerOnGranted b).pending = s.pending := by
  simp [State.powerOnGranted]
@[simp] theorem State.powerOnGranted_resetLow (b : Bay) : (s.powerOnGranted b).resetLow = s.resetLow := by
  simp [State.powerOnGranted]

@[simp] theorem State.wakeGranted_chans (b : Bay) : (s.wakeGranted b).chans = s.chans := by
  simp [State.wakeGranted]
@[simp] theorem State.wakeGranted_quarantine (b : Bay) : (s.wakeGranted b).quarantine = s.quarantine := by
  simp [State.wakeGranted]
@[simp] theorem State.wakeGranted_link (b : Bay) : (s.wakeGranted b).link = s.link := by
  simp [State.wakeGranted]
@[simp] theorem State.wakeGranted_time (b : Bay) : (s.wakeGranted b).time = s.time := by
  simp [State.wakeGranted]
@[simp] theorem State.wakeGranted_store (b : Bay) : (s.wakeGranted b).store = s.store := by
  simp [State.wakeGranted]
@[simp] theorem State.wakeGranted_cfg (b : Bay) : (s.wakeGranted b).cfg = s.cfg := by
  simp [State.wakeGranted]
@[simp] theorem State.wakeGranted_pending (b : Bay) : (s.wakeGranted b).pending = s.pending := by
  simp [State.wakeGranted]
@[simp] theorem State.wakeGranted_resetLow (b : Bay) : (s.wakeGranted b).resetLow = s.resetLow := by
  simp [State.wakeGranted]

@[simp] theorem State.carryOut_quarantine (g : Grant) : (s.carryOut g).quarantine = s.quarantine := by
  unfold State.carryOut
  try dsimp only
  repeat' split
  all_goals simp
@[simp] theorem State.carryOut_link (g : Grant) : (s.carryOut g).link = s.link := by
  unfold State.carryOut
  try dsimp only
  repeat' split
  all_goals simp
@[simp] theorem State.carryOut_time (g : Grant) : (s.carryOut g).time = s.time := by
  unfold State.carryOut
  try dsimp only
  repeat' split
  all_goals simp
@[simp] theorem State.carryOut_store (g : Grant) : (s.carryOut g).store = s.store := by
  unfold State.carryOut
  try dsimp only
  repeat' split
  all_goals simp
@[simp] theorem State.carryOut_cfg (g : Grant) : (s.carryOut g).cfg = s.cfg := by
  unfold State.carryOut
  try dsimp only
  repeat' split
  all_goals simp
@[simp] theorem State.carryOut_pending (g : Grant) : (s.carryOut g).pending = s.pending := by
  unfold State.carryOut
  try dsimp only
  repeat' split
  all_goals simp
@[simp] theorem State.carryOut_resetLow (g : Grant) : (s.carryOut g).resetLow = s.resetLow := by
  unfold State.carryOut
  try dsimp only
  repeat' split
  all_goals simp

@[simp] theorem State.declineGrant_chans (g : Grant) : (s.declineGrant g).chans = s.chans := rfl
@[simp] theorem State.declineGrant_bays (g : Grant) : (s.declineGrant g).bays = s.bays := rfl
@[simp] theorem State.declineGrant_quarantine (g : Grant) : (s.declineGrant g).quarantine = s.quarantine := rfl
@[simp] theorem State.declineGrant_budget (g : Grant) : (s.declineGrant g).budget = s.budget := rfl
@[simp] theorem State.declineGrant_cooling (g : Grant) : (s.declineGrant g).cooling = s.cooling := rfl
@[simp] theorem State.declineGrant_lights (g : Grant) : (s.declineGrant g).lights = s.lights := rfl
@[simp] theorem State.declineGrant_link (g : Grant) : (s.declineGrant g).link = s.link := rfl
@[simp] theorem State.declineGrant_events (g : Grant) : (s.declineGrant g).events = s.events := rfl
@[simp] theorem State.declineGrant_time (g : Grant) : (s.declineGrant g).time = s.time := rfl
@[simp] theorem State.declineGrant_store (g : Grant) : (s.declineGrant g).store = s.store := rfl
@[simp] theorem State.declineGrant_cfg (g : Grant) : (s.declineGrant g).cfg = s.cfg := rfl
@[simp] theorem State.declineGrant_pending (g : Grant) : (s.declineGrant g).pending = s.pending := rfl
@[simp] theorem State.declineGrant_resetLow (g : Grant) : (s.declineGrant g).resetLow = s.resetLow := rfl

@[simp] theorem State.grantReached_quarantine (g : Grant) : (s.grantReached g).quarantine = s.quarantine := by
  unfold State.grantReached
  try dsimp only
  repeat' split
  all_goals simp
@[simp] theorem State.grantReached_link (g : Grant) : (s.grantReached g).link = s.link := by
  unfold State.grantReached
  try dsimp only
  repeat' split
  all_goals simp
@[simp] theorem State.grantReached_time (g : Grant) : (s.grantReached g).time = s.time := by
  unfold State.grantReached
  try dsimp only
  repeat' split
  all_goals simp
@[simp] theorem State.grantReached_store (g : Grant) : (s.grantReached g).store = s.store := by
  unfold State.grantReached
  try dsimp only
  repeat' split
  all_goals simp
@[simp] theorem State.grantReached_cfg (g : Grant) : (s.grantReached g).cfg = s.cfg := by
  unfold State.grantReached
  try dsimp only
  repeat' split
  all_goals simp
@[simp] theorem State.grantReached_pending (g : Grant) : (s.grantReached g).pending = s.pending := by
  unfold State.grantReached
  try dsimp only
  repeat' split
  all_goals simp
@[simp] theorem State.grantReached_resetLow (g : Grant) : (s.grantReached g).resetLow = s.resetLow := by
  unfold State.grantReached
  try dsimp only
  repeat' split
  all_goals simp

@[simp] theorem State.revoked_chans (x : Revocation) : (s.revoked x).chans = s.chans := by
  unfold State.revoked
  try dsimp only
  repeat' split
  all_goals simp
@[simp] theorem State.revoked_quarantine (x : Revocation) : (s.revoked x).quarantine = s.quarantine := by
  unfold State.revoked
  try dsimp only
  repeat' split
  all_goals simp
@[simp] theorem State.revoked_link (x : Revocation) : (s.revoked x).link = s.link := by
  unfold State.revoked
  try dsimp only
  repeat' split
  all_goals simp
@[simp] theorem State.revoked_time (x : Revocation) : (s.revoked x).time = s.time := by
  unfold State.revoked
  try dsimp only
  repeat' split
  all_goals simp
@[simp] theorem State.revoked_store (x : Revocation) : (s.revoked x).store = s.store := by
  unfold State.revoked
  try dsimp only
  repeat' split
  all_goals simp
@[simp] theorem State.revoked_cfg (x : Revocation) : (s.revoked x).cfg = s.cfg := by
  unfold State.revoked
  try dsimp only
  repeat' split
  all_goals simp
@[simp] theorem State.revoked_pending (x : Revocation) : (s.revoked x).pending = s.pending := by
  unfold State.revoked
  try dsimp only
  repeat' split
  all_goals simp
@[simp] theorem State.revoked_resetLow (x : Revocation) : (s.revoked x).resetLow = s.resetLow := by
  unfold State.revoked
  try dsimp only
  repeat' split
  all_goals simp

@[simp] theorem State.putSlot_chans (k : Slot) (l : SlotLines) : (s.putSlot k l).chans = s.chans := rfl
@[simp] theorem State.putSlot_bays (k : Slot) (l : SlotLines) : (s.putSlot k l).bays = s.bays := rfl
@[simp] theorem State.putSlot_quarantine (k : Slot) (l : SlotLines) : (s.putSlot k l).quarantine = s.quarantine := rfl
@[simp] theorem State.putSlot_arbiter (k : Slot) (l : SlotLines) : (s.putSlot k l).arbiter = s.arbiter := rfl
@[simp] theorem State.putSlot_cooling (k : Slot) (l : SlotLines) : (s.putSlot k l).cooling = s.cooling := rfl
@[simp] theorem State.putSlot_lights (k : Slot) (l : SlotLines) : (s.putSlot k l).lights = s.lights := rfl
@[simp] theorem State.putSlot_link (k : Slot) (l : SlotLines) : (s.putSlot k l).link = s.link := rfl
@[simp] theorem State.putSlot_events (k : Slot) (l : SlotLines) : (s.putSlot k l).events = s.events := rfl
@[simp] theorem State.putSlot_time (k : Slot) (l : SlotLines) : (s.putSlot k l).time = s.time := rfl
@[simp] theorem State.putSlot_store (k : Slot) (l : SlotLines) : (s.putSlot k l).store = s.store := rfl
@[simp] theorem State.putSlot_cfg (k : Slot) (l : SlotLines) : (s.putSlot k l).cfg = s.cfg := rfl
@[simp] theorem State.putSlot_pending (k : Slot) (l : SlotLines) : (s.putSlot k l).pending = s.pending := rfl
@[simp] theorem State.putSlot_resetLow (k : Slot) (l : SlotLines) : (s.putSlot k l).resetLow = s.resetLow := rfl

@[simp] theorem State.linesAccepted_chans (k : Slot) (l : PsuLines) : (s.linesAccepted k l).chans = s.chans := by
  unfold State.linesAccepted
  try dsimp only
  repeat' split
  all_goals simp
@[simp] theorem State.linesAccepted_bays (k : Slot) (l : PsuLines) : (s.linesAccepted k l).bays = s.bays := by
  unfold State.linesAccepted
  try dsimp only
  repeat' split
  all_goals simp
@[simp] theorem State.linesAccepted_quarantine (k : Slot) (l : PsuLines) : (s.linesAccepted k l).quarantine = s.quarantine := by
  unfold State.linesAccepted
  try dsimp only
  repeat' split
  all_goals simp
@[simp] theorem State.linesAccepted_cooling (k : Slot) (l : PsuLines) : (s.linesAccepted k l).cooling = s.cooling := by
  unfold State.linesAccepted
  try dsimp only
  repeat' split
  all_goals simp
@[simp] theorem State.linesAccepted_lights (k : Slot) (l : PsuLines) : (s.linesAccepted k l).lights = s.lights := by
  unfold State.linesAccepted
  try dsimp only
  repeat' split
  all_goals simp
@[simp] theorem State.linesAccepted_link (k : Slot) (l : PsuLines) : (s.linesAccepted k l).link = s.link := by
  unfold State.linesAccepted
  try dsimp only
  repeat' split
  all_goals simp
@[simp] theorem State.linesAccepted_time (k : Slot) (l : PsuLines) : (s.linesAccepted k l).time = s.time := by
  unfold State.linesAccepted
  try dsimp only
  repeat' split
  all_goals simp
@[simp] theorem State.linesAccepted_store (k : Slot) (l : PsuLines) : (s.linesAccepted k l).store = s.store := by
  unfold State.linesAccepted
  try dsimp only
  repeat' split
  all_goals simp
@[simp] theorem State.linesAccepted_cfg (k : Slot) (l : PsuLines) : (s.linesAccepted k l).cfg = s.cfg := by
  unfold State.linesAccepted
  try dsimp only
  repeat' split
  all_goals simp
@[simp] theorem State.linesAccepted_pending (k : Slot) (l : PsuLines) : (s.linesAccepted k l).pending = s.pending := by
  unfold State.linesAccepted
  try dsimp only
  repeat' split
  all_goals simp
@[simp] theorem State.linesAccepted_resetLow (k : Slot) (l : PsuLines) : (s.linesAccepted k l).resetLow = s.resetLow := by
  unfold State.linesAccepted
  try dsimp only
  repeat' split
  all_goals simp

@[simp] theorem State.activityTo_bays (b : Bay) (c : Channel) : (s.activityTo b c).bays = s.bays := by
  unfold State.activityTo
  try dsimp only
  repeat' split
  all_goals simp
@[simp] theorem State.activityTo_quarantine (b : Bay) (c : Channel) : (s.activityTo b c).quarantine = s.quarantine := by
  unfold State.activityTo
  try dsimp only
  repeat' split
  all_goals simp
@[simp] theorem State.activityTo_budget (b : Bay) (c : Channel) : (s.activityTo b c).budget = s.budget := by
  unfold State.activityTo
  try dsimp only
  repeat' split
  all_goals simp
@[simp] theorem State.activityTo_arbiter (b : Bay) (c : Channel) : (s.activityTo b c).arbiter = s.arbiter := by
  unfold State.activityTo
  try dsimp only
  repeat' split
  all_goals simp
@[simp] theorem State.activityTo_cooling (b : Bay) (c : Channel) : (s.activityTo b c).cooling = s.cooling := by
  unfold State.activityTo
  try dsimp only
  repeat' split
  all_goals simp
@[simp] theorem State.activityTo_link (b : Bay) (c : Channel) : (s.activityTo b c).link = s.link := by
  unfold State.activityTo
  try dsimp only
  repeat' split
  all_goals simp
@[simp] theorem State.activityTo_events (b : Bay) (c : Channel) : (s.activityTo b c).events = s.events := by
  unfold State.activityTo
  try dsimp only
  repeat' split
  all_goals simp
@[simp] theorem State.activityTo_time (b : Bay) (c : Channel) : (s.activityTo b c).time = s.time := by
  unfold State.activityTo
  try dsimp only
  repeat' split
  all_goals simp
@[simp] theorem State.activityTo_store (b : Bay) (c : Channel) : (s.activityTo b c).store = s.store := by
  unfold State.activityTo
  try dsimp only
  repeat' split
  all_goals simp
@[simp] theorem State.activityTo_cfg (b : Bay) (c : Channel) : (s.activityTo b c).cfg = s.cfg := by
  unfold State.activityTo
  try dsimp only
  repeat' split
  all_goals simp
@[simp] theorem State.activityTo_pending (b : Bay) (c : Channel) : (s.activityTo b c).pending = s.pending := by
  unfold State.activityTo
  try dsimp only
  repeat' split
  all_goals simp
@[simp] theorem State.activityTo_resetLow (b : Bay) (c : Channel) : (s.activityTo b c).resetLow = s.resetLow := by
  unfold State.activityTo
  try dsimp only
  repeat' split
  all_goals simp

@[simp] theorem State.fanMoves_chans (f : Fan) (r : FanRecord) (e : Event) : (s.fanMoves f r e).chans = s.chans := by
  simp [State.fanMoves]
@[simp] theorem State.fanMoves_bays (f : Fan) (r : FanRecord) (e : Event) : (s.fanMoves f r e).bays = s.bays := by
  simp [State.fanMoves]
@[simp] theorem State.fanMoves_quarantine (f : Fan) (r : FanRecord) (e : Event) : (s.fanMoves f r e).quarantine = s.quarantine := by
  simp [State.fanMoves]
@[simp] theorem State.fanMoves_lights (f : Fan) (r : FanRecord) (e : Event) : (s.fanMoves f r e).lights = s.lights := by
  simp [State.fanMoves]
@[simp] theorem State.fanMoves_link (f : Fan) (r : FanRecord) (e : Event) : (s.fanMoves f r e).link = s.link := by
  simp [State.fanMoves]
@[simp] theorem State.fanMoves_time (f : Fan) (r : FanRecord) (e : Event) : (s.fanMoves f r e).time = s.time := by
  simp [State.fanMoves]
@[simp] theorem State.fanMoves_store (f : Fan) (r : FanRecord) (e : Event) : (s.fanMoves f r e).store = s.store := by
  simp [State.fanMoves]
@[simp] theorem State.fanMoves_cfg (f : Fan) (r : FanRecord) (e : Event) : (s.fanMoves f r e).cfg = s.cfg := by
  simp [State.fanMoves]
@[simp] theorem State.fanMoves_pending (f : Fan) (r : FanRecord) (e : Event) : (s.fanMoves f r e).pending = s.pending := by
  simp [State.fanMoves]
@[simp] theorem State.fanMoves_resetLow (f : Fan) (r : FanRecord) (e : Event) : (s.fanMoves f r e).resetLow = s.resetLow := by
  simp [State.fanMoves]

@[simp] theorem State.runningSample_chans (f : Fan) (r : FanRecord) : (s.runningSample f r).chans = s.chans := by
  unfold State.runningSample
  try dsimp only
  repeat' split
  all_goals simp
@[simp] theorem State.runningSample_bays (f : Fan) (r : FanRecord) : (s.runningSample f r).bays = s.bays := by
  unfold State.runningSample
  try dsimp only
  repeat' split
  all_goals simp
@[simp] theorem State.runningSample_quarantine (f : Fan) (r : FanRecord) : (s.runningSample f r).quarantine = s.quarantine := by
  unfold State.runningSample
  try dsimp only
  repeat' split
  all_goals simp
@[simp] theorem State.runningSample_lights (f : Fan) (r : FanRecord) : (s.runningSample f r).lights = s.lights := by
  unfold State.runningSample
  try dsimp only
  repeat' split
  all_goals simp
@[simp] theorem State.runningSample_link (f : Fan) (r : FanRecord) : (s.runningSample f r).link = s.link := by
  unfold State.runningSample
  try dsimp only
  repeat' split
  all_goals simp
@[simp] theorem State.runningSample_time (f : Fan) (r : FanRecord) : (s.runningSample f r).time = s.time := by
  unfold State.runningSample
  try dsimp only
  repeat' split
  all_goals simp
@[simp] theorem State.runningSample_store (f : Fan) (r : FanRecord) : (s.runningSample f r).store = s.store := by
  unfold State.runningSample
  try dsimp only
  repeat' split
  all_goals simp
@[simp] theorem State.runningSample_cfg (f : Fan) (r : FanRecord) : (s.runningSample f r).cfg = s.cfg := by
  unfold State.runningSample
  try dsimp only
  repeat' split
  all_goals simp
@[simp] theorem State.runningSample_pending (f : Fan) (r : FanRecord) : (s.runningSample f r).pending = s.pending := by
  unfold State.runningSample
  try dsimp only
  repeat' split
  all_goals simp
@[simp] theorem State.runningSample_resetLow (f : Fan) (r : FanRecord) : (s.runningSample f r).resetLow = s.resetLow := by
  unfold State.runningSample
  try dsimp only
  repeat' split
  all_goals simp

@[simp] theorem State.failedSample_chans (f : Fan) (r : FanRecord) : (s.failedSample f r).chans = s.chans := by
  unfold State.failedSample
  try dsimp only
  repeat' split
  all_goals simp
@[simp] theorem State.failedSample_bays (f : Fan) (r : FanRecord) : (s.failedSample f r).bays = s.bays := by
  unfold State.failedSample
  try dsimp only
  repeat' split
  all_goals simp
@[simp] theorem State.failedSample_quarantine (f : Fan) (r : FanRecord) : (s.failedSample f r).quarantine = s.quarantine := by
  unfold State.failedSample
  try dsimp only
  repeat' split
  all_goals simp
@[simp] theorem State.failedSample_lights (f : Fan) (r : FanRecord) : (s.failedSample f r).lights = s.lights := by
  unfold State.failedSample
  try dsimp only
  repeat' split
  all_goals simp
@[simp] theorem State.failedSample_link (f : Fan) (r : FanRecord) : (s.failedSample f r).link = s.link := by
  unfold State.failedSample
  try dsimp only
  repeat' split
  all_goals simp
@[simp] theorem State.failedSample_time (f : Fan) (r : FanRecord) : (s.failedSample f r).time = s.time := by
  unfold State.failedSample
  try dsimp only
  repeat' split
  all_goals simp
@[simp] theorem State.failedSample_store (f : Fan) (r : FanRecord) : (s.failedSample f r).store = s.store := by
  unfold State.failedSample
  try dsimp only
  repeat' split
  all_goals simp
@[simp] theorem State.failedSample_cfg (f : Fan) (r : FanRecord) : (s.failedSample f r).cfg = s.cfg := by
  unfold State.failedSample
  try dsimp only
  repeat' split
  all_goals simp
@[simp] theorem State.failedSample_pending (f : Fan) (r : FanRecord) : (s.failedSample f r).pending = s.pending := by
  unfold State.failedSample
  try dsimp only
  repeat' split
  all_goals simp
@[simp] theorem State.failedSample_resetLow (f : Fan) (r : FanRecord) : (s.failedSample f r).resetLow = s.resetLow := by
  unfold State.failedSample
  try dsimp only
  repeat' split
  all_goals simp

@[simp] theorem State.sampleTaken_chans (f : Fan) (r : FanRecord) : (s.sampleTaken f r).chans = s.chans := by
  unfold State.sampleTaken
  try dsimp only
  repeat' split
  all_goals simp
@[simp] theorem State.sampleTaken_bays (f : Fan) (r : FanRecord) : (s.sampleTaken f r).bays = s.bays := by
  unfold State.sampleTaken
  try dsimp only
  repeat' split
  all_goals simp
@[simp] theorem State.sampleTaken_quarantine (f : Fan) (r : FanRecord) : (s.sampleTaken f r).quarantine = s.quarantine := by
  unfold State.sampleTaken
  try dsimp only
  repeat' split
  all_goals simp
@[simp] theorem State.sampleTaken_lights (f : Fan) (r : FanRecord) : (s.sampleTaken f r).lights = s.lights := by
  unfold State.sampleTaken
  try dsimp only
  repeat' split
  all_goals simp
@[simp] theorem State.sampleTaken_link (f : Fan) (r : FanRecord) : (s.sampleTaken f r).link = s.link := by
  unfold State.sampleTaken
  try dsimp only
  repeat' split
  all_goals simp
@[simp] theorem State.sampleTaken_time (f : Fan) (r : FanRecord) : (s.sampleTaken f r).time = s.time := by
  unfold State.sampleTaken
  try dsimp only
  repeat' split
  all_goals simp
@[simp] theorem State.sampleTaken_store (f : Fan) (r : FanRecord) : (s.sampleTaken f r).store = s.store := by
  unfold State.sampleTaken
  try dsimp only
  repeat' split
  all_goals simp
@[simp] theorem State.sampleTaken_cfg (f : Fan) (r : FanRecord) : (s.sampleTaken f r).cfg = s.cfg := by
  unfold State.sampleTaken
  try dsimp only
  repeat' split
  all_goals simp
@[simp] theorem State.sampleTaken_pending (f : Fan) (r : FanRecord) : (s.sampleTaken f r).pending = s.pending := by
  unfold State.sampleTaken
  try dsimp only
  repeat' split
  all_goals simp
@[simp] theorem State.sampleTaken_resetLow (f : Fan) (r : FanRecord) : (s.sampleTaken f r).resetLow = s.resetLow := by
  unfold State.sampleTaken
  try dsimp only
  repeat' split
  all_goals simp

@[simp] theorem State.windowEnds_chans (f : Fan) (w : TachWindow) : (s.windowEnds f w).chans = s.chans := by
  simp [State.windowEnds]
@[simp] theorem State.windowEnds_bays (f : Fan) (w : TachWindow) : (s.windowEnds f w).bays = s.bays := by
  simp [State.windowEnds]
@[simp] theorem State.windowEnds_quarantine (f : Fan) (w : TachWindow) : (s.windowEnds f w).quarantine = s.quarantine := by
  simp [State.windowEnds]
@[simp] theorem State.windowEnds_lights (f : Fan) (w : TachWindow) : (s.windowEnds f w).lights = s.lights := by
  simp [State.windowEnds]
@[simp] theorem State.windowEnds_link (f : Fan) (w : TachWindow) : (s.windowEnds f w).link = s.link := by
  simp [State.windowEnds]
@[simp] theorem State.windowEnds_time (f : Fan) (w : TachWindow) : (s.windowEnds f w).time = s.time := by
  simp [State.windowEnds]
@[simp] theorem State.windowEnds_store (f : Fan) (w : TachWindow) : (s.windowEnds f w).store = s.store := by
  simp [State.windowEnds]
@[simp] theorem State.windowEnds_cfg (f : Fan) (w : TachWindow) : (s.windowEnds f w).cfg = s.cfg := by
  simp [State.windowEnds]
@[simp] theorem State.windowEnds_pending (f : Fan) (w : TachWindow) : (s.windowEnds f w).pending = s.pending := by
  simp [State.windowEnds]
@[simp] theorem State.windowEnds_resetLow (f : Fan) (w : TachWindow) : (s.windowEnds f w).resetLow = s.resetLow := by
  simp [State.windowEnds]

@[simp] theorem State.sensorResult_chans (k : Sensor) (v : Option Int) : (s.sensorResult k v).chans = s.chans := by
  unfold State.sensorResult
  try dsimp only
  repeat' split
  all_goals simp
@[simp] theorem State.sensorResult_bays (k : Sensor) (v : Option Int) : (s.sensorResult k v).bays = s.bays := by
  unfold State.sensorResult
  try dsimp only
  repeat' split
  all_goals simp
@[simp] theorem State.sensorResult_quarantine (k : Sensor) (v : Option Int) : (s.sensorResult k v).quarantine = s.quarantine := by
  unfold State.sensorResult
  try dsimp only
  repeat' split
  all_goals simp
@[simp] theorem State.sensorResult_lights (k : Sensor) (v : Option Int) : (s.sensorResult k v).lights = s.lights := by
  unfold State.sensorResult
  try dsimp only
  repeat' split
  all_goals simp
@[simp] theorem State.sensorResult_link (k : Sensor) (v : Option Int) : (s.sensorResult k v).link = s.link := by
  unfold State.sensorResult
  try dsimp only
  repeat' split
  all_goals simp
@[simp] theorem State.sensorResult_time (k : Sensor) (v : Option Int) : (s.sensorResult k v).time = s.time := by
  unfold State.sensorResult
  try dsimp only
  repeat' split
  all_goals simp
@[simp] theorem State.sensorResult_store (k : Sensor) (v : Option Int) : (s.sensorResult k v).store = s.store := by
  unfold State.sensorResult
  try dsimp only
  repeat' split
  all_goals simp
@[simp] theorem State.sensorResult_cfg (k : Sensor) (v : Option Int) : (s.sensorResult k v).cfg = s.cfg := by
  unfold State.sensorResult
  try dsimp only
  repeat' split
  all_goals simp
@[simp] theorem State.sensorResult_pending (k : Sensor) (v : Option Int) : (s.sensorResult k v).pending = s.pending := by
  unfold State.sensorResult
  try dsimp only
  repeat' split
  all_goals simp
@[simp] theorem State.sensorResult_resetLow (k : Sensor) (v : Option Int) : (s.sensorResult k v).resetLow = s.resetLow := by
  unfold State.sensorResult
  try dsimp only
  repeat' split
  all_goals simp

@[simp] theorem State.reportStale_chans (b : Bay) (r : DriveReport) : (s.reportStale b r).chans = s.chans := by
  simp [State.reportStale]
@[simp] theorem State.reportStale_bays (b : Bay) (r : DriveReport) : (s.reportStale b r).bays = s.bays := by
  simp [State.reportStale]
@[simp] theorem State.reportStale_quarantine (b : Bay) (r : DriveReport) : (s.reportStale b r).quarantine = s.quarantine := by
  simp [State.reportStale]
@[simp] theorem State.reportStale_lights (b : Bay) (r : DriveReport) : (s.reportStale b r).lights = s.lights := by
  simp [State.reportStale]
@[simp] theorem State.reportStale_link (b : Bay) (r : DriveReport) : (s.reportStale b r).link = s.link := by
  simp [State.reportStale]
@[simp] theorem State.reportStale_time (b : Bay) (r : DriveReport) : (s.reportStale b r).time = s.time := by
  simp [State.reportStale]
@[simp] theorem State.reportStale_store (b : Bay) (r : DriveReport) : (s.reportStale b r).store = s.store := by
  simp [State.reportStale]
@[simp] theorem State.reportStale_cfg (b : Bay) (r : DriveReport) : (s.reportStale b r).cfg = s.cfg := by
  simp [State.reportStale]
@[simp] theorem State.reportStale_pending (b : Bay) (r : DriveReport) : (s.reportStale b r).pending = s.pending := by
  simp [State.reportStale]
@[simp] theorem State.reportStale_resetLow (b : Bay) (r : DriveReport) : (s.reportStale b r).resetLow = s.resetLow := by
  simp [State.reportStale]

@[simp] theorem State.retargetAll_chans (a : Bool) : (s.retargetAll a).chans = s.chans := 
  (foldl_keeps (fun t : State => t.chans) (by intros; simp) _ _).trans (by simp)
@[simp] theorem State.retargetAll_bays (a : Bool) : (s.retargetAll a).bays = s.bays := 
  (foldl_keeps (fun t : State => t.bays) (by intros; simp) _ _).trans (by simp)
@[simp] theorem State.retargetAll_quarantine (a : Bool) : (s.retargetAll a).quarantine = s.quarantine := 
  (foldl_keeps (fun t : State => t.quarantine) (by intros; simp) _ _).trans (by simp)
@[simp] theorem State.retargetAll_lights (a : Bool) : (s.retargetAll a).lights = s.lights := 
  (foldl_keeps (fun t : State => t.lights) (by intros; simp) _ _).trans (by simp)
@[simp] theorem State.retargetAll_link (a : Bool) : (s.retargetAll a).link = s.link := 
  (foldl_keeps (fun t : State => t.link) (by intros; simp) _ _).trans (by simp)
@[simp] theorem State.retargetAll_time (a : Bool) : (s.retargetAll a).time = s.time := 
  (foldl_keeps (fun t : State => t.time) (by intros; simp) _ _).trans (by simp)
@[simp] theorem State.retargetAll_store (a : Bool) : (s.retargetAll a).store = s.store := 
  (foldl_keeps (fun t : State => t.store) (by intros; simp) _ _).trans (by simp)
@[simp] theorem State.retargetAll_cfg (a : Bool) : (s.retargetAll a).cfg = s.cfg := 
  (foldl_keeps (fun t : State => t.cfg) (by intros; simp) _ _).trans (by simp)
@[simp] theorem State.retargetAll_pending (a : Bool) : (s.retargetAll a).pending = s.pending := 
  (foldl_keeps (fun t : State => t.pending) (by intros; simp) _ _).trans (by simp)
@[simp] theorem State.retargetAll_resetLow (a : Bool) : (s.retargetAll a).resetLow = s.resetLow := 
  (foldl_keeps (fun t : State => t.resetLow) (by intros; simp) _ _).trans (by simp)

@[simp] theorem State.checkFan_chans (f : Fan) : (s.checkFan f).chans = s.chans := by
  unfold State.checkFan
  try dsimp only
  repeat' split
  all_goals simp
@[simp] theorem State.checkFan_bays (f : Fan) : (s.checkFan f).bays = s.bays := by
  unfold State.checkFan
  try dsimp only
  repeat' split
  all_goals simp
@[simp] theorem State.checkFan_quarantine (f : Fan) : (s.checkFan f).quarantine = s.quarantine := by
  unfold State.checkFan
  try dsimp only
  repeat' split
  all_goals simp
@[simp] theorem State.checkFan_budget (f : Fan) : (s.checkFan f).budget = s.budget := by
  unfold State.checkFan
  try dsimp only
  repeat' split
  all_goals simp
@[simp] theorem State.checkFan_arbiter (f : Fan) : (s.checkFan f).arbiter = s.arbiter := by
  unfold State.checkFan
  try dsimp only
  repeat' split
  all_goals simp
@[simp] theorem State.checkFan_lights (f : Fan) : (s.checkFan f).lights = s.lights := by
  unfold State.checkFan
  try dsimp only
  repeat' split
  all_goals simp
@[simp] theorem State.checkFan_link (f : Fan) : (s.checkFan f).link = s.link := by
  unfold State.checkFan
  try dsimp only
  repeat' split
  all_goals simp
@[simp] theorem State.checkFan_time (f : Fan) : (s.checkFan f).time = s.time := by
  unfold State.checkFan
  try dsimp only
  repeat' split
  all_goals simp
@[simp] theorem State.checkFan_store (f : Fan) : (s.checkFan f).store = s.store := by
  unfold State.checkFan
  try dsimp only
  repeat' split
  all_goals simp
@[simp] theorem State.checkFan_cfg (f : Fan) : (s.checkFan f).cfg = s.cfg := by
  unfold State.checkFan
  try dsimp only
  repeat' split
  all_goals simp
@[simp] theorem State.checkFan_pending (f : Fan) : (s.checkFan f).pending = s.pending := by
  unfold State.checkFan
  try dsimp only
  repeat' split
  all_goals simp
@[simp] theorem State.checkFan_resetLow (f : Fan) : (s.checkFan f).resetLow = s.resetLow := by
  unfold State.checkFan
  try dsimp only
  repeat' split
  all_goals simp

@[simp] theorem State.checkEnds_chans : (s.checkEnds).chans = s.chans := by
  unfold State.checkEnds
  simp [foldl_keeps (fun t : State => t.chans)]
@[simp] theorem State.checkEnds_bays : (s.checkEnds).bays = s.bays := by
  unfold State.checkEnds
  simp [foldl_keeps (fun t : State => t.bays)]
@[simp] theorem State.checkEnds_quarantine : (s.checkEnds).quarantine = s.quarantine := by
  unfold State.checkEnds
  simp [foldl_keeps (fun t : State => t.quarantine)]
@[simp] theorem State.checkEnds_lights : (s.checkEnds).lights = s.lights := by
  unfold State.checkEnds
  simp [foldl_keeps (fun t : State => t.lights)]
@[simp] theorem State.checkEnds_link : (s.checkEnds).link = s.link := by
  unfold State.checkEnds
  simp [foldl_keeps (fun t : State => t.link)]
@[simp] theorem State.checkEnds_time : (s.checkEnds).time = s.time := by
  unfold State.checkEnds
  simp [foldl_keeps (fun t : State => t.time)]
@[simp] theorem State.checkEnds_store : (s.checkEnds).store = s.store := by
  unfold State.checkEnds
  simp [foldl_keeps (fun t : State => t.store)]
@[simp] theorem State.checkEnds_cfg : (s.checkEnds).cfg = s.cfg := by
  unfold State.checkEnds
  simp [foldl_keeps (fun t : State => t.cfg)]
@[simp] theorem State.checkEnds_pending : (s.checkEnds).pending = s.pending := by
  unfold State.checkEnds
  simp [foldl_keeps (fun t : State => t.pending)]
@[simp] theorem State.checkEnds_resetLow : (s.checkEnds).resetLow = s.resetLow := by
  unfold State.checkEnds
  simp [foldl_keeps (fun t : State => t.resetLow)]

@[simp] theorem State.driveLights_chans : (s.driveLights).chans = s.chans := by
  simp [State.driveLights]
@[simp] theorem State.driveLights_bays : (s.driveLights).bays = s.bays := by
  simp [State.driveLights]
@[simp] theorem State.driveLights_quarantine : (s.driveLights).quarantine = s.quarantine := by
  simp [State.driveLights]
@[simp] theorem State.driveLights_budget : (s.driveLights).budget = s.budget := by
  simp [State.driveLights]
@[simp] theorem State.driveLights_arbiter : (s.driveLights).arbiter = s.arbiter := by
  simp [State.driveLights]
@[simp] theorem State.driveLights_cooling : (s.driveLights).cooling = s.cooling := by
  simp [State.driveLights]
@[simp] theorem State.driveLights_link : (s.driveLights).link = s.link := by
  simp [State.driveLights]
@[simp] theorem State.driveLights_events : (s.driveLights).events = s.events := by
  simp [State.driveLights]
@[simp] theorem State.driveLights_time : (s.driveLights).time = s.time := by
  simp [State.driveLights]
@[simp] theorem State.driveLights_store : (s.driveLights).store = s.store := by
  simp [State.driveLights]
@[simp] theorem State.driveLights_cfg : (s.driveLights).cfg = s.cfg := by
  simp [State.driveLights]
@[simp] theorem State.driveLights_pending : (s.driveLights).pending = s.pending := by
  simp [State.driveLights]
@[simp] theorem State.driveLights_resetLow : (s.driveLights).resetLow = s.resetLow := by
  simp [State.driveLights]

@[simp] theorem State.checkBay_chans (b : Bay) : (s.checkBay b).chans = s.chans := by
  unfold State.checkBay
  try dsimp only
  repeat' split
  all_goals simp
@[simp] theorem State.checkBay_link (b : Bay) : (s.checkBay b).link = s.link := by
  unfold State.checkBay
  try dsimp only
  repeat' split
  all_goals simp
@[simp] theorem State.checkBay_time (b : Bay) : (s.checkBay b).time = s.time := by
  unfold State.checkBay
  try dsimp only
  repeat' split
  all_goals simp
@[simp] theorem State.checkBay_store (b : Bay) : (s.checkBay b).store = s.store := by
  unfold State.checkBay
  try dsimp only
  repeat' split
  all_goals simp
@[simp] theorem State.checkBay_cfg (b : Bay) : (s.checkBay b).cfg = s.cfg := by
  unfold State.checkBay
  try dsimp only
  repeat' split
  all_goals simp
@[simp] theorem State.checkBay_pending (b : Bay) : (s.checkBay b).pending = s.pending := by
  unfold State.checkBay
  try dsimp only
  repeat' split
  all_goals simp
@[simp] theorem State.checkBay_resetLow (b : Bay) : (s.checkBay b).resetLow = s.resetLow := by
  unfold State.checkBay
  try dsimp only
  repeat' split
  all_goals simp

@[simp] theorem State.quarantineCheck_chans : (s.quarantineCheck).chans = s.chans := 
  foldl_keeps (fun t : State => t.chans) (by intros; simp) _ _
@[simp] theorem State.quarantineCheck_link : (s.quarantineCheck).link = s.link := 
  foldl_keeps (fun t : State => t.link) (by intros; simp) _ _
@[simp] theorem State.quarantineCheck_time : (s.quarantineCheck).time = s.time := 
  foldl_keeps (fun t : State => t.time) (by intros; simp) _ _
@[simp] theorem State.quarantineCheck_store : (s.quarantineCheck).store = s.store := 
  foldl_keeps (fun t : State => t.store) (by intros; simp) _ _
@[simp] theorem State.quarantineCheck_cfg : (s.quarantineCheck).cfg = s.cfg := 
  foldl_keeps (fun t : State => t.cfg) (by intros; simp) _ _
@[simp] theorem State.quarantineCheck_pending : (s.quarantineCheck).pending = s.pending := 
  foldl_keeps (fun t : State => t.pending) (by intros; simp) _ _
@[simp] theorem State.quarantineCheck_resetLow : (s.quarantineCheck).resetLow = s.resetLow := 
  foldl_keeps (fun t : State => t.resetLow) (by intros; simp) _ _

@[simp] theorem State.quarantineCheckIf_chans (c : Bool) : (s.quarantineCheckIf c).chans = s.chans := by
  unfold State.quarantineCheckIf
  try dsimp only
  repeat' split
  all_goals simp
@[simp] theorem State.quarantineCheckIf_link (c : Bool) : (s.quarantineCheckIf c).link = s.link := by
  unfold State.quarantineCheckIf
  try dsimp only
  repeat' split
  all_goals simp
@[simp] theorem State.quarantineCheckIf_time (c : Bool) : (s.quarantineCheckIf c).time = s.time := by
  unfold State.quarantineCheckIf
  try dsimp only
  repeat' split
  all_goals simp
@[simp] theorem State.quarantineCheckIf_store (c : Bool) : (s.quarantineCheckIf c).store = s.store := by
  unfold State.quarantineCheckIf
  try dsimp only
  repeat' split
  all_goals simp
@[simp] theorem State.quarantineCheckIf_cfg (c : Bool) : (s.quarantineCheckIf c).cfg = s.cfg := by
  unfold State.quarantineCheckIf
  try dsimp only
  repeat' split
  all_goals simp
@[simp] theorem State.quarantineCheckIf_pending (c : Bool) : (s.quarantineCheckIf c).pending = s.pending := by
  unfold State.quarantineCheckIf
  try dsimp only
  repeat' split
  all_goals simp
@[simp] theorem State.quarantineCheckIf_resetLow (c : Bool) : (s.quarantineCheckIf c).resetLow = s.resetLow := by
  unfold State.quarantineCheckIf
  try dsimp only
  repeat' split
  all_goals simp

@[simp] theorem State.mapTo_chans (b : Bay) (n : BayState) (t : Option Nat) : (s.mapTo b n t).chans = s.chans := by
  simp [State.mapTo]
@[simp] theorem State.mapTo_quarantine (b : Bay) (n : BayState) (t : Option Nat) : (s.mapTo b n t).quarantine = s.quarantine := by
  simp [State.mapTo]
@[simp] theorem State.mapTo_budget (b : Bay) (n : BayState) (t : Option Nat) : (s.mapTo b n t).budget = s.budget := by
  simp [State.mapTo]
@[simp] theorem State.mapTo_arbiter (b : Bay) (n : BayState) (t : Option Nat) : (s.mapTo b n t).arbiter = s.arbiter := by
  simp [State.mapTo]
@[simp] theorem State.mapTo_cooling (b : Bay) (n : BayState) (t : Option Nat) : (s.mapTo b n t).cooling = s.cooling := by
  simp [State.mapTo]
@[simp] theorem State.mapTo_link (b : Bay) (n : BayState) (t : Option Nat) : (s.mapTo b n t).link = s.link := by
  simp [State.mapTo]
@[simp] theorem State.mapTo_events (b : Bay) (n : BayState) (t : Option Nat) : (s.mapTo b n t).events = s.events := by
  simp [State.mapTo]
@[simp] theorem State.mapTo_time (b : Bay) (n : BayState) (t : Option Nat) : (s.mapTo b n t).time = s.time := by
  simp [State.mapTo]
@[simp] theorem State.mapTo_store (b : Bay) (n : BayState) (t : Option Nat) : (s.mapTo b n t).store = s.store := by
  simp [State.mapTo]
@[simp] theorem State.mapTo_cfg (b : Bay) (n : BayState) (t : Option Nat) : (s.mapTo b n t).cfg = s.cfg := by
  simp [State.mapTo]
@[simp] theorem State.mapTo_pending (b : Bay) (n : BayState) (t : Option Nat) : (s.mapTo b n t).pending = s.pending := by
  simp [State.mapTo]
@[simp] theorem State.mapTo_resetLow (b : Bay) (n : BayState) (t : Option Nat) : (s.mapTo b n t).resetLow = s.resetLow := by
  simp [State.mapTo]

@[simp] theorem State.mapBay_quarantine (b : Bay) : (s.mapBay b).quarantine = s.quarantine := by
  unfold State.mapBay
  try dsimp only
  repeat' split
  all_goals simp
@[simp] theorem State.mapBay_budget (b : Bay) : (s.mapBay b).budget = s.budget := by
  unfold State.mapBay
  try dsimp only
  repeat' split
  all_goals simp
@[simp] theorem State.mapBay_arbiter (b : Bay) : (s.mapBay b).arbiter = s.arbiter := by
  unfold State.mapBay
  try dsimp only
  repeat' split
  all_goals simp
@[simp] theorem State.mapBay_cooling (b : Bay) : (s.mapBay b).cooling = s.cooling := by
  unfold State.mapBay
  try dsimp only
  repeat' split
  all_goals simp
@[simp] theorem State.mapBay_link (b : Bay) : (s.mapBay b).link = s.link := by
  unfold State.mapBay
  try dsimp only
  repeat' split
  all_goals simp
@[simp] theorem State.mapBay_time (b : Bay) : (s.mapBay b).time = s.time := by
  unfold State.mapBay
  try dsimp only
  repeat' split
  all_goals simp
@[simp] theorem State.mapBay_store (b : Bay) : (s.mapBay b).store = s.store := by
  unfold State.mapBay
  try dsimp only
  repeat' split
  all_goals simp
@[simp] theorem State.mapBay_cfg (b : Bay) : (s.mapBay b).cfg = s.cfg := by
  unfold State.mapBay
  try dsimp only
  repeat' split
  all_goals simp
@[simp] theorem State.mapBay_pending (b : Bay) : (s.mapBay b).pending = s.pending := by
  unfold State.mapBay
  try dsimp only
  repeat' split
  all_goals simp
@[simp] theorem State.mapBay_resetLow (b : Bay) : (s.mapBay b).resetLow = s.resetLow := by
  unfold State.mapBay
  try dsimp only
  repeat' split
  all_goals simp

@[simp] theorem State.rearm_bays (b : Bay) : (s.rearm b).bays = s.bays := by
  unfold State.rearm
  try dsimp only
  repeat' split
  all_goals simp
@[simp] theorem State.rearm_quarantine (b : Bay) : (s.rearm b).quarantine = s.quarantine := by
  unfold State.rearm
  try dsimp only
  repeat' split
  all_goals simp
@[simp] theorem State.rearm_budget (b : Bay) : (s.rearm b).budget = s.budget := by
  unfold State.rearm
  try dsimp only
  repeat' split
  all_goals simp
@[simp] theorem State.rearm_arbiter (b : Bay) : (s.rearm b).arbiter = s.arbiter := by
  unfold State.rearm
  try dsimp only
  repeat' split
  all_goals simp
@[simp] theorem State.rearm_cooling (b : Bay) : (s.rearm b).cooling = s.cooling := by
  unfold State.rearm
  try dsimp only
  repeat' split
  all_goals simp
@[simp] theorem State.rearm_lights (b : Bay) : (s.rearm b).lights = s.lights := by
  unfold State.rearm
  try dsimp only
  repeat' split
  all_goals simp
@[simp] theorem State.rearm_link (b : Bay) : (s.rearm b).link = s.link := by
  unfold State.rearm
  try dsimp only
  repeat' split
  all_goals simp
@[simp] theorem State.rearm_events (b : Bay) : (s.rearm b).events = s.events := by
  unfold State.rearm
  try dsimp only
  repeat' split
  all_goals simp
@[simp] theorem State.rearm_time (b : Bay) : (s.rearm b).time = s.time := by
  unfold State.rearm
  try dsimp only
  repeat' split
  all_goals simp
@[simp] theorem State.rearm_store (b : Bay) : (s.rearm b).store = s.store := by
  unfold State.rearm
  try dsimp only
  repeat' split
  all_goals simp
@[simp] theorem State.rearm_cfg (b : Bay) : (s.rearm b).cfg = s.cfg := by
  unfold State.rearm
  try dsimp only
  repeat' split
  all_goals simp
@[simp] theorem State.rearm_pending (b : Bay) : (s.rearm b).pending = s.pending := by
  unfold State.rearm
  try dsimp only
  repeat' split
  all_goals simp
@[simp] theorem State.rearm_resetLow (b : Bay) : (s.rearm b).resetLow = s.resetLow := by
  unfold State.rearm
  try dsimp only
  repeat' split
  all_goals simp

@[simp] theorem State.warmAtOnce_quarantine : (s.warmAtOnce).quarantine = s.quarantine := by
  unfold State.warmAtOnce
  rw [foldl_keeps (fun t : State => t.quarantine) (f := State.rearm) (by intros; simp)]
  simp [foldl_keeps (fun t : State => t.quarantine) (f := State.mapBay)]
@[simp] theorem State.warmAtOnce_cooling : (s.warmAtOnce).cooling = s.cooling := by
  unfold State.warmAtOnce
  rw [foldl_keeps (fun t : State => t.cooling) (f := State.rearm) (by intros; simp)]
  simp [foldl_keeps (fun t : State => t.cooling) (f := State.mapBay)]
@[simp] theorem State.warmAtOnce_link : (s.warmAtOnce).link = s.link := by
  unfold State.warmAtOnce
  rw [foldl_keeps (fun t : State => t.link) (f := State.rearm) (by intros; simp)]
  simp [foldl_keeps (fun t : State => t.link) (f := State.mapBay)]
@[simp] theorem State.warmAtOnce_time : (s.warmAtOnce).time = s.time := by
  unfold State.warmAtOnce
  rw [foldl_keeps (fun t : State => t.time) (f := State.rearm) (by intros; simp)]
  simp [foldl_keeps (fun t : State => t.time) (f := State.mapBay)]
@[simp] theorem State.warmAtOnce_store : (s.warmAtOnce).store = s.store := by
  unfold State.warmAtOnce
  rw [foldl_keeps (fun t : State => t.store) (f := State.rearm) (by intros; simp)]
  simp [foldl_keeps (fun t : State => t.store) (f := State.mapBay)]
@[simp] theorem State.warmAtOnce_cfg : (s.warmAtOnce).cfg = s.cfg := by
  unfold State.warmAtOnce
  rw [foldl_keeps (fun t : State => t.cfg) (f := State.rearm) (by intros; simp)]
  simp [foldl_keeps (fun t : State => t.cfg) (f := State.mapBay)]
@[simp] theorem State.warmAtOnce_pending : (s.warmAtOnce).pending = s.pending := by
  unfold State.warmAtOnce
  rw [foldl_keeps (fun t : State => t.pending) (f := State.rearm) (by intros; simp)]
  simp [foldl_keeps (fun t : State => t.pending) (f := State.mapBay)]
@[simp] theorem State.warmAtOnce_resetLow : (s.warmAtOnce).resetLow = s.resetLow := by
  unfold State.warmAtOnce
  rw [foldl_keeps (fun t : State => t.resetLow) (f := State.rearm) (by intros; simp)]
  simp [foldl_keeps (fun t : State => t.resetLow) (f := State.mapBay)]

@[simp] theorem State.reload_chans : (s.reload).chans = s.chans := by
  simp [State.reload]
@[simp] theorem State.reload_bays : (s.reload).bays = s.bays := by
  simp [State.reload]
@[simp] theorem State.reload_quarantine : (s.reload).quarantine = s.quarantine := by
  simp [State.reload]
@[simp] theorem State.reload_budget : (s.reload).budget = s.budget := by
  simp [State.reload]
@[simp] theorem State.reload_arbiter : (s.reload).arbiter = s.arbiter := by
  simp [State.reload]
@[simp] theorem State.reload_cooling : (s.reload).cooling = s.cooling := by
  simp [State.reload]
@[simp] theorem State.reload_lights : (s.reload).lights = s.lights := by
  simp [State.reload]
@[simp] theorem State.reload_link : (s.reload).link = s.link := by
  simp [State.reload]
@[simp] theorem State.reload_time : (s.reload).time = s.time := by
  simp [State.reload]
@[simp] theorem State.reload_pending : (s.reload).pending = s.pending := by
  simp [State.reload]
@[simp] theorem State.reload_resetLow : (s.reload).resetLow = s.resetLow := by
  simp [State.reload]

@[simp] theorem State.fanReloaded_chans (f : Fan) : (s.fanReloaded f).chans = s.chans := by
  simp [State.fanReloaded]
@[simp] theorem State.fanReloaded_bays (f : Fan) : (s.fanReloaded f).bays = s.bays := by
  simp [State.fanReloaded]
@[simp] theorem State.fanReloaded_quarantine (f : Fan) : (s.fanReloaded f).quarantine = s.quarantine := by
  simp [State.fanReloaded]
@[simp] theorem State.fanReloaded_budget (f : Fan) : (s.fanReloaded f).budget = s.budget := by
  simp [State.fanReloaded]
@[simp] theorem State.fanReloaded_arbiter (f : Fan) : (s.fanReloaded f).arbiter = s.arbiter := by
  simp [State.fanReloaded]
@[simp] theorem State.fanReloaded_lights (f : Fan) : (s.fanReloaded f).lights = s.lights := by
  simp [State.fanReloaded]
@[simp] theorem State.fanReloaded_link (f : Fan) : (s.fanReloaded f).link = s.link := by
  simp [State.fanReloaded]
@[simp] theorem State.fanReloaded_events (f : Fan) : (s.fanReloaded f).events = s.events := by
  simp [State.fanReloaded]
@[simp] theorem State.fanReloaded_time (f : Fan) : (s.fanReloaded f).time = s.time := by
  simp [State.fanReloaded]
@[simp] theorem State.fanReloaded_store (f : Fan) : (s.fanReloaded f).store = s.store := by
  simp [State.fanReloaded]
@[simp] theorem State.fanReloaded_cfg (f : Fan) : (s.fanReloaded f).cfg = s.cfg := by
  simp [State.fanReloaded]
@[simp] theorem State.fanReloaded_pending (f : Fan) : (s.fanReloaded f).pending = s.pending := by
  simp [State.fanReloaded]
@[simp] theorem State.fanReloaded_resetLow (f : Fan) : (s.fanReloaded f).resetLow = s.resetLow := by
  simp [State.fanReloaded]

@[simp] theorem State.retargetQuietly_chans (z : Zone) : (s.retargetQuietly z).chans = s.chans := 
  (foldl_keeps (fun t : State => t.chans) (by intros; split <;> simp) _ _).trans (by simp)
@[simp] theorem State.retargetQuietly_bays (z : Zone) : (s.retargetQuietly z).bays = s.bays := 
  (foldl_keeps (fun t : State => t.bays) (by intros; split <;> simp) _ _).trans (by simp)
@[simp] theorem State.retargetQuietly_quarantine (z : Zone) : (s.retargetQuietly z).quarantine = s.quarantine := 
  (foldl_keeps (fun t : State => t.quarantine) (by intros; split <;> simp) _ _).trans (by simp)
@[simp] theorem State.retargetQuietly_budget (z : Zone) : (s.retargetQuietly z).budget = s.budget := 
  (foldl_keeps (fun t : State => t.budget) (by intros; split <;> simp) _ _).trans (by simp)
@[simp] theorem State.retargetQuietly_arbiter (z : Zone) : (s.retargetQuietly z).arbiter = s.arbiter := 
  (foldl_keeps (fun t : State => t.arbiter) (by intros; split <;> simp) _ _).trans (by simp)
@[simp] theorem State.retargetQuietly_lights (z : Zone) : (s.retargetQuietly z).lights = s.lights := 
  (foldl_keeps (fun t : State => t.lights) (by intros; split <;> simp) _ _).trans (by simp)
@[simp] theorem State.retargetQuietly_link (z : Zone) : (s.retargetQuietly z).link = s.link := 
  (foldl_keeps (fun t : State => t.link) (by intros; split <;> simp) _ _).trans (by simp)
@[simp] theorem State.retargetQuietly_events (z : Zone) : (s.retargetQuietly z).events = s.events := 
  (foldl_keeps (fun t : State => t.events) (by intros; split <;> simp) _ _).trans (by simp)
@[simp] theorem State.retargetQuietly_time (z : Zone) : (s.retargetQuietly z).time = s.time := 
  (foldl_keeps (fun t : State => t.time) (by intros; split <;> simp) _ _).trans (by simp)
@[simp] theorem State.retargetQuietly_store (z : Zone) : (s.retargetQuietly z).store = s.store := 
  (foldl_keeps (fun t : State => t.store) (by intros; split <;> simp) _ _).trans (by simp)
@[simp] theorem State.retargetQuietly_cfg (z : Zone) : (s.retargetQuietly z).cfg = s.cfg := 
  (foldl_keeps (fun t : State => t.cfg) (by intros; split <;> simp) _ _).trans (by simp)
@[simp] theorem State.retargetQuietly_pending (z : Zone) : (s.retargetQuietly z).pending = s.pending := 
  (foldl_keeps (fun t : State => t.pending) (by intros; split <;> simp) _ _).trans (by simp)
@[simp] theorem State.retargetQuietly_resetLow (z : Zone) : (s.retargetQuietly z).resetLow = s.resetLow := 
  (foldl_keeps (fun t : State => t.resetLow) (by intros; split <;> simp) _ _).trans (by simp)

@[simp] theorem State.budgetReloaded_chans : (s.budgetReloaded).chans = s.chans := by
  simp [State.budgetReloaded]
@[simp] theorem State.budgetReloaded_bays : (s.budgetReloaded).bays = s.bays := by
  simp [State.budgetReloaded]
@[simp] theorem State.budgetReloaded_quarantine : (s.budgetReloaded).quarantine = s.quarantine := by
  simp [State.budgetReloaded]
@[simp] theorem State.budgetReloaded_cooling : (s.budgetReloaded).cooling = s.cooling := by
  simp [State.budgetReloaded]
@[simp] theorem State.budgetReloaded_lights : (s.budgetReloaded).lights = s.lights := by
  simp [State.budgetReloaded]
@[simp] theorem State.budgetReloaded_link : (s.budgetReloaded).link = s.link := by
  simp [State.budgetReloaded]
@[simp] theorem State.budgetReloaded_time : (s.budgetReloaded).time = s.time := by
  simp [State.budgetReloaded]
@[simp] theorem State.budgetReloaded_store : (s.budgetReloaded).store = s.store := by
  simp [State.budgetReloaded]
@[simp] theorem State.budgetReloaded_cfg : (s.budgetReloaded).cfg = s.cfg := by
  simp [State.budgetReloaded]
@[simp] theorem State.budgetReloaded_pending : (s.budgetReloaded).pending = s.pending := by
  simp [State.budgetReloaded]
@[simp] theorem State.budgetReloaded_resetLow : (s.budgetReloaded).resetLow = s.resetLow := by
  simp [State.budgetReloaded]

@[simp] theorem State.requeue_chans (n : EventTime) (b : Bay) : (s.requeue n b).chans = s.chans := by
  unfold State.requeue
  try dsimp only
  repeat' split
  all_goals simp
@[simp] theorem State.requeue_quarantine (n : EventTime) (b : Bay) : (s.requeue n b).quarantine = s.quarantine := by
  unfold State.requeue
  try dsimp only
  repeat' split
  all_goals simp
@[simp] theorem State.requeue_link (n : EventTime) (b : Bay) : (s.requeue n b).link = s.link := by
  unfold State.requeue
  try dsimp only
  repeat' split
  all_goals simp
@[simp] theorem State.requeue_time (n : EventTime) (b : Bay) : (s.requeue n b).time = s.time := by
  unfold State.requeue
  try dsimp only
  repeat' split
  all_goals simp
@[simp] theorem State.requeue_store (n : EventTime) (b : Bay) : (s.requeue n b).store = s.store := by
  unfold State.requeue
  try dsimp only
  repeat' split
  all_goals simp
@[simp] theorem State.requeue_cfg (n : EventTime) (b : Bay) : (s.requeue n b).cfg = s.cfg := by
  unfold State.requeue
  try dsimp only
  repeat' split
  all_goals simp
@[simp] theorem State.requeue_pending (n : EventTime) (b : Bay) : (s.requeue n b).pending = s.pending := by
  unfold State.requeue
  try dsimp only
  repeat' split
  all_goals simp
@[simp] theorem State.requeue_resetLow (n : EventTime) (b : Bay) : (s.requeue n b).resetLow = s.resetLow := by
  unfold State.requeue
  try dsimp only
  repeat' split
  all_goals simp

@[simp] theorem State.finishRestart_chans (l : AwaitedReload) : (s.finishRestart l).chans = s.chans := by
  unfold State.finishRestart
  simp [foldl_keeps (fun t : State => t.chans)]
@[simp] theorem State.finishRestart_link (l : AwaitedReload) : (s.finishRestart l).link = s.link := by
  unfold State.finishRestart
  simp [foldl_keeps (fun t : State => t.link)]
@[simp] theorem State.finishRestart_time (l : AwaitedReload) : (s.finishRestart l).time = s.time := by
  unfold State.finishRestart
  simp [foldl_keeps (fun t : State => t.time)]
@[simp] theorem State.finishRestart_pending (l : AwaitedReload) : (s.finishRestart l).pending = s.pending := by
  unfold State.finishRestart
  simp [foldl_keeps (fun t : State => t.pending)]
@[simp] theorem State.finishRestart_resetLow (l : AwaitedReload) : (s.finishRestart l).resetLow = s.resetLow := by
  unfold State.finishRestart
  simp [foldl_keeps (fun t : State => t.resetLow)]

@[simp] theorem State.warmRestart_link : (s.warmRestart).link = s.link := by
  unfold State.warmRestart
  try dsimp only
  repeat' split
  all_goals simp
@[simp] theorem State.warmRestart_time : (s.warmRestart).time = s.time := by
  unfold State.warmRestart
  try dsimp only
  repeat' split
  all_goals simp
@[simp] theorem State.warmRestart_pending : (s.warmRestart).pending = s.pending := by
  unfold State.warmRestart
  try dsimp only
  repeat' split
  all_goals simp
@[simp] theorem State.warmRestart_resetLow : (s.warmRestart).resetLow = s.resetLow := by
  unfold State.warmRestart
  try dsimp only
  repeat' split
  all_goals simp

@[simp] theorem State.writeCompletes_chans (x : Settings) : (s.writeCompletes x).chans = s.chans := by
  unfold State.writeCompletes
  try dsimp only
  repeat' split
  all_goals simp
@[simp] theorem State.writeCompletes_link (x : Settings) : (s.writeCompletes x).link = s.link := by
  unfold State.writeCompletes
  try dsimp only
  repeat' split
  all_goals simp
@[simp] theorem State.writeCompletes_time (x : Settings) : (s.writeCompletes x).time = s.time := by
  unfold State.writeCompletes
  try dsimp only
  repeat' split
  all_goals simp
@[simp] theorem State.writeCompletes_pending (x : Settings) : (s.writeCompletes x).pending = s.pending := by
  unfold State.writeCompletes
  try dsimp only
  repeat' split
  all_goals simp
@[simp] theorem State.writeCompletes_resetLow (x : Settings) : (s.writeCompletes x).resetLow = s.resetLow := by
  unfold State.writeCompletes
  try dsimp only
  repeat' split
  all_goals simp

@[simp] theorem State.clearLatchOf_chans (b : Bay) : (s.clearLatchOf b).chans = s.chans := rfl
@[simp] theorem State.clearLatchOf_bays (b : Bay) : (s.clearLatchOf b).bays = s.bays := rfl
@[simp] theorem State.clearLatchOf_quarantine (b : Bay) : (s.clearLatchOf b).quarantine = s.quarantine := rfl
@[simp] theorem State.clearLatchOf_budget (b : Bay) : (s.clearLatchOf b).budget = s.budget := rfl
@[simp] theorem State.clearLatchOf_arbiter (b : Bay) : (s.clearLatchOf b).arbiter = s.arbiter := rfl
@[simp] theorem State.clearLatchOf_cooling (b : Bay) : (s.clearLatchOf b).cooling = s.cooling := rfl
@[simp] theorem State.clearLatchOf_link (b : Bay) : (s.clearLatchOf b).link = s.link := rfl
@[simp] theorem State.clearLatchOf_events (b : Bay) : (s.clearLatchOf b).events = s.events := rfl
@[simp] theorem State.clearLatchOf_time (b : Bay) : (s.clearLatchOf b).time = s.time := rfl
@[simp] theorem State.clearLatchOf_store (b : Bay) : (s.clearLatchOf b).store = s.store := rfl
@[simp] theorem State.clearLatchOf_cfg (b : Bay) : (s.clearLatchOf b).cfg = s.cfg := rfl
@[simp] theorem State.clearLatchOf_pending (b : Bay) : (s.clearLatchOf b).pending = s.pending := rfl
@[simp] theorem State.clearLatchOf_resetLow (b : Bay) : (s.clearLatchOf b).resetLow = s.resetLow := rfl

@[simp] theorem State.putReport_chans (b : Bay) (r : Option DriveReport) : (s.putReport b r).chans = s.chans := rfl
@[simp] theorem State.putReport_bays (b : Bay) (r : Option DriveReport) : (s.putReport b r).bays = s.bays := rfl
@[simp] theorem State.putReport_quarantine (b : Bay) (r : Option DriveReport) : (s.putReport b r).quarantine = s.quarantine := rfl
@[simp] theorem State.putReport_budget (b : Bay) (r : Option DriveReport) : (s.putReport b r).budget = s.budget := rfl
@[simp] theorem State.putReport_arbiter (b : Bay) (r : Option DriveReport) : (s.putReport b r).arbiter = s.arbiter := rfl
@[simp] theorem State.putReport_lights (b : Bay) (r : Option DriveReport) : (s.putReport b r).lights = s.lights := rfl
@[simp] theorem State.putReport_link (b : Bay) (r : Option DriveReport) : (s.putReport b r).link = s.link := rfl
@[simp] theorem State.putReport_events (b : Bay) (r : Option DriveReport) : (s.putReport b r).events = s.events := rfl
@[simp] theorem State.putReport_time (b : Bay) (r : Option DriveReport) : (s.putReport b r).time = s.time := rfl
@[simp] theorem State.putReport_store (b : Bay) (r : Option DriveReport) : (s.putReport b r).store = s.store := rfl
@[simp] theorem State.putReport_cfg (b : Bay) (r : Option DriveReport) : (s.putReport b r).cfg = s.cfg := rfl
@[simp] theorem State.putReport_pending (b : Bay) (r : Option DriveReport) : (s.putReport b r).pending = s.pending := rfl
@[simp] theorem State.putReport_resetLow (b : Bay) (r : Option DriveReport) : (s.putReport b r).resetLow = s.resetLow := rfl

@[simp] theorem State.writeAirCurve_chans (z : Zone) (c : Curve) : (s.writeAirCurve z c).chans = s.chans := by
  simp [State.writeAirCurve]
@[simp] theorem State.writeAirCurve_bays (z : Zone) (c : Curve) : (s.writeAirCurve z c).bays = s.bays := by
  simp [State.writeAirCurve]
@[simp] theorem State.writeAirCurve_quarantine (z : Zone) (c : Curve) : (s.writeAirCurve z c).quarantine = s.quarantine := by
  simp [State.writeAirCurve]
@[simp] theorem State.writeAirCurve_lights (z : Zone) (c : Curve) : (s.writeAirCurve z c).lights = s.lights := by
  simp [State.writeAirCurve]
@[simp] theorem State.writeAirCurve_link (z : Zone) (c : Curve) : (s.writeAirCurve z c).link = s.link := by
  simp [State.writeAirCurve]
@[simp] theorem State.writeAirCurve_time (z : Zone) (c : Curve) : (s.writeAirCurve z c).time = s.time := by
  simp [State.writeAirCurve]
@[simp] theorem State.writeAirCurve_store (z : Zone) (c : Curve) : (s.writeAirCurve z c).store = s.store := by
  simp [State.writeAirCurve]
@[simp] theorem State.writeAirCurve_pending (z : Zone) (c : Curve) : (s.writeAirCurve z c).pending = s.pending := by
  simp [State.writeAirCurve]
@[simp] theorem State.writeAirCurve_resetLow (z : Zone) (c : Curve) : (s.writeAirCurve z c).resetLow = s.resetLow := by
  simp [State.writeAirCurve]

@[simp] theorem State.writeFan_chans (f : Fan) (x : FanSettings) : (s.writeFan f x).chans = s.chans := by
  unfold State.writeFan
  dsimp only
  repeat' split
  all_goals simp
@[simp] theorem State.writeFan_bays (f : Fan) (x : FanSettings) : (s.writeFan f x).bays = s.bays := by
  unfold State.writeFan
  dsimp only
  repeat' split
  all_goals simp
@[simp] theorem State.writeFan_quarantine (f : Fan) (x : FanSettings) : (s.writeFan f x).quarantine = s.quarantine := by
  unfold State.writeFan
  dsimp only
  repeat' split
  all_goals simp
@[simp] theorem State.writeFan_lights (f : Fan) (x : FanSettings) : (s.writeFan f x).lights = s.lights := by
  unfold State.writeFan
  dsimp only
  repeat' split
  all_goals simp
@[simp] theorem State.writeFan_link (f : Fan) (x : FanSettings) : (s.writeFan f x).link = s.link := by
  unfold State.writeFan
  dsimp only
  repeat' split
  all_goals simp
@[simp] theorem State.writeFan_time (f : Fan) (x : FanSettings) : (s.writeFan f x).time = s.time := by
  unfold State.writeFan
  dsimp only
  repeat' split
  all_goals simp
@[simp] theorem State.writeFan_store (f : Fan) (x : FanSettings) : (s.writeFan f x).store = s.store := by
  unfold State.writeFan
  dsimp only
  repeat' split
  all_goals simp
@[simp] theorem State.writeFan_pending (f : Fan) (x : FanSettings) : (s.writeFan f x).pending = s.pending := by
  unfold State.writeFan
  dsimp only
  repeat' split
  all_goals simp
@[simp] theorem State.writeFan_resetLow (f : Fan) (x : FanSettings) : (s.writeFan f x).resetLow = s.resetLow := by
  unfold State.writeFan
  dsimp only
  repeat' split
  all_goals simp

@[simp] theorem State.writeAdmission_chans (x : AdmissionParams) : (s.writeAdmission x).chans = s.chans := by
  simp [State.writeAdmission]
@[simp] theorem State.writeAdmission_link (x : AdmissionParams) : (s.writeAdmission x).link = s.link := by
  simp [State.writeAdmission]
@[simp] theorem State.writeAdmission_time (x : AdmissionParams) : (s.writeAdmission x).time = s.time := by
  simp [State.writeAdmission]
@[simp] theorem State.writeAdmission_store (x : AdmissionParams) : (s.writeAdmission x).store = s.store := by
  simp [State.writeAdmission]
@[simp] theorem State.writeAdmission_pending (x : AdmissionParams) : (s.writeAdmission x).pending = s.pending := by
  simp [State.writeAdmission]
@[simp] theorem State.writeAdmission_resetLow (x : AdmissionParams) : (s.writeAdmission x).resetLow = s.resetLow := by
  simp [State.writeAdmission]

@[simp] theorem State.setReceiver_chans (r : Receiver) : (s.setReceiver r).chans = s.chans := rfl
@[simp] theorem State.setReceiver_bays (r : Receiver) : (s.setReceiver r).bays = s.bays := rfl
@[simp] theorem State.setReceiver_quarantine (r : Receiver) : (s.setReceiver r).quarantine = s.quarantine := rfl
@[simp] theorem State.setReceiver_budget (r : Receiver) : (s.setReceiver r).budget = s.budget := rfl
@[simp] theorem State.setReceiver_arbiter (r : Receiver) : (s.setReceiver r).arbiter = s.arbiter := rfl
@[simp] theorem State.setReceiver_cooling (r : Receiver) : (s.setReceiver r).cooling = s.cooling := rfl
@[simp] theorem State.setReceiver_lights (r : Receiver) : (s.setReceiver r).lights = s.lights := rfl
@[simp] theorem State.setReceiver_events (r : Receiver) : (s.setReceiver r).events = s.events := rfl
@[simp] theorem State.setReceiver_time (r : Receiver) : (s.setReceiver r).time = s.time := rfl
@[simp] theorem State.setReceiver_store (r : Receiver) : (s.setReceiver r).store = s.store := rfl
@[simp] theorem State.setReceiver_cfg (r : Receiver) : (s.setReceiver r).cfg = s.cfg := rfl
@[simp] theorem State.setReceiver_pending (r : Receiver) : (s.setReceiver r).pending = s.pending := rfl
@[simp] theorem State.setReceiver_resetLow (r : Receiver) : (s.setReceiver r).resetLow = s.resetLow := rfl

@[simp] theorem State.setReply_chans (r : ReplyState) : (s.setReply r).chans = s.chans := rfl
@[simp] theorem State.setReply_bays (r : ReplyState) : (s.setReply r).bays = s.bays := rfl
@[simp] theorem State.setReply_quarantine (r : ReplyState) : (s.setReply r).quarantine = s.quarantine := rfl
@[simp] theorem State.setReply_budget (r : ReplyState) : (s.setReply r).budget = s.budget := rfl
@[simp] theorem State.setReply_arbiter (r : ReplyState) : (s.setReply r).arbiter = s.arbiter := rfl
@[simp] theorem State.setReply_cooling (r : ReplyState) : (s.setReply r).cooling = s.cooling := rfl
@[simp] theorem State.setReply_lights (r : ReplyState) : (s.setReply r).lights = s.lights := rfl
@[simp] theorem State.setReply_events (r : ReplyState) : (s.setReply r).events = s.events := rfl
@[simp] theorem State.setReply_time (r : ReplyState) : (s.setReply r).time = s.time := rfl
@[simp] theorem State.setReply_store (r : ReplyState) : (s.setReply r).store = s.store := rfl
@[simp] theorem State.setReply_cfg (r : ReplyState) : (s.setReply r).cfg = s.cfg := rfl
@[simp] theorem State.setReply_pending (r : ReplyState) : (s.setReply r).pending = s.pending := rfl
@[simp] theorem State.setReply_resetLow (r : ReplyState) : (s.setReply r).resetLow = s.resetLow := rfl

@[simp] theorem State.doAction_link (a : AfterReply) : (s.doAction a).link = s.link := by
  unfold State.doAction
  try dsimp only
  repeat' split
  all_goals simp
@[simp] theorem State.doAction_time (a : AfterReply) : (s.doAction a).time = s.time := by
  unfold State.doAction
  try dsimp only
  repeat' split
  all_goals simp
@[simp] theorem State.doAction_pending (a : AfterReply) : (s.doAction a).pending = s.pending := by
  unfold State.doAction
  try dsimp only
  repeat' split
  all_goals simp
@[simp] theorem State.doAction_resetLow (a : AfterReply) : (s.doAction a).resetLow = s.resetLow := by
  unfold State.doAction
  try dsimp only
  repeat' split
  all_goals simp

@[simp] theorem State.pend_chans (k t : Byte) (a : Answer) : (s.pend k t a).chans = s.chans := by
  simp [State.pend]
@[simp] theorem State.pend_bays (k t : Byte) (a : Answer) : (s.pend k t a).bays = s.bays := by
  simp [State.pend]
@[simp] theorem State.pend_quarantine (k t : Byte) (a : Answer) : (s.pend k t a).quarantine = s.quarantine := by
  simp [State.pend]
@[simp] theorem State.pend_budget (k t : Byte) (a : Answer) : (s.pend k t a).budget = s.budget := by
  simp [State.pend]
@[simp] theorem State.pend_arbiter (k t : Byte) (a : Answer) : (s.pend k t a).arbiter = s.arbiter := by
  simp [State.pend]
@[simp] theorem State.pend_cooling (k t : Byte) (a : Answer) : (s.pend k t a).cooling = s.cooling := by
  simp [State.pend]
@[simp] theorem State.pend_lights (k t : Byte) (a : Answer) : (s.pend k t a).lights = s.lights := by
  simp [State.pend]
@[simp] theorem State.pend_events (k t : Byte) (a : Answer) : (s.pend k t a).events = s.events := by
  simp [State.pend]
@[simp] theorem State.pend_time (k t : Byte) (a : Answer) : (s.pend k t a).time = s.time := by
  simp [State.pend]
@[simp] theorem State.pend_store (k t : Byte) (a : Answer) : (s.pend k t a).store = s.store := by
  simp [State.pend]
@[simp] theorem State.pend_cfg (k t : Byte) (a : Answer) : (s.pend k t a).cfg = s.cfg := by
  simp [State.pend]
@[simp] theorem State.pend_pending (k t : Byte) (a : Answer) : (s.pend k t a).pending = s.pending := by
  simp [State.pend]
@[simp] theorem State.pend_resetLow (k t : Byte) (a : Answer) : (s.pend k t a).resetLow = s.resetLow := by
  simp [State.pend]

@[simp] theorem State.withdraw_time : (s.withdraw).time = s.time := by
  simp [State.withdraw]
@[simp] theorem State.withdraw_pending : (s.withdraw).pending = s.pending := by
  simp [State.withdraw]
@[simp] theorem State.withdraw_resetLow : (s.withdraw).resetLow = s.resetLow := by
  simp [State.withdraw]

end Sys2Proof.Machine
end

