-- ==== Sys2Proof/Laws/Settles.lean ====
section
/-! SUPPORT. What each operation behind a notice can do, said once: its result settles from the state it is given. -/

namespace Sys2Proof.Machine

/-! ## Events raised -/

theorem State.raiseAll_append (s : State) (xs ys : List Event) : s.raiseAll (xs ++ ys) = (s.raiseAll xs).raiseAll ys :=
  List.foldl_append

/-- What raising events leaves in the queue depends on the queue and the event time alone. -/
theorem State.raiseAll_events_congr {s t : State} (he : t.events = s.events) (ht : t.time = s.time) (es : List Event) :
    (t.raiseAll es).events = (s.raiseAll es).events := by
  induction es generalizing s t with
  | nil => exact he
  | cons e es ih =>
    refine ih (s := s.raise e) (t := t.raise e) ?_ ht
    simp only [State.raise, State.putEvents_events, he, ht]

theorem Raises.refl (s : State) : Raises [] s s := ⟨[], rfl⟩

theorem Raises.of_events_eq {s t : State} (h : t.events = s.events) : Raises [] s t := ⟨[], h⟩

theorem Raises.trans {es : List Event} {s t u : State} (h1 : Raises es s t) (ht : t.time = s.time)
    (h2 : Raises [] t u) : Raises es s u := by
  obtain ⟨xs, hx⟩ := h1
  obtain ⟨ys, hy⟩ := h2
  refine ⟨xs ++ ys, ?_⟩
  rw [List.nil_append] at hy
  rw [hy, ← List.append_assoc, State.raiseAll_append s (es ++ xs)]
  exact State.raiseAll_events_congr hx (by rw [ht, State.raiseAll_time]) _

theorem Raises.weaken {es : List Event} {s t : State} (h : Raises es s t) : Raises [] s t := by
  obtain ⟨xs, hx⟩ := h
  exact ⟨es ++ xs, hx⟩

theorem State.raiseAll_raises (s : State) (es : List Event) : Raises es s (s.raiseAll es) := ⟨[], by simp⟩

/-- A change of a state that keeps its events and time does not change what is raised after it. -/
theorem Raises.congr_left {es : List Event} {r s t : State} (he : r.events = s.events) (ht : r.time = s.time)
    (h : Raises es r t) : Raises es s t := by
  obtain ⟨xs, hx⟩ := h
  exact ⟨xs, hx.trans (State.raiseAll_events_congr he ht _)⟩

/-! ## Settling -/

theorem Extends.refl {α : Type} (xs : List α) : ∃ more, xs = xs ++ more := ⟨[], by simp⟩

theorem Extends.trans {α : Type} {xs ys zs : List α} (h1 : ∃ more, ys = xs ++ more) (h2 : ∃ more, zs = ys ++ more) :
    ∃ more, zs = xs ++ more := by
  obtain ⟨p, rfl⟩ := h1
  obtain ⟨q, rfl⟩ := h2
  exact ⟨p ++ q, by simp⟩

@[refl] theorem NoPass.refl (a : Arbiter) : NoPass a a := ⟨rfl, rfl, rfl, id⟩

theorem NoPass.trans {a b c : Arbiter} (h1 : NoPass a b) (h2 : NoPass b c) : NoPass a c :=
  ⟨h2.1.trans h1.1, h2.2.1.trans h1.2.1, h2.2.2.1.trans h1.2.2.1, fun h => h2.2.2.2 (h1.2.2.2 h)⟩

theorem mem_allBays (b : Bay) : b ∈ allBays := by revert b; decide

/-- Passes stay blocked while their blocking conditions stand. -/
theorem Blocked.congr {s t : State} (h : Blocked s) (hs : t.arbiter.stagger = s.arbiter.stagger) (hb : t.bays = s.bays)
    (hh : t.arbiter.startUpHold = s.arbiter.startUpHold) (hg : t.arbiter.grantRecord = s.arbiter.grantRecord) :
    Blocked t := by
  simpa only [Blocked, State.bay, hs, hb, hh, hg] using h

theorem State.passBlocked_iff (s : State) : s.passBlocked = true ↔ Blocked s := by
  have h : allBays.any (fun b => (s.bay b).state == .ramping) = true ↔ ∃ b, (s.bay b).state = .ramping := by
    simp only [List.any_eq_true, beq_iff_eq]
    exact ⟨fun ⟨b, _, e⟩ => ⟨b, e⟩, fun ⟨b, e⟩ => ⟨b, mem_allBays b, e⟩⟩
  simp only [State.passBlocked, Blocked, Bool.or_eq_true, h]
  tauto

/-- What a trigger left stands until a pass runs. -/
theorem Triggered.noPass {p : Bay → Prop} {s t : State} (h : Triggered p s) (n : NoPass s.arbiter t.arbiter)
    (ht : t.time = s.time) (hc : t.cfg = s.cfg) (hq : t.arbiter.queue = s.arbiter.queue)
    (hs : t.arbiter.stagger = s.arbiter.stagger) (hb : t.bays = s.bays)
    (hh : t.arbiter.startUpHold = s.arbiter.startUpHold) : Triggered p t := by
  rcases h with ⟨h, m⟩ | ⟨v, ⟨u, vt, vc, vq, w, hw, e1, e2, e3⟩, hv⟩
  · exact .inl ⟨h.congr hs hb hh n.1, n.2.2.2 m⟩
  · refine .inr ⟨v, ⟨u, vt.trans ht.symm, vc.trans hc.symm, vq.trans hq.symm, w, hw, n.2.2.1.trans e1, n.1.trans e2,
      n.2.1.trans e3⟩, fun c k => ?_⟩
    rw [hv c k, State.bay, State.bay, hb]

/-! ## The pass (R82 to R86) -/

theorem State.skipped_iff (s : State) (e : QueueEntry) : s.skipped e = true ↔ SkippedBy s e := by
  simp [State.skipped, SkippedBy, State.zone]

/-- The decision of a pass is the one its rules give. -/
theorem State.passDecision_decides (s : State) :
    Decides s s.passDecision.result s.passDecision.head s.passDecision.granted := by
  have fits : ∀ e, s.fits e = true ↔ (s.price e : Int) ≤ s.budget.figures.headroom := by simp [State.fits]
  have walked : ∀ e, (!s.skipped e) = true ↔ ¬ SkippedBy s e := by simp [← State.skipped_iff]
  generalize hd : s.passDecision = d
  unfold State.passDecision at hd
  unfold Decides
  dsimp only
  split at hd
  · rename_i h
    subst hd
    simp [h]
  rename_i hk
  rw [if_neg hk]
  split at hd
  · rename_i h
    subst hd
    simp [List.isEmpty_iff.1 h]
  rename_i hq
  rw [if_neg (fun h => hq (by simp [h]))]
  split at hd
  · rename_i h
    subst hd
    refine .inl ⟨fun e he => ?_, rfl, rfl, rfl⟩
    have := List.filter_eq_nil_iff.1 h e he
    rwa [walked, not_not] at this
  · rename_i head rest h
    obtain ⟨pre, post, hl, hp, hh, hr⟩ := List.filter_eq_cons_iff.1 h
    have hh' : ¬ SkippedBy s head := (walked _).1 hh
    have hp' : ∀ e ∈ pre, SkippedBy s e := fun e he => by
      have := hp e he
      rwa [walked, not_not] at this
    have find : rest.find? s.fits = post.find? (fun e => !s.skipped e && s.fits e) := by
      rw [← hr, List.find?_filter]
      simp only [Bool.decide_and, Bool.decide_eq_true]
    split at hd
    · rename_i hf
      subst hd
      exact .inr ⟨pre, head, post, hl, hp', hh', rfl, .inl ⟨(fits _).1 hf, rfl, rfl⟩⟩
    rename_i hf
    rw [fits] at hf
    split at hd
    · rename_i hb
      split at hd
      · rename_i e he
        subst hd
        rw [find, List.find?_eq_some_iff_append] at he
        obtain ⟨hg, as, bs, hs, ha⟩ := he
        rw [Bool.and_eq_true, walked, fits] at hg
        refine .inr ⟨pre, head, post, hl, hp', hh', rfl,
          .inr (.inr (.inr ⟨hf, hb, rfl, as, e, bs, hs, fun x hx => ?_, hg.1, hg.2, rfl⟩))⟩
        have := ha x hx
        rw [Bool.not_eq_true', ← Bool.not_eq_true, Bool.and_eq_true, walked, fits] at this
        tauto
      · rename_i he
        subst hd
        rw [find, List.find?_eq_none] at he
        refine .inr ⟨pre, head, post, hl, hp', hh', rfl, .inr (.inr (.inl ⟨hf, hb, rfl, rfl, fun x hx => ?_⟩))⟩
        have := he x hx
        rw [Bool.and_eq_true, walked, fits] at this
        tauto
    · rename_i hb
      subst hd
      exact .inr ⟨pre, head, post, hl, hp', hh', rfl, .inr (.inl ⟨hf, Nat.le_of_not_lt hb, rfl, rfl⟩)⟩

/-- A trigger is taken as its rules say. -/
theorem State.trigger_passTaken (s : State) : PassTaken s s.trigger := by
  constructor
  · intro h
    rw [State.trigger, if_pos ((s.passBlocked_iff).2 h)]
  · intro h
    have hg : s.arbiter.grantRecord = none := by
      rcases e : s.arbiter.grantRecord with _ | g
      · rfl
      · exact absurd (.inr (.inr (.inr (by rw [e]; rfl)))) h
    refine ⟨_, _, _, s.passDecision_decides, ?_⟩
    rw [State.trigger, if_neg (fun e => h ((s.passBlocked_iff).1 e)), State.passed]
    dsimp only
    rcases e : s.passDecision.granted with _ | x
    · simp [hg, State.passRecord, e]
    · cases k : x.kind <;> simp [State.passRecord, PassDecision.record, State.grantOf, State.pricedValues, State.pricedBy, e, k]

/-- A trigger sets the pending mark or runs a pass. -/
theorem State.trigger_triggered (s : State) : Triggered (fun _ => False) s.trigger := by
  have h := s.trigger_passTaken
  by_cases hb : Blocked s
  · rw [h.1 hb]
    exact .inl ⟨hb.congr rfl rfl rfl rfl, rfl⟩
  · refine .inr ⟨s, ⟨hb, rfl, rfl, ?_, s.trigger, h, rfl, rfl, rfl⟩, fun _ _ => rfl⟩
    obtain ⟨_, _, _, _, e⟩ := h.2 hb
    rw [e]
    rfl

@[refl] theorem Settles.refl (s : State) : Settles s s := by
  constructor <;> intros <;>
    first | rfl | assumption | exact Raises.refl s | exact Extends.refl _ | exact .inl (NoPass.refl _)

@[trans] theorem Settles.trans {s t u : State} (h1 : Settles s t) (h2 : Settles t u) : Settles s u where
  chans := h2.chans.trans h1.chans
  bays := h2.bays.trans h1.bays
  quarantine := h2.quarantine.trans h1.quarantine
  lights := h2.lights.trans h1.lights
  link := h2.link.trans h1.link
  time := h2.time.trans h1.time
  store := h2.store.trans h1.store
  cfg := h2.cfg.trans h1.cfg
  pending := h2.pending.trans h1.pending
  resetLow := h2.resetLow.trans h1.resetLow
  queue := h2.queue.trans h1.queue
  spinCount := h2.spinCount.trans h1.spinCount
  stagger := h2.stagger.trans h1.stagger
  startUpHold := h2.startUpHold.trans h1.startUpHold
  declines := h2.declines.trans h1.declines
  slots := h2.slots.trans h1.slots
  commitments := h2.commitments.trans h1.commitments
  grantOrder := h2.grantOrder.trans h1.grantOrder
  grants := Extends.trans h1.grants h2.grants
  blocked h := (h1.blocked h).trans (h2.blocked (h.congr h1.stagger h1.bays h1.startUpHold (h1.blocked h).1))
  passes := by
    rcases h2.passes with n | g
    · rcases h1.passes with m | g
      · exact .inl (m.trans n)
      · exact .inr (g.noPass n h2.time h2.cfg h2.queue h2.stagger h2.bays h2.startUpHold)
    · exact .inr g
  revocations := Extends.trans h1.revocations h2.revocations
  outstanding b h := h2.outstanding b (h1.outstanding b h)
  sensors := h2.sensors.trans h1.sensors
  reports := h2.reports.trans h1.reports
  evaluation := h2.evaluation.trans h1.evaluation
  sensorRead := h2.sensorRead.trans h1.sensorRead
  fanCheck := h2.fanCheck.trans h1.fanCheck
  fans f := by
    have a := h1.fans f
    have b := h2.fans f
    rw [b, a]
  standing f h := (h2.standing f (by rw [h1.fans f]; exact h)).trans (h1.standing f h)
  events := h1.events.trans h1.time h2.events

theorem Settles.foldl {α : Type} {f : State → α → State} (h : ∀ s a, Settles s (f s a)) (l : List α) (s : State) :
    Settles s (l.foldl f s) := by
  induction l generalizing s with
  | nil => exact .refl s
  | cons a l ih => exact (h s a).trans (ih _)

variable (s : State)

/-- A fan's duty apart, the fans of a state whose cooling controller is kept are kept. -/
theorem State.fan_of_cooling_eq {s t : State} (h : t.cooling = s.cooling) (f : Fan) : t.fan f = s.fan f := by
  simp only [State.fan, h]

theorem State.raise_settles (e : Event) : Settles s (s.raise e) := by
  constructor <;> intros <;>
    first | rfl | assumption | exact ⟨[e], rfl⟩ | exact Extends.refl _ | exact .inl (NoPass.refl _)

/-- A trigger changes the arbiter's pass, mark and grant, and nothing else. -/
theorem State.trigger_settles : Settles s s.trigger := by
  have h : ∃ a : Arbiter, s.trigger = s.putArbiter a ∧ a.queue = s.arbiter.queue ∧
      a.spinCount = s.arbiter.spinCount ∧ a.stagger = s.arbiter.stagger ∧
      a.startUpHold = s.arbiter.startUpHold ∧ a.declines = s.arbiter.declines ∧
      (∃ more, a.grants = s.arbiter.grants ++ more) ∧ (Blocked s → NoPass s.arbiter a) := by
    unfold State.trigger
    split
    · exact ⟨_, rfl, rfl, rfl, rfl, rfl, rfl, Extends.refl _, fun _ => ⟨rfl, rfl, rfl, fun _ => rfl⟩⟩
    · rename_i hb
      have ha : ∀ a : Arbiter, Blocked s → NoPass s.arbiter a :=
        fun a h => absurd ((s.passBlocked_iff).2 h) hb
      refine ⟨_, rfl, ?_⟩
      unfold State.passed
      dsimp only
      split
      · exact ⟨rfl, rfl, rfl, rfl, rfl, Extends.refl _, ha _⟩
      · exact ⟨rfl, rfl, rfl, rfl, rfl, ⟨_, rfl⟩, ha _⟩
  obtain ⟨a, h, hq, hc, hs, hh, hd, hg, ha⟩ := h
  rw [h]
  have ht := s.trigger_triggered
  rw [h] at ht
  constructor <;> intros <;> first | rfl | assumption | exact Raises.refl s | exact Extends.refl _ | exact .inr ht | skip
  exact ha ‹_›

theorem State.triggerIf_settles (c : Bool) : Settles s (s.triggerIf c) := by
  unfold State.triggerIf
  split
  · exact s.trigger_settles
  · exact .refl s

/-- A change of the budget unit that keeps lines, commitments and grant order, and withdraws no revocation, settles. -/
theorem State.putBudget_settles (x : Budget) (h1 : x.slots = s.budget.slots) (h2 : x.commitments = s.budget.commitments)
    (h3 : x.grantOrder = s.budget.grantOrder) (h4 : ∃ more, x.revocations = s.budget.revocations ++ more)
    (h5 : ∀ b, s.budget.outstanding = some b → x.outstanding = some b) : Settles s (s.putBudget x) := by
  constructor <;> intros <;>
    first | rfl | assumption | exact Raises.refl s | exact Extends.refl _ | exact .inl (NoPass.refl _) | skip
  exact h5 _ ‹_›

theorem State.withFigures_settles : Settles s s.withFigures :=
  s.putBudget_settles _ rfl rfl rfl (Extends.refl _) (fun _ h => h)

theorem State.budgetState_settles : Settles s s.budgetState := by
  unfold State.budgetState
  dsimp only
  split
  · refine Settles.trans ?_ (State.raise_settles _ _)
    exact s.putBudget_settles _ rfl rfl rfl (Extends.refl _) (fun _ h => h)
  · split
    · refine Settles.trans ?_ (State.raise_settles _ _)
      exact s.putBudget_settles _ rfl rfl rfl (Extends.refl _) (fun _ h => h)
    · exact .refl s

theorem State.revocationStep_settles : Settles s s.revocationStep := by
  unfold State.revocationStep
  split
  · rename_i h
    split
    · exact .refl s
    · exact s.putBudget_settles _ rfl rfl rfl ⟨_, rfl⟩ (fun b hb => by rw [h.2] at hb; cases hb)
  · exact .refl s

theorem State.budgetTriggers_settles (x : Figures) : Settles s (s.budgetTriggers x) :=
  (s.triggerIf_settles _).trans (State.triggerIf_settles _ _)

theorem State.recompute_settles : Settles s s.recompute :=
  ((s.withFigures_settles.trans (State.budgetState_settles _)).trans (State.revocationStep_settles _)).trans
    (State.budgetTriggers_settles _ _)

theorem State.recomputeForSlot_settles (k : Slot) : Settles s (s.recomputeForSlot k) :=
  (((s.withFigures_settles.trans (State.raise_settles _ _)).trans (State.budgetState_settles _)).trans
    (State.revocationStep_settles _)).trans (State.budgetTriggers_settles _ _)

theorem State.fanNotice_settles (f : Fan) : Settles s (s.fanNotice f) := by
  refine Settles.trans ?_ (State.recompute_settles _)
  exact s.putBudget_settles _ rfl rfl rfl (Extends.refl _) (fun _ h => h)

/-- The duty of a RUNNING fan changed settles. -/
theorem State.putFan_duty_settles (f : Fan) (duty : Nat) (h : (s.fan f).state = .running) :
    Settles s (s.putFan f { s.fan f with duty := duty }) := by
  constructor <;> intros <;>
    first | rfl | assumption | exact Raises.refl s | exact Extends.refl _ | exact .inl (NoPass.refl _) | skip
  · rename_i g
    by_cases hg : f = g
    · subst hg; simp [State.fan, State.putFan]
    · simp [State.fan, State.putFan, hg]
  · rename_i g hs
    have hg : f ≠ g := fun e => hs (e ▸ h)
    simp [State.fan, State.putFan, hg]

/-- A zone record replaced settles. -/
theorem State.putZone_settles (z : Zone) (r : ZoneRecord) : Settles s (s.putZone z r) := by
  constructor <;> intros <;>
    first | rfl | assumption | exact Raises.refl s | exact Extends.refl _ | exact .inl (NoPass.refl _)

theorem State.commandFan_settles (duty : Nat) (f : Fan) : Settles s (s.commandFan duty f) := by
  unfold State.commandFan
  split
  · rename_i h
    exact (s.putFan_duty_settles f duty h.1).trans (State.fanNotice_settles _ f)
  · exact .refl s

theorem State.setZoneDuty_settles (z : Zone) (duty : Nat) : Settles s (s.setZoneDuty z duty) :=
  (s.putZone_settles z _).trans (Settles.foldl (fun t f => t.commandFan_settles duty f) _ _)

theorem State.retarget_settles (a : Bool) (z : Zone) : Settles s (s.retarget a z) := by
  unfold State.retarget
  dsimp only
  split
  · exact .refl s
  · exact s.setZoneDuty_settles z _

theorem State.judgeZone_settles (z : Zone) : Settles s (s.judgeZone z) := by
  unfold State.judgeZone
  dsimp only
  split
  · exact .refl s
  · exact ((s.putZone_settles z _).trans (State.raise_settles _ _)).trans (State.triggerIf_settles _ _)

theorem State.reviewZone_settles (z : Zone) : Settles s (s.reviewZone z) :=
  (s.retarget_settles false z).trans (State.judgeZone_settles _ z)

theorem State.reviewZones_settles (zs : List Zone) : Settles s (s.reviewZones zs) :=
  Settles.foldl (fun t z => t.reviewZone_settles z) zs s

theorem State.coolingNotice_settles (b : Bay) : Settles s (s.coolingNotice b) := s.retarget_settles false _

theorem State.zoneNotice_settles (old new : Zone) : Settles s (s.zoneNotice old new) := s.reviewZones_settles _

theorem State.retargetAll_settles (a : Bool) : Settles s (s.retargetAll a) :=
  Settles.foldl (fun t z => t.retarget_settles a z) allZones s

end Sys2Proof.Machine
end

