-- ==== Sys2Proof/Laws/Moves.lean ====
section
/-! SUPPORT. What each operation on one bay can do, said once: it acts on that bay, and a move gives it its record,
commitment, lights and queue. -/

namespace Sys2Proof.Machine

variable (s : State) (b : Bay)

/-! ## Reads after the primitive updates -/

@[simp] theorem State.putFan_fan (f g : Fan) (r : FanRecord) :
    (s.putFan f r).fan g = if f = g then r else s.fan g := by
  simp [State.putFan, State.fan]

@[simp] theorem State.putZone_fan (z : Zone) (r : ZoneRecord) (f : Fan) : (s.putZone z r).fan f = s.fan f := rfl

@[simp] theorem State.putFan_zone (f : Fan) (r : FanRecord) (z : Zone) : (s.putFan f r).zone z = s.zone z := rfl

@[simp] theorem State.putZone_zone (y z : Zone) (r : ZoneRecord) :
    (s.putZone y r).zone z = if y = z then r else s.zone z := by
  by_cases h : y = z
  · subst h; simp [State.putZone, State.zone]
  · have : y.number ≠ z.number := fun e => h (Zone.number_inj e)
    simp [State.putZone, State.zone, h, this]

@[simp] theorem State.fanNotice_fan (f g : Fan) : (s.fanNotice f).fan g = s.fan g := by
  simp [State.fan]

@[simp] theorem State.fanNotice_zone (f : Fan) (z : Zone) : (s.fanNotice f).zone z = s.zone z := by
  simp [State.zone]

theorem zoneOfFan_of_mem {z : Zone} {f : Fan} (h : f ∈ z.fans) : zoneOfFan f = z := by
  cases z <;> revert f <;> decide

/-! ## Retargeting one zone leaves the others -/

@[simp] theorem State.commandFan_zone (d : Nat) (f : Fan) (z : Zone) : (s.commandFan d f).zone z = s.zone z := by
  unfold State.commandFan
  split <;> simp

theorem State.commandFan_fan_ne (d : Nat) {f g : Fan} (h : f ≠ g) : (s.commandFan d f).fan g = s.fan g := by
  unfold State.commandFan
  split <;> simp [h]

theorem State.commandFans_fan_other (d : Nat) (fs : List Fan) (t : State) {g : Fan} (h : g ∉ fs) :
    (fs.foldl (fun u f => u.commandFan d f) t).fan g = t.fan g := by
  induction fs generalizing t with
  | nil => rfl
  | cons f fs ih =>
    simp only [List.mem_cons, not_or] at h
    rw [List.foldl_cons, ih _ h.2, State.commandFan_fan_ne _ _ (fun e => h.1 e.symm)]

theorem State.setZoneDuty_zone (y z : Zone) (d : Nat) :
    (s.setZoneDuty y d).zone z = if y = z then { s.zone y with duty := d } else s.zone z := by
  unfold State.setZoneDuty
  exact (foldl_keeps (fun t : State => t.zone z) (by intros; simp) _ _).trans (by simp)

theorem State.setZoneDuty_fan_other {z : Zone} {f : Fan} (d : Nat) (h : zoneOfFan f ≠ z) :
    (s.setZoneDuty z d).fan f = s.fan f :=
  (State.commandFans_fan_other d z.fans _ (fun hm => h (zoneOfFan_of_mem hm))).trans rfl

theorem State.retarget_zone_other (a : Bool) {y z : Zone} (h : z ≠ y) : (s.retarget a y).zone z = s.zone z := by
  unfold State.retarget
  dsimp only
  split
  · rfl
  · simp [State.setZoneDuty_zone, h.symm]

@[simp] theorem State.retarget_thermal (a : Bool) (y z : Zone) :
    ((s.retarget a y).zone z).thermal = (s.zone z).thermal := by
  unfold State.retarget
  dsimp only
  split
  · rfl
  · rw [State.setZoneDuty_zone]; split
    · rename_i h; rw [h]
    · rfl

theorem State.retarget_fan_other (a : Bool) {z : Zone} {f : Fan} (h : zoneOfFan f ≠ z) :
    (s.retarget a z).fan f = s.fan f := by
  unfold State.retarget
  dsimp only
  split
  · rfl
  · exact s.setZoneDuty_fan_other _ h

theorem State.judgeZone_zone_other {y z : Zone} (h : z ≠ y) : (s.judgeZone y).zone z = s.zone z := by
  unfold State.judgeZone
  dsimp only
  split
  · rfl
  · have : (((s.putZone y { s.zone y with thermal := judgeThermal (s.thermalSources y) (s.zone y).thermal }).zone z)) =
        s.zone z := by simp [h.symm]
    rw [← this]
    simp [State.zone]

@[simp] theorem State.judgeZone_fan (y : Zone) (f : Fan) : (s.judgeZone y).fan f = s.fan f := by
  unfold State.judgeZone
  dsimp only
  split
  · rfl
  · simp only [State.fan, State.triggerIf_cooling, State.raise_cooling]
    rfl

theorem State.reviewZone_zone_other {y z : Zone} (h : z ≠ y) : (s.reviewZone y).zone z = s.zone z := by
  unfold State.reviewZone
  rw [State.judgeZone_zone_other _ h, State.retarget_zone_other _ _ h]

theorem State.reviewZone_fan_other {z : Zone} {f : Fan} (h : zoneOfFan f ≠ z) : (s.reviewZone z).fan f = s.fan f := by
  unfold State.reviewZone
  rw [State.judgeZone_fan, State.retarget_fan_other _ _ h]

/-! ## Acting on one bay -/

@[refl] theorem ActsOnBay.refl : ActsOnBay b s s := by
  constructor <;> intros <;> first | rfl | exact Raises.refl s | exact Extends.refl _

variable {s b} in
theorem ActsOnBay.trans {t u : State} (h1 : ActsOnBay b s t) (h2 : ActsOnBay b t u) : ActsOnBay b s u where
  chans c h := (h2.chans c h).trans (h1.chans c h)
  bays c h := (h2.bays c h).trans (h1.bays c h)
  lights c h := (h2.lights c h).trans (h1.lights c h)
  commitments c h := (h2.commitments c h).trans (h1.commitments c h)
  reports c h := (h2.reports c h).trans (h1.reports c h)
  quarantine := h2.quarantine.trans h1.quarantine
  cfg := h2.cfg.trans h1.cfg
  link := h2.link.trans h1.link
  store := h2.store.trans h1.store
  time := h2.time.trans h1.time
  pending := h2.pending.trans h1.pending
  resetLow := h2.resetLow.trans h1.resetLow
  slots := h2.slots.trans h1.slots
  sensors := h2.sensors.trans h1.sensors
  evaluation := h2.evaluation.trans h1.evaluation
  sensorRead := h2.sensorRead.trans h1.sensorRead
  fanCheck := h2.fanCheck.trans h1.fanCheck
  zones z h := by
    have e : t.zoneOf b = s.zoneOf b := by simp only [State.zoneOf, State.baySettings, h1.cfg]
    exact (h2.zones z (by rw [e]; exact h)).trans (h1.zones z h)
  fans f := by
    have x := h1.fans f
    have y := h2.fans f
    rw [y, x]
  otherFans f h := by
    have e : t.zoneOf b = s.zoneOf b := by simp only [State.zoneOf, State.baySettings, h1.cfg]
    exact (h2.otherFans f (by rw [e]; exact h)).trans (h1.otherFans f h)
  mask := h2.mask.trans h1.mask
  locate := h2.locate.trans h1.locate
  phase := h2.phase.trans h1.phase
  boundary := h2.boundary.trans h1.boundary
  elf := h2.elf.trans h1.elf
  ell := h2.ell.trans h1.ell
  startUpHold := h2.startUpHold.trans h1.startUpHold
  declines := h2.declines.trans h1.declines
  grants := Extends.trans h1.grants h2.grants
  revocations := Extends.trans h1.revocations h2.revocations
  events := h1.events.trans h1.time h2.events

/-- What settles without moving another zone acts on the bay. -/
theorem Settles.acts {s t : State} (h : Settles s t) (b : Bay) (hz : ∀ z, z ≠ s.zoneOf b → t.zone z = s.zone z)
    (hf : ∀ f, zoneOfFan f ≠ s.zoneOf b → t.fan f = s.fan f) : ActsOnBay b s t where
  chans c _ := by simp only [State.chan, h.chans]
  bays c _ := by simp only [State.bay, h.bays]
  lights c _ := by simp only [State.bayLights, h.lights]
  commitments c _ := by rw [h.commitments]
  reports c _ := by rw [h.reports]
  quarantine := by rw [h.quarantine]
  cfg := h.cfg
  link := h.link
  store := h.store
  time := h.time
  pending := h.pending
  resetLow := h.resetLow
  slots := h.slots
  sensors := h.sensors
  evaluation := h.evaluation
  sensorRead := h.sensorRead
  fanCheck := h.fanCheck
  zones := hz
  fans := h.fans
  otherFans := hf
  mask := by rw [h.lights]
  locate := by rw [h.lights]
  phase := by rw [h.lights]
  boundary := by rw [h.lights]
  elf := by rw [h.lights]
  ell := by rw [h.lights]
  startUpHold := h.startUpHold
  declines := h.declines
  grants := h.grants
  revocations := h.revocations
  events := h.events

/-- What settles and leaves the cooling controller acts on any bay. -/
theorem Settles.acts_of_cooling {s t : State} (h : Settles s t) (b : Bay) (hc : t.cooling = s.cooling) :
    ActsOnBay b s t :=
  h.acts b (fun z _ => by simp only [State.zone, hc]) (fun f _ => State.fan_of_cooling_eq hc f)

theorem State.trigger_acts : ActsOnBay b s s.trigger := s.trigger_settles.acts_of_cooling b (by simp)

theorem State.triggerIf_acts (c : Bool) : ActsOnBay b s (s.triggerIf c) :=
  (s.triggerIf_settles c).acts_of_cooling b (by simp)

theorem State.recompute_acts : ActsOnBay b s s.recompute := s.recompute_settles.acts_of_cooling b (by simp)

theorem State.retarget_acts (a : Bool) : ActsOnBay b s (s.retarget a (s.zoneOf b)) :=
  (s.retarget_settles a _).acts b (fun _ h => s.retarget_zone_other a h) (fun _ h => s.retarget_fan_other a h)

theorem State.reviewZone_acts : ActsOnBay b s (s.reviewZone (s.zoneOf b)) :=
  (s.reviewZone_settles _).acts b (fun _ h => s.reviewZone_zone_other h) (fun _ h => s.reviewZone_fan_other h)

theorem State.raise_acts (e : Event) : ActsOnBay b s (s.raise e) :=
  (s.raise_settles e).acts_of_cooling b rfl

theorem State.raiseAll_acts (es : List Event) : ActsOnBay b s (s.raiseAll es) := by
  induction es generalizing s with
  | nil => exact .refl s b
  | cons e es ih => exact (s.raise_acts b e).trans (ih _)

theorem State.putChan_acts (c : Channel) : ActsOnBay b s (s.putChan b c) := by
  constructor <;> intros <;> first | rfl | exact Raises.refl s | exact Extends.refl _ | skip
  rename_i c h
  simp [State.chan, State.putChan, h.symm]

theorem State.toChan_acts (f : Channel → Channel) : ActsOnBay b s (s.toChan b f) := s.putChan_acts b _

theorem State.onBay_acts (f : BayRecord → BayRecord) : ActsOnBay b s (s.onBay b f) := by
  constructor <;> intros <;> first | rfl | exact Raises.refl s | exact Extends.refl _ | skip
  rename_i c h
  simp [State.bay, State.onBay, State.putBay, h.symm]

theorem State.putBayLights_acts (l : BayLights) : ActsOnBay b s (s.putBayLights b l) := by
  constructor <;> intros <;> first | rfl | exact Raises.refl s | exact Extends.refl _ | skip
  rename_i c h
  simp [State.bayLights, State.putBayLights, h.symm]

theorem State.setCond_acts (c : Fin 9) (v : Bool) : ActsOnBay b s (s.setCond b c v) := s.putBayLights_acts b _

theorem State.lightNotice_acts : ActsOnBay b s (s.lightNotice b) :=
  (s.setCond_acts b _ _).trans (State.putBayLights_acts _ b _)

/-- A change of the arbiter that keeps the hold, the declines and the grants acts on any bay. -/
theorem State.putArbiter_acts (a : Arbiter) (h : a.startUpHold = s.arbiter.startUpHold)
    (hd : a.declines = s.arbiter.declines) (hg : ∃ more, a.grants = s.arbiter.grants ++ more) : ActsOnBay b s (s.putArbiter a) := by
  constructor <;> intros <;> first | rfl | assumption | exact Raises.refl s | exact Extends.refl _

/-- A change of the budget unit that keeps the lines, the other commitments and the revocations acts on the bay. -/
theorem State.putBudget_acts (x : Budget) (h : x.slots = s.budget.slots)
    (hr : ∃ more, x.revocations = s.budget.revocations ++ more)
    (hc : ∀ c, c ≠ b → x.commitments.get c = s.budget.commitments.get c) : ActsOnBay b s (s.putBudget x) := by
  constructor <;> intros <;> first | rfl | assumption | exact Raises.refl s | exact Extends.refl _ | skip
  rename_i c hb
  exact hc c hb

theorem State.join_acts (k : EntryKind) : ActsOnBay b s (s.join b k) := by
  refine ActsOnBay.trans ?_ (State.trigger_acts _ b)
  exact s.putArbiter_acts b _ rfl rfl (Extends.refl _)

theorem State.removeEntry_acts : ActsOnBay b s (s.removeEntry b) := by
  unfold State.removeEntry
  split
  · refine ActsOnBay.trans ?_ (State.trigger_acts _ b)
    exact s.putArbiter_acts b _ rfl rfl (Extends.refl _)
  · exact .refl s b

theorem State.removeEntryIf_acts (c : Bool) : ActsOnBay b s (s.removeEntryIf c b) := by
  unfold State.removeEntryIf
  split
  · exact s.removeEntry_acts b
  · exact .refl s b

theorem State.grantCarriedOut_acts (g : GrantRecord) : ActsOnBay b s (s.grantCarriedOut g) := by
  refine ActsOnBay.trans ?_ (State.trigger_acts _ b)
  exact s.putArbiter_acts b _ rfl rfl (Extends.refl _)

theorem State.answerGrant_acts (new : BayState) : ActsOnBay b s (s.answerGrant b new) := by
  unfold State.answerGrant
  split
  · exact .refl s b
  · split
    · exact s.grantCarriedOut_acts b _
    · exact .refl s b

theorem State.budgetNotice_acts (old new : BayState) : ActsOnBay b s (s.budgetNotice b old new) := by
  unfold State.budgetNotice
  dsimp only
  refine ActsOnBay.trans ?_ (State.triggerIf_acts _ b _)
  refine ActsOnBay.trans ?_ (State.answerGrant_acts _ b new)
  refine ActsOnBay.trans ?_ (State.recompute_acts _ b)
  refine ActsOnBay.trans ?_ (State.putArbiter_acts _ b _ rfl rfl (Extends.refl _))
  refine s.putBudget_acts b _ rfl (Extends.refl _) ?_
  intro c h
  simp [Budget.noticed, h.symm]

theorem State.coolingNotice_acts : ActsOnBay b s (s.coolingNotice b) := s.retarget_acts b false

theorem State.stateNotice_acts (old new : BayState) : ActsOnBay b s (s.stateNotice b old new) :=
  ((s.budgetNotice_acts b old new).trans (State.coolingNotice_acts _ b)).trans (State.lightNotice_acts _ b)

theorem State.move_acts (new : BayState) (timer : Option Nat) (es : List Event) :
    ActsOnBay b s (s.move b new timer es) :=
  ((s.onBay_acts b _).trans (State.raiseAll_acts _ b es)).trans (State.stateNotice_acts _ b _ new)

theorem State.discardReport_acts : ActsOnBay b s (s.discardReport b) := by
  unfold State.discardReport
  split
  · exact .refl s b
  · refine ActsOnBay.trans (t := s.putCooling { s.cooling with reports := Table.put s.cooling.reports b none }) ?_
      (State.reviewZone_acts _ b)
    constructor <;> intros <;> first | rfl | exact Raises.refl s | exact Extends.refl _ | skip
    rename_i c h
    simp [h.symm]

theorem State.unquarantine_acts : ActsOnBay b s (s.unquarantine b) := by
  unfold State.unquarantine
  split
  · refine ActsOnBay.trans ?_ (State.setCond_acts _ b _ _)
    constructor <;> intros <;> first | rfl | exact Raises.refl s | exact Extends.refl _ | skip
    simp [State.putQuarantine]
  · exact .refl s b

theorem State.quarantineBay_acts : ActsOnBay b s (s.quarantineBay b) := by
  unfold State.quarantineBay
  refine ActsOnBay.trans (ActsOnBay.trans ?_ (State.setCond_acts _ b _ _)) (State.raise_acts _ b _)
  constructor <;> intros <;> first | rfl | exact Raises.refl s | exact Extends.refl _ | skip
  simp [State.putQuarantine]

/-! ## What a move gives -/

/-- The state in which the budget unit and the arbiter have entered a bay's state notice, before they act on it. -/
def State.noticed (old new : BayState) : State :=
  (s.putBudget (s.budget.noticed b old new (s.bay b).commitment)).putArbiter
    { s.arbiter with spinCount := spinCountAfter s.arbiter.spinCount old new }

/-- A state that answers no grant is entered without one being carried out. -/
theorem State.answerGrant_other {new : BayState} (h1 : new ≠ .ramping) (h2 : new ≠ .granted) :
    s.answerGrant b new = s := by
  unfold State.answerGrant
  split
  · rfl
  · rename_i g _
    have : grantAnswered g b new = false := by
      unfold grantAnswered
      cases g.kind <;> cases new <;> simp_all
    simp [this]

theorem State.budgetNotice_settles (old : BayState) {new : BayState} (h1 : new ≠ .ramping) (h2 : new ≠ .granted) :
    Settles (s.noticed b old new) (s.budgetNotice b old new) := by
  unfold State.budgetNotice
  dsimp only
  rw [State.answerGrant_other _ b h1 h2]
  exact (State.recompute_settles _).trans (State.triggerIf_settles _ _)

/-- The state of a move before the notices are acted on. -/
def State.moving (new : BayState) (timer : Option Nat) (es : List Event) : State :=
  State.noticed ((s.onBay b (fun r => r.enter new timer)).raiseAll es) b (s.bay b).state new

/-- A move that answers no grant: the notices settle, and the light controller takes its own. -/
theorem State.move_eq {new : BayState} (h1 : new ≠ .ramping) (h2 : new ≠ .granted) (timer : Option Nat)
    (es : List Event) :
    ∃ u, s.move b new timer es = u.lightNotice b ∧ Settles (s.moving b new timer es) u :=
  ⟨_, rfl, (State.budgetNotice_settles _ b _ h1 h2).trans (State.coolingNotice_settles _ b)⟩

/-- The state of a move before the notices are acted on, with a grant carried out by it (R87). -/
def State.movingGranted (new : BayState) (timer : Option Nat) (es : List Event) (g : GrantRecord) : State :=
  let m := s.moving b new timer es
  m.putArbiter { m.arbiter with
    queue := chargeBypass (withoutEntry s.arbiter.queue g.bay) g.bypassed
    stagger := if s.cfg.admission.stagger = 0 then none else some s.cfg.admission.stagger
    grantRecord := none }

theorem State.raiseAll_events_putArbiter (a : Arbiter) (es : List Event) :
    ((s.putArbiter a).raiseAll es).events = (s.raiseAll es).events := by
  apply State.raiseAll_events_congr <;> rfl

/-- What settles while a grant awaits its answer settles as well with the queue, the stagger timer and the grant record of
both replaced. -/
theorem Settles.carried {m r : State} (h : Settles m r) (hm : m.arbiter.grantRecord.isSome = true)
    (q : List QueueEntry) (st : Option Nat) :
    Settles (m.putArbiter { m.arbiter with queue := q, stagger := st, grantRecord := none })
      (r.putArbiter { r.arbiter with queue := q, stagger := st, grantRecord := none }) :=
  { h with
    queue := rfl
    stagger := rfl
    blocked := fun _ => ⟨rfl, (h.blocked (.inr (.inr (.inr hm)))).2⟩
    passes := .inl ⟨rfl, (h.blocked (.inr (.inr (.inr hm)))).2⟩
    events := let ⟨more, e⟩ := h.events; ⟨more, e.trans (m.raiseAll_events_putArbiter _ _).symm⟩ }

theorem State.answerGrant_settles {m r : State} (h : Settles m r) {g : GrantRecord}
    (hm : m.arbiter.grantRecord = some g) {new : BayState} (ha : grantAnswered g b new = true) :
    Settles (m.putArbiter { m.arbiter with
        queue := chargeBypass (withoutEntry m.arbiter.queue g.bay) g.bypassed
        stagger := if m.cfg.admission.stagger = 0 then none else some m.cfg.admission.stagger
        grantRecord := none })
      (r.answerGrant b new) := by
  have hs : m.arbiter.grantRecord.isSome = true := by rw [hm]; rfl
  have hr : r.arbiter.grantRecord = some g := (h.blocked (.inr (.inr (.inr hs)))).1.trans hm
  have e : r.answerGrant b new = r.grantCarriedOut g := by simp only [State.answerGrant, hr, ha, if_true]
  rw [e, ← h.queue, ← h.cfg]
  exact (h.carried hs _ _).trans (State.trigger_settles _)

/-- A move that answers the grant awaiting it. -/
theorem State.move_eq_granted {new : BayState} {g : GrantRecord} (hg : s.arbiter.grantRecord = some g)
    (ha : grantAnswered g b new = true) (timer : Option Nat) (es : List Event) :
    ∃ u, s.move b new timer es = u.lightNotice b ∧ Settles (s.movingGranted b new timer es g) u := by
  have hm : (s.moving b new timer es).arbiter.grantRecord = some g := by
    simpa [State.moving, State.noticed] using hg
  have hq : (s.moving b new timer es).arbiter.queue = s.arbiter.queue := by simp [State.moving, State.noticed]
  have hc : (s.moving b new timer es).cfg = s.cfg := by simp [State.moving, State.noticed]
  have h := State.answerGrant_settles b (State.recompute_settles (s.moving b new timer es)) hm ha
  rw [hq, hc] at h
  exact ⟨_, rfl, (h.trans (State.triggerIf_settles _ _)).trans (State.coolingNotice_settles _ b)⟩

/-! ## The facts of a move -/

/-- The facts of a move (R17): the record, the channels, what is left alone, the notices, the events. -/
structure State.MoveFacts (s : State) (b : Bay) (new : BayState) (timer : Option Nat) (es : List Event) (t : State) :
    Prop where
  bay : t.bay b = (s.bay b).enter new timer
  chans : t.chans = s.chans
  acts : ActsOnBay b s t
  keeps : KeepsIndications b s t
  notified : Notified b s t
  raised : Raises es s t

theorem State.move_raises (new : BayState) (timer : Option Nat) (es : List Event) :
    Raises es s (s.move b new timer es) := by
  have h : Raises es (s.onBay b (fun r => r.enter new timer)) (s.move b new timer es) :=
    (State.raiseAll_raises _ es).trans (by simp) (State.stateNotice_acts _ b _ new).events
  exact Raises.congr_left (r := s.onBay b (fun r => r.enter new timer)) (s := s) rfl rfl h

/-- A bay after its light notice. -/
theorem State.lightNotice_facts (u : State) :
    (u.lightNotice b).bays = u.bays ∧ (u.lightNotice b).chans = u.chans ∧
      (∀ c, c ≠ condSpinWait → ((u.lightNotice b).bayLights b).conditions.get c = (u.bayLights b).conditions.get c) ∧
      ((u.lightNotice b).bayLights b).latn = (u.bayLights b).latn ∧
      ((u.lightNotice b).bayLights b).conditions.get condSpinWait = (u.bay b).state.spinWaits ∧
      ((u.lightNotice b).bayLights b).lact = (u.lightNotice b).actLevel b := by
  refine ⟨rfl, rfl, ?_, ?_, ?_, ?_⟩
  · intro c hc
    simp [State.lightNotice, State.driveAct, State.setCond, State.putBayLights, State.bayLights, hc.symm]
  · simp [State.lightNotice, State.driveAct, State.setCond, State.putBayLights, State.bayLights]
  · simp [State.lightNotice, State.driveAct, State.setCond, State.putBayLights, State.bayLights]
  · simp [State.lightNotice, State.driveAct, State.setCond, State.putBayLights, State.bayLights, State.actLevel,
      State.bay, State.chan, Settings.pattern]

@[simp] theorem State.answerGrant_spinCount (new : BayState) :
    (s.answerGrant b new).arbiter.spinCount = s.arbiter.spinCount := by
  unfold State.answerGrant
  split
  · rfl
  · split
    · exact (State.trigger_settles _).spinCount
    · rfl

/-- What the budget unit and the arbiter hold of a bay after its state notice. -/
theorem State.budgetNotice_facts (old new : BayState) :
    (s.budgetNotice b old new).budget.commitments = Table.put s.budget.commitments b (s.bay b).commitment ∧
      (s.budgetNotice b old new).budget.grantOrder = (s.budget.noticed b old new 0).grantOrder ∧
      (s.budgetNotice b old new).arbiter.spinCount = spinCountAfter s.arbiter.spinCount old new := by
  unfold State.budgetNotice
  dsimp only
  rw [(State.triggerIf_settles _ _).commitments, (State.triggerIf_settles _ _).grantOrder,
    (State.triggerIf_settles _ _).spinCount]
  simp only [State.answerGrant_budget, State.answerGrant_spinCount]
  rw [(State.recompute_settles _).commitments, (State.recompute_settles _).grantOrder,
    (State.recompute_settles _).spinCount]
  exact ⟨rfl, rfl, rfl⟩

/-- The facts of a move. -/
theorem State.move_facts (new : BayState) (timer : Option Nat) (es : List Event) :
    s.MoveFacts b new timer es (s.move b new timer es) := by
  let m := (s.onBay b (fun r => r.enter new timer)).raiseAll es
  have hm : m.bays = Table.put s.bays b ((s.bay b).enter new timer) := by simp [m, State.onBay, State.putBay]
  have hb : m.bay b = (s.bay b).enter new timer := by simp [State.bay, hm]
  have hx : m.budget = s.budget := by simp [m]
  have ha : m.arbiter = s.arbiter := by simp [m]
  obtain ⟨f1, f2, f3⟩ := m.budgetNotice_facts b (s.bay b).state new
  let u := (m.budgetNotice b (s.bay b).state new).coolingNotice b
  have hu := State.coolingNotice_settles (m.budgetNotice b (s.bay b).state new) b
  have hub : u.bays = m.bays := by simp [u]
  obtain ⟨l1, l2, l3, l4, l5, l6⟩ := State.lightNotice_facts b u
  have e : s.move b new timer es = u.lightNotice b := rfl
  have hbay : (u.lightNotice b).bay b = (s.bay b).enter new timer := by
    simp only [State.bay, l1, hub, hm, Table.get_put_self]
  have hlight : u.bayLights b = s.bayLights b := by simp [State.bayLights, u, m]
  rw [e]
  refine ⟨hbay, ?_, ?_, ?_, ?_, ?_⟩
  · rw [l2]; simp [u, m]
  · rw [← e]; exact s.move_acts b new timer es
  · constructor
    · simp [u, m]
    · simp only [State.lightNotice_cooling]; rw [hu.reports]; simp [m]
    · intro c hc; rw [l3 c hc, hlight]
    · rw [l4, hlight]
    · intro z
      show ((u.lightNotice b).cooling.zones.get z.number).thermal = _
      simp only [State.lightNotice_cooling]
      show (u.zone z).thermal = _
      simp only [u, State.coolingNotice, State.retarget_thermal]
      simp [State.zone, m]
  · constructor
    · rw [hbay]; simp only [State.lightNotice_budget]; rw [hu.commitments, f1, hb]; simp
    · rw [l5, hbay]; simp only [State.bay, hub, hm, Table.get_put_self]
    · exact l6
    · rw [hbay]
      show (u.lightNotice b).arbiter.spinCount = _
      simp only [State.lightNotice_arbiter]; rw [hu.spinCount, f3, ha]; rfl
    · rw [hbay]
      simp only [State.lightNotice_budget]; rw [hu.grantOrder, f2, hx]; rfl
  · rw [← e]; exact s.move_raises b new timer es

/-- A move that answers no grant leaves the queue and the stagger timer. -/
theorem State.move_queue {new : BayState} (h1 : new ≠ .ramping) (h2 : new ≠ .granted) (timer : Option Nat)
    (es : List Event) :
    (s.move b new timer es).arbiter.queue = s.arbiter.queue ∧
      (s.move b new timer es).arbiter.stagger = s.arbiter.stagger := by
  obtain ⟨u, e, h⟩ := s.move_eq b h1 h2 timer es
  rw [e]
  simp only [State.lightNotice_arbiter]
  rw [h.queue, h.stagger]
  simp [State.moving, State.noticed]

/-- A move that answers the grant awaiting it takes the granted entry out, charges the bypassed head and starts the stagger
timer (R87). -/
theorem State.move_queue_granted {new : BayState} {g : GrantRecord} (hg : s.arbiter.grantRecord = some g)
    (ha : grantAnswered g b new = true) (timer : Option Nat) (es : List Event) :
    (s.move b new timer es).arbiter.queue = chargeBypass (withoutEntry s.arbiter.queue g.bay) g.bypassed ∧
      (s.move b new timer es).arbiter.stagger =
        if s.cfg.admission.stagger = 0 then none else some s.cfg.admission.stagger := by
  obtain ⟨u, e, h⟩ := s.move_eq_granted b hg ha timer es
  rw [e]
  simp only [State.lightNotice_arbiter]
  exact ⟨h.queue, h.stagger⟩

end Sys2Proof.Machine
end

