-- ==== Sys2Proof/WellFormed.lean ====
section
/-! DEFINITION. What a frame on the link can carry: the checks on a command's operands that its type leaves open. -/

namespace Sys2Proof

/-- A payload that a Length field can announce (Table 9-3: 0-240). -/
def Request.wf (r : Request) : Bool := r.payload.length ≤ 240

/-- A completed frame's payload is at most 240 bytes: a longer Length abandons the frame (R165). -/
def Frame.wf (f : Frame) : Bool := f.payload.length ≤ 240

/-- A command that can reach the part. Bay, fan, slot and sensor numbers are in range by their types; a payload has at
most 240 bytes. -/
def Instr.wf : Instr → Bool
  | .frameDiscard f => f.wf
  | .badKind _ r | .unitInfo r | .bayStatus r | .baySummary r | .setBayPolicy r | .powerOn r | .powerOff r
  | .prepareRemoval r | .spinRequest r | .spinDownNote r | .setCondition r | .clearLatch r | .setLightMask r
  | .setPattern r | .setConditionPattern r | .setLocate r | .driveTemps r | .setZone r | .setZoneCommon r | .setFan r
  | .coolingStatus r | .setSupply r | .budgetStatus r | .setAdmission r | .queueStatus r | .setProfile r
  | .getProfile r | .setProfileRule r | .quarantineList r | .clearQuarantine r | .readEvents r | .saveSettings r
  | .restart r | .setLink r => r.wf
  | .standbyPowerUp _ | .resetAsserted _ | .presenceRawEdge _ _ _ | .presenceFilterExpiry _ _ | .carrierRawEdge _ _ _
  | .carrierFilterExpiry _ _ | .seatTimerExpiry _ | .rampTimerExpiry _ | .currentSample _ _ | .tripExcursion _ _
  | .actiAssert _ | .activityStretchExpiry _ | .contactChange _ | .seatStable _ | .rampEnd _ | .trip _ | .riseCross _
  | .fallCross _ | .partialTimerExpiry _ | .spinTimerExpiry _ | .settleExtensionExpiry _ | .grantWindowExpiry _
  | .dischargeExpiry _ | .extractionWindowExpiry _ | .backoffExpiry _ | .grantTaken _ | .grantDecline _
  | .revocationRequest _ | .staggerExpiry | .supplyRawEdge _ _ _ | .supplyLineAccepted _ _ | .tachPulse _
  | .tachWindowEnd _ | .sensorReadStart | .sensorReadComplete _ _ | .driveTempAgeExpiry _ | .evaluation | .fanCheckEnd
  | .stepBoundary | .settingsWriteComplete | .framingError | .gapTimeout | .replyBegin | .replySent | .replyLapse
  | .characterReceived _ => true

end Sys2Proof
end

