-- ==== Sys2Proof/Tests/Slice0.lean ====
section
/-! SUPPORT. Tests: ill-formed operands refused, the spec's worked tables, one step each on small states, and a witness for
the hypotheses of every statement that has some. -/

-- One theorem at a time: each closed check of the kernel waits for those before it.
set_option Elab.async false

namespace Sys2Proof.Tests

open Sys2Proof Sys2Proof.Machine

/-! ## Helpers -/

/-- What a command answers, or the state itself. -/
def after (c : Instr) (s : State) : State :=
  match exec c s with
  | .next t => t
  | .fault _ | .refused _ => s

/-- The state after reset with a bay in a state of its own: code 1, profile 1, the snapshot of a closed switch. -/
def withBay (b : Bay) (st : BayState) (timer : Option Nat) : State :=
  State.reset.putBay b { BayRecord.cold with
    state := st, code := some 1, profileIndex := some 1, timer := timer
    snapshot := if st.closedSwitch then some profile0 else none }

/-- A state with a bay's reports. -/
def withReport (s : State) (b : Bay) (r : Report) : State := s.putChan b { s.chan b with reports := [r] }

/-- A state whose channel has been changed. -/
def withChan (f : Channel → Channel) : State := State.reset.putChan 0 (f (State.reset.chan 0))

/-- A settings write with this much of its 200 ms left. -/
def withWrite (left : Nat) : State :=
  State.reset.putStore { State.reset.store with writing := some ⟨factorySettings, left⟩ }

/-- A request to the unit of the state after reset, address 1. -/
def to1 (payload : List Byte) : Request := ⟨1, 0x4c, payload⟩

/-! ## Ill-formed operands are refused -/

theorem test_wf_request_too_long : Request.wf ⟨1, 0, List.replicate 241 0⟩ = false := by decide +kernel
theorem test_wf_request_longest : Request.wf ⟨1, 0, List.replicate 240 0⟩ = true := by decide +kernel
theorem test_wf_frame_too_long : Frame.wf ⟨1, 0, 0, List.replicate 241 0, 0, 0⟩ = false := by decide +kernel
theorem test_wf_command_too_long : Instr.wf (.powerOn ⟨1, 0, List.replicate 241 0⟩) = false := by decide +kernel
theorem test_wf_discard_too_long : Instr.wf (.frameDiscard ⟨1, 0, 0, List.replicate 241 0, 0, 0⟩) = false := by decide +kernel
theorem test_wf_command : Instr.wf (.currentSample 23 20000) = true := by decide +kernel

/-! ## No row of the table has bits -/

theorem test_no_word_spells_a_command : decodeTableWord 16 0x1234 = none := rfl
theorem test_fetch_word_changes_nothing : State.reset.withFetchWord 16 0x1234 = State.reset := rfl

/-! ## The spec's worked tables -/

/-- Table 9-5: UNIT_INFO to unit 3, the check low byte first; the check bytes the other way round are discarded. -/
theorem test_table_9_5_check : goodCheck ⟨3, 0x01, 0x4c, [], 0x50, 0x00⟩ = true ∧
    goodCheck ⟨3, 0x01, 0x4c, [], 0x00, 0x50⟩ = false ∧ goodCheck ⟨8, 0x25, 0xf0, [1], 0x1f, 0x01⟩ = true := by decide

/-- Table 9-5: the reply of unit 8 to SET_LOCATE. -/
theorem test_table_9_5_reply : replyFrame 8 0x25 0xf0 ⟨.ok, [], .nothing⟩ = [0x5a, 8, 0xa5, 0xf0, 1, 0, 0x9e, 1] := by
  decide

/-- Table 9-5: the reply of unit 3 to kind 07h. -/
theorem test_table_9_5_bad_kind :
    replyFrame 3 0x07 0x4d ⟨.badKind, [], .nothing⟩ = [0x5a, 3, 0x87, 0x4d, 1, 3, 0xdb, 0] := by decide

/-- Table 7-7, the default air curve. -/
theorem test_table_7_7 : [20, 28, 36, 38, 41, 45, 52, 60].map factoryAirCurve.value =
    [30, 33, 43, 49, 58, 70, 91, 100] := by decide

/-- The example below Table 7-7: the division rounds up. -/
theorem test_curve_rounds_up : Curve.value ⟨⟨20, 30⟩, ⟨30, 35⟩, ⟨40, 60⟩, ⟨50, 100⟩⟩ 27 = 34 := by decide

/-- Table 4-3, raw supply. -/
theorem test_table_4_3 : rawSupply .redundant [50000, 50000, 30000] = 80000 ∧
    rawSupply .shared [50000, 50000, 30000] = 130000 ∧ rawSupply .redundant [50000, 0] = 0 ∧
    rawSupply .redundant [50000] = 50000 ∧ rawSupply .redundant [] = 0 ∧ effectiveSupply 80000 90 = 72000 := by decide

/-- Table 4-4, idle_mA 200 and full_mA 2,500. -/
theorem test_table_4_4 : [0, 20, 25, 40, 45, 50, 60, 80, 100].map
    (FanView.priceAt ⟨.running, 0, 200, 2500⟩) = [200, 218, 235, 347, 409, 487, 696, 1377, 2500] := by decide

/-- A FAILED fan is priced at full_mA and an ABSENT one at 0 (R60). -/
theorem test_fan_prices : FanView.priceAt ⟨.failed, 100, 200, 2500⟩ 20 = 2500 ∧
    FanView.priceAt ⟨.absent, 0, 200, 2500⟩ 20 = 0 := by decide

/-- The examples of R121. -/
theorem test_rpm : windowRpm ⟨1000, 0, 80⟩ 2 = 2400 ∧ windowRpm ⟨250, 0, 20⟩ 2 = 2400 := by decide

/-- Table 3-3: base 9 and mask 24 name the bays 8-15, base 1 and mask 1 the odd bays, mask 0 every bay. -/
theorem test_table_3_3 :
    allBays.filter (fun b => ProfileRule.names ⟨true, 9, 24, 15, 1⟩ b) = [8, 9, 10, 11, 12, 13, 14, 15] ∧
    allBays.filter (fun b => ProfileRule.names ⟨true, 16, 28, 15, 1⟩ b) = [16, 17, 18, 19] ∧
    allBays.filter (fun b => ProfileRule.names ⟨true, 1, 1, 15, 1⟩ b) =
      [1, 3, 5, 7, 9, 11, 13, 15, 17, 19, 21, 23] ∧
    allBays.filter (fun b => ProfileRule.names ⟨true, 7, 0, 15, 1⟩ b) = allBays := by decide

/-- Table 3-2: the second and sixth lines are clamped, the third breaks a relation after clamping. -/
theorem test_table_3_2 :
    Profile.clamped ⟨2400, 700, 300, 40000, 1200, 9500, 25⟩ = ⟨2400, 700, 300, 30000, 1200, 8000, 20⟩ ∧
    Profile.clamped ⟨400, 50, 0, 500, 80, 900, 0⟩ = ⟨500, 100, 0, 1000, 100, 1000, 0⟩ ∧
    (Profile.clamped ⟨6000, 700, 300, 12000, 1200, 4500, 5⟩).related = false ∧
    Profile.related ⟨2400, 700, 300, 12000, 600, 5000, 5⟩ = false ∧
    Profile.related ⟨2400, 700, 300, 12000, 1200, 5000, 5⟩ = true := by decide

/-- The lights of a bay that holds these conditions. -/
def lightsOf (cs : List (Fin 9)) : BayLights := ⟨cs.foldl (fun t c => Table.put t c true) (.replicate 9 false), false, false⟩

/-- Table 8-2. -/
theorem test_table_8_2 :
    resolveFrom (lightsOf [0, 2, 3, 6, 7]) 0 none allConditions = some 7 ∧
    resolveFrom (lightsOf [0, 2, 3, 6, 7]) 5 none allConditions = some 7 ∧
    resolveFrom (lightsOf [0, 2, 3, 6, 7]) 6 none allConditions = none ∧
    resolveFrom (lightsOf [0, 2, 3, 6, 7, 8]) 6 none allConditions = some 8 := by decide

/-- Table 8-3. -/
theorem test_table_8_3 :
    resolveFrom (lightsOf [1, 7]) 0 none allConditions = some 1 ∧
    resolveFrom (lightsOf [4, 6]) 0 none allConditions = some 4 ∧
    resolveFrom (lightsOf [5, 2]) 0 none allConditions = some 5 := by decide

/-- R137: a duty of 100 falls to a target of 43 by steps of 5. -/
theorem test_duty_slews : dutyAfter false true 43 100 = 95 ∧ dutyAfter false true 43 45 = 43 ∧
    dutyAfter false false 43 100 = 100 ∧ dutyAfter false false 58 45 = 58 ∧ dutyAfter true true 43 100 = 100 := by decide

/-- R74: an entry of class 1 goes behind the entries of classes 0 and 1 and ahead of those of class 2. -/
theorem test_queue_order :
    (placeEntry [⟨3, .powerOn, 0, 0, 0⟩, ⟨4, .wake, 1, 0, 0⟩, ⟨5, .powerOn, 2, 0, 0⟩] ⟨6, .powerOn, 1, 0, 0⟩).map
      QueueEntry.bay = [3, 4, 6, 5] := by decide

/-- R181: a range goes on from 23 to 0. -/
theorem test_range_wraps : expandBayList [1, 22, 4] = .ok [22, 23, 0, 1] := by rfl

/-! ## One step on small states -/

/-- The image after reset does not match its check, so the factory defaults are loaded. -/
theorem reset_image_ok : State.reset.store.imageAtStart.ok = false := by
  simp [SettingsImage.ok, Store.imageAtStart, State.reset]

theorem reset_image_load : State.reset.store.imageAtStart.load = factorySettings := by
  rw [SettingsImage.load, reset_image_ok]
  rfl

/-- A cold start from the state after reset is that state. -/
theorem test_cold_start_is_reset : State.reset.coldStart 0 = State.reset := by
  simp only [State.coldStart, State.blocksCold, defaultedEvents, reset_image_load, reset_image_ok]
  with_unfolding_all rfl

/-- The strap levels give the unit address (R163). -/
theorem test_straps_give_the_address : (State.reset.coldStart 7).link.unitAddress = 8 := by
  simp only [State.coldStart, State.blocksCold, defaultedEvents, reset_image_load, reset_image_ok]
  rfl

/-- R7, R14, R192: RESET held low releases ALERT and PEN, and is itself released by the next idle step. -/
theorem test_reset_releases_alert : State.reset.alert = true ∧ (State.reset.putReset true).alert = false ∧
    (State.reset.putReset true).idle.resetLow = false := by decide +kernel

/-- R10: an arming sets its watch in every position of the switch. -/
theorem test_arming_in_every_position : ((State.reset.chan 0).armRise 1000).riseWatch = some 1000 ∧
    (({ State.reset.chan 0 with switch := .closed }).armFall 700).fallWatch = some 700 := by decide +kernel

/-- Table 6-1, R107: a power-off that finds the switch open leaves no watch armed. -/
theorem test_power_off_disarms :
    let s := (withBay 0 .standby none).toChan 0 (fun c => c.armRise 1000)
    ((after (.powerOff (to1 [0, 1, 0])) s).bay 0).state = .poweringDown ∧
      ((after (.powerOff (to1 [0, 1, 0])) s).chan 0).riseWatch = none := by decide +kernel

/-- R160, R178: RESET held low turns ELF off and negates MDE. -/
theorem test_reset_turns_outputs_off :
    let s := (State.reset.putLights { State.reset.lights with elf := true }).setReply (.sending [0x5a] .nothing)
    s.elfOut = true ∧ s.mde = true ∧ (s.putReset true).elfOut = false ∧ (s.putReset true).mde = false := by decide +kernel

/-- R162, R171: the bits of the reply's first byte 5Ah on MTX, low bit first between start and stop, then the idle line. -/
theorem test_mtx_carries_the_character : (List.range 12).map (State.reset.setReply (.sending [0x5a] .nothing)).mtx =
    [false, false, true, false, true, true, false, true, false, true, true, true] := by decide +kernel

/-- R170: a reply does not begin ahead of its window and does not lapse ahead of its latest moment, at which the part,
idling, lets it begin. -/
theorem test_reply_keeps_its_window :
    let s := State.reset.setReply (.pending ⟨[0x5a], 1, 21, .nothing⟩)
    (after .replyBegin s).link.receiver = .hunting ∧ (after .replyBegin s.idle).link.receiver = .suspended ∧
      (State.reset.setReply (.pending ⟨[0x5a], 0, 0, .nothing⟩)).idle.link.receiver = .suspended ∧
      (after .replyLapse ((State.reset.setReply (.pending ⟨[0x5a], 0, 1, .nothing⟩)).setReceiver (.receiving [] 0))).link.reply
        = .pending ⟨[0x5a], 0, 1, .nothing⟩ := by decide +kernel

/-- R10: DISARM of one watch leaves the other. -/
theorem test_disarm_names_a_watch : (({ State.reset.chan 0 with riseWatch := some 1, fallWatch := some 2 }).disarm .rise) =
    { State.reset.chan 0 with riseWatch := none, fallWatch := some 2 } := by decide +kernel

/-- R195: a write not reported complete in 200 ms completes when the part next idles. -/
theorem test_write_completes_in_time : (((withWrite 0).idle).store.writing) = none ∧
    (((withWrite 1).idle).store.writing.map SettingsWrite.left) = some 0 := by decide +kernel

/-- R2 to R4: the early contact of a seated, closed bay is lost; the switch is cut and the report says so. -/
theorem test_unseat_cuts : ((after (.presenceFilterExpiry 0 .early) (withChan fun c => { c with
    early := ⟨false, true, some 0⟩, late := ⟨true, true, none⟩, switch := .closed, tripLevel := some 6000 })).chan 0).reports =
      [.contactChange false true false true] := by decide +kernel

/-- R8: a sample above 10,000 mA is recorded as 10,000; R10: a sample at the level does not fire the rise watch. -/
theorem test_sample : ((after (.currentSample 0 10001) .reset).chan 0).live = 10000 ∧
    ((after (.currentSample 0 1000) (withChan fun c => { c with riseWatch := some 1000 })).chan 0).reports = [] ∧
    ((after (.currentSample 0 1001) (withChan fun c => { c with riseWatch := some 1000 })).chan 0).reports =
      [.riseCross 1001] := by decide +kernel

/-- R21: a seated AUTO bay is inserted and queued. -/
theorem test_seat_completes :
    ((after (.seatStable 0) (withReport (withBay 0 .seating none) 0 (.seatStable 2))).bay 0).state = .queued ∧
    ((after (.seatStable 0) (withReport (withBay 0 .seating none) 0 (.seatStable 2))).bay 0).code = some 2 := by
  decide +kernel

/-- R104: a trip in SPINNING. -/
theorem test_trip_faults :
    ((after (.trip 0) (withReport (withBay 0 .spinning (some 9)) 0 (.trip 7000))).bay 0).timer = some 5000 ∧
    ((after (.trip 0) (withReport (withBay 0 .spinning (some 9)) 0 (.trip 7000))).bay 0).failCount = 1 := by
  decide +kernel

/-- R100: with no current in the spin, the check fails NO_SPIN. -/
theorem test_no_spin : ((after (.spinTimerExpiry 0) (withBay 0 .spinning (some 0))).bay 0).latest = some .noSpin := by
  decide +kernel

/-- R110: a bay at the retry limit queues again, one above it is quarantined. -/
theorem test_backoff :
    ((after (.backoffExpiry 0) ((withBay 0 .faulted (some 0)).onBay 0 (fun r => { r with failCount := 2 }))).bay 0).state =
      .queued ∧
    ((after (.backoffExpiry 0) ((withBay 0 .faulted (some 0)).onBay 0 (fun r => { r with failCount := 3 }))).quarantine).length
      = 1 := by decide +kernel

/-- R36: a seated report in EXTRACTING takes the bay back to SEATING. -/
theorem test_extraction_disturbed :
    ((after (.contactChange 0) (withReport (withBay 0 .extracting (some 9)) 0
      (.contactChange true true true false))).bay 0).state = .seating := by decide +kernel

/-- R54: an accepted supply line raises PSU_CHANGE. -/
theorem test_supply_change :
    ((after (.supplyLineAccepted 0 .both) (State.reset.putSlot 0 ⟨⟨true, false, some 0⟩, ⟨true, false, some 0⟩⟩)).budget.figures.raw)
      = 50000 := by decide +kernel

/-- R122: the third LOW sample in a row fails a RUNNING fan. -/
theorem test_fan_fails : ((after (.tachWindowEnd 0) (State.reset.putFan 0
    ⟨.running, 60, 0, 2, 0, some .low, some ⟨1000, 0, 3⟩⟩)).fan 0).state = .failed := by decide +kernel

/-- R126: the third failed read fails the sensor. -/
theorem test_sensor_fails : ((after (.sensorReadComplete 1 none) (State.reset.putCooling { State.reset.cooling with
    sensors := Table.put State.reset.cooling.sensors 1 ⟨.holding, some 30, 2, true⟩ })).cooling.sensors.get 1).state =
      .failed := by decide +kernel

/-- R137: an evaluation after the fan check lowers a duty by 5. -/
theorem test_evaluation : ((after .evaluation (State.reset.putCooling { State.reset.cooling with
    fanCheck := none, sensors := .replicate 4 ⟨.ok, some 25, 0, false⟩ })).zone .a).duty = 95 := by decide +kernel

/-- R155: the phase goes from 7 back to 0. -/
theorem test_phase_wraps : (after .stepBoundary (State.reset.putLights { State.reset.lights with phase := 7 })).lights.phase = 0 := by
  decide +kernel

/-- R165: the Start byte opens a frame, but where its start bit began while SUSPENDED (R162); R166: a gap abandons it. -/
theorem test_frame_opens : (after (.characterReceived ⟨0xa5, false⟩) .reset).link.receiver = .receiving [] 0 ∧
    (after (.characterReceived ⟨0xa5, true⟩) .reset).link.receiver = .hunting ∧
    (after .gapTimeout (State.reset.setReceiver (.receiving [1] 4))).link.receiver = .hunting := by decide +kernel

/-- R191: READ_EVENTS of the one oldest record leaves the others. -/
theorem test_read_events : ((after (.readEvents (to1 [1])) .reset).events.records).length = 2 := by decide +kernel

/-- R58: SET_SUPPLY saturates a capacity. -/
theorem test_set_supply : ((after (.setSupply (to1 (u32 300000 ++ u32 0 ++ u32 0 ++ u32 0 ++ [0, 90] ++ u16 8000))) .reset).cfg.supply.capacities.get 0)
    = 200000 := by decide +kernel

/-- R124: a fan set absent is commanded 0. -/
theorem test_set_fan : ((after (.setFan (to1 ([2, 1] ++ u16 1000 ++ [2] ++ u16 200 ++ u16 2500))) .reset).fan 2).duty = 0 := by
  decide +kernel

/-- Bay 5 switched off in a unit whose slots 0 and 1 contribute, past its fan check. -/
def supplied : State :=
  let s := withBay 5 .idleOff none
  let line : FilteredLine := ⟨true, true, none⟩
  { s with
    arbiter := { Arbiter.cold with startUpHold := false }
    budget := { s.budget with slots := .replicate 4 ⟨line, line⟩, figures := ⟨50000, 45000, 15000, 23000, 22000⟩ } }

/-- R82, R86: a join runs a pass, which grants the entry that fits, with the values it priced. -/
theorem test_join_grants : (after (.powerOn (to1 [0, 1, 5])) supplied).arbiter.grants =
    [⟨5, .powerOn, some (3000, 10), false⟩] := by decide +kernel

/-! ## Witnesses: states and operands that meet a statement's hypotheses, clause by clause -/

/-- The state after reset with a link of its own. -/
def linked (receiver : Receiver) (reply : ReplyState) : State :=
  State.reset.putLink { State.reset.link with receiver := receiver, reply := reply }

/-- The state after reset with a settings write and an awaited reload of its own. -/
def stored (writing : Option SettingsWrite) (awaited : Option AwaitedReload) : State :=
  State.reset.putStore { State.reset.store with writing := writing, reloadAwaited := awaited }

/-- The state after reset with a fan 0 of its own. -/
def fanned (state : FanState) (low good pulses : Nat) : State :=
  State.reset.putFan 0 ⟨state, 100, 0, low, good, none, some ⟨1000, 0, pulses⟩⟩

/-- Bay 0 extracting, its early contact accepted. -/
def extracting : State :=
  let s := withBay 0 .extracting (some 0)
  s.putChan 0 { s.chan 0 with early := ⟨true, true, none⟩ }

/-- The state after reset with a sensor 0 of its own. -/
def sensed (r : SensorRecord) : State :=
  State.reset.putCooling { State.reset.cooling with sensors := Table.put State.reset.cooling.sensors 0 r }

/-- A bay in FAULTED with this failure count. -/
def faulted (n : Nat) : State := (withBay 0 .faulted (some 9)).onBay 0 fun r => { r with failCount := n }

/-- Bay 0 in SPINNING, in its settle extension or not, with these currents. -/
def spun (settling : Bool) (live peak : Nat) : State :=
  let s := (withBay 0 .spinning (some 0)).onBay 0 fun r => { r with settling := settling }
  s.putChan 0 { s.chan 0 with live := live, peak := peak }

/-- A bay with a grant on its way, and its record. -/
def granting (st : BayState) (kind : EntryKind) (priced : Option (Nat × Nat)) (stale : Bool) : State :=
  (withBay 0 st none).putArbiter { Arbiter.cold with
    grantRecord := some ⟨0, kind, none, false⟩, grants := [⟨0, kind, priced, stale⟩] }

/-- R89: a POWER_OFF takes out the entry of the granted bay; joined again before the answer, the bay still declines. -/
theorem test_removed_entry_declines :
    let s := after (.powerOn (to1 [0, 1, 5])) supplied
    let t := after (.powerOn (to1 [0, 1, 5])) (after (.powerOff (to1 [0, 1, 5])) s)
    (t.bay 5).state = .queued ∧ (after (.grantTaken 5) t).arbiter.declines = [⟨5, false⟩] ∧
      ((after (.grantTaken 5) t).bay 5).state = .queued := by decide +kernel

/-- R73: a revocation sent before a warm restart is dropped, though its bay is GRANTED. -/
theorem test_stale_revocation_is_dropped :
    let s := (withBay 0 .granted (some 5000)).putBudget { State.reset.budget with revocations := [⟨0, -1, true⟩] }
    ((after (.revocationRequest 0) s).bay 0).state = .granted := by decide +kernel

/-- R129: an expiry taken after DRIVE_TEMPS has set the report anew makes nothing STALE. -/
theorem test_fresh_report_does_not_expire :
    let s := after (.driveTemps (to1 [1, 0, 30])) (withBay 0 .active none)
    (after (.driveTempAgeExpiry 0) s).cooling.reports.get 0 = some ⟨30, some 60000⟩ := by decide +kernel

/-- Every request of at most 240 bytes to the unit's address reaches the unit after reset. -/
theorem witness_reaches (p : List Byte) (h : p.length ≤ 240) : Reaches (to1 p) State.reset :=
  ⟨by decide +kernel, by decide +kernel, by decide +kernel, rfl, (by decide : (1 : Byte) ≠ 0), h⟩

theorem witness_StepRunsTheFrontCommand :
    ({ State.reset with pending := [.evaluation, .fanCheckEnd] }).pending = .evaluation :: [.fanCheckEnd] := rfl

theorem witness_EmptyQueueIdles : State.reset.pending = [] ∧ State.reset.resetLow = false ∧ State.reset.store.writing = none ∧
    (State.reset.putReset true).pending = [] ∧ (State.reset.putReset true).resetLow = true ∧ (withWrite 0).pending = [] ∧
    (withWrite 0).resetLow = false ∧ (withWrite 0).store.writing = some ⟨factorySettings, 0⟩ ∧
    (withWrite 1).store.writing = some ⟨factorySettings, 1⟩ ∧ State.reset.link.receiver = .hunting ∧
    State.reset.link.reply = .none ∧
    (linked (.receiving [1] 4) (.pending ⟨[], 0, 20, .nothing⟩)).pending = [] ∧
    (linked (.receiving [1] 4) (.pending ⟨[], 0, 20, .nothing⟩)).link.receiver = .receiving [1] 4 ∧
    (linked (.receiving [1] 4) (.pending ⟨[], 0, 20, .nothing⟩)).link.reply = .pending ⟨[], 0, 20, .nothing⟩ ∧
    (linked .suspended (.sending [] .nothing)).pending = [] ∧
    (linked .suspended (.sending [] .nothing)).link.receiver = .suspended ∧
    (linked .suspended (.sending [] .nothing)).link.reply.isSending = true ∧
    (linked .hunting (.pending ⟨[], 0, 0, .nothing⟩)).pending = [] ∧
    (linked .hunting (.pending ⟨[], 0, 0, .nothing⟩)).link.receiver = .hunting ∧
    (linked .hunting (.pending ⟨[], 0, 0, .nothing⟩)).link.reply = .pending ⟨[], 0, 0, .nothing⟩ ∧
    (linked (.receiving [] 0) (.pending ⟨[], 0, 0, .nothing⟩)).pending = [] ∧
    (linked (.receiving [] 0) (.pending ⟨[], 0, 0, .nothing⟩)).link.receiver = .receiving [] 0 ∧
    (linked (.receiving [] 0) (.pending ⟨[], 0, 0, .nothing⟩)).link.reply = .pending ⟨[], 0, 0, .nothing⟩ :=
  ⟨rfl, rfl, rfl, rfl, rfl, rfl, rfl, rfl, rfl, rfl, rfl, rfl, rfl, rfl, rfl, rfl, rfl, rfl, rfl, rfl, rfl, rfl, rfl⟩

theorem witness_RestartsAndWritesReload :
    (linked .suspended (.sending [] .restart)).link.reply = .sending [] .restart ∧
    (linked .suspended (.sending [] .restart)).store.writing = none ∧
    ((linked .suspended (.sending [] .restart)).putStore (stored (some ⟨factorySettings, 200⟩) none).store).store.writing.isSome
      = true ∧
    (stored (some ⟨factorySettings, 200⟩) none).store.writing = some ⟨factorySettings, 200⟩ ∧
    (stored (some ⟨factorySettings, 200⟩) none).store.reloadAwaited = none ∧
    (stored (some ⟨factorySettings, 0⟩) (some ⟨[5], 7⟩)).store.reloadAwaited = some ⟨[5], 7⟩ := ⟨rfl, rfl, rfl, rfl, rfl, rfl⟩

theorem witness_CommandsWithNothingToTake : (State.reset.chan 0).reports = [] ∧ (State.reset.bay 0).timer = none ∧
    (∀ g ∈ State.reset.arbiter.grants, g.bay ≠ 0) ∧ (∀ d ∈ State.reset.arbiter.declines, d.bay ≠ 0) ∧
    (∀ x ∈ State.reset.budget.revocations, x.bay ≠ 0) ∧ State.reset.arbiter.stagger = none ∧
    ((State.reset.putFan 0 (.cold true 1000)).fan 0).window = none ∧
    ((sensed ⟨.ok, some 25, 0, false⟩).cooling.sensors.get 0).reading = false ∧
    (State.reset.cooling.reports.get 0).bind DriveReport.age = none ∧
    (State.reset.putCooling { State.reset.cooling with fanCheck := none }).cooling.fanCheck = none ∧
    State.reset.store.writing = none ∧ State.reset.link.reply = .none ∧
    (linked .suspended (.sending [] .nothing)).link.reply.isSending = true ∧
    (linked .hunting (.pending ⟨[], 0, 20, .nothing⟩)).link.reply.isSending = false := by decide +kernel

theorem witness_EdgesFiltersAndChannelTimers : ((withChan fun c => { c with seatTimer := some 250 }).chan 0).seatTimer.isSome =
      true ∧ (State.reset.chan 0).seatTimer = none ∧
    ((withChan fun c => { c with switch := .ramping, rampTimer := some 0 }).chan 0).switch = .ramping ∧
    (State.reset.chan 0).switch ≠ .ramping := by decide +kernel

/-- The comparator is armed at 6,000 mA: an excursion of 6,001 is above it, one of 6,000 is not. -/
theorem witness_SamplesAndExcursionsReport :
    ((withChan fun c => { c with switch := .closed, tripLevel := some 6000 }).chan 0).tripLevel = some 6000 ∧
    ((withChan fun c => { c with switch := .closed, tripLevel := some 6000 }).chan 0).switch ≠ .opened ∧
    6000 < 6001 ∧ 6000 ≤ 6000 ∧ (State.reset.chan 0).tripLevel = none := by decide +kernel

theorem witness_ActivityLightsTheActLight :
    ((withChan fun c => { c with activity := true, stretch := some 0 }).chan 0).stretch.isSome = true ∧
    (State.reset.chan 0).stretch = none := by decide +kernel

/-- A bay in a state, with one report on its way and its timer running. -/
def reported (st : BayState) (r : Report) : State := withReport (withBay 0 st (some 1)) 0 r

theorem witness_reported (st : BayState) (r : Report) : ((reported st r).chan 0).reports = r :: [] ∧
    ((reported st r).bay 0).state = st ∧ ((reported st r).bay 0).timer.isSome = true := ⟨rfl, rfl, rfl⟩

theorem witness_ContactsBeginTheSeating : ((reported .empty (.contactChange true false false false)).chan 0).reports =
      .contactChange true false false false :: [] ∧
    ((reported .empty (.contactChange true false false false)).bay 0).state = .empty ∧
    ((reported .empty (.contactChange false true false false)).bay 0).state = .empty ∧
    ((reported .seating (.contactChange true true true false)).bay 0).state = .seating := ⟨rfl, rfl, rfl, rfl⟩

theorem witness_LostContactsEmptyTheBay :
    ((reported .seating (.contactChange false true false false)).chan 0).reports = .contactChange false true false false :: [] ∧
    ((reported .seating (.contactChange false true false false)).bay 0).state = .seating ∧
    ((reported .extracting (.contactChange false false false false)).bay 0).state = .extracting ∧
    ((withBay 0 .extracting (some 0)).bay 0).state = .extracting ∧
    ((withBay 0 .extracting (some 0)).bay 0).timer.isSome = true ∧
    ((withBay 0 .extracting (some 0)).chan 0).early.accepted = false := ⟨rfl, rfl, rfl, rfl, rfl, rfl⟩

theorem witness_UnseatedBaysAreExtracted :
    ((reported .wakeQueued (.contactChange true false false true)).chan 0).reports = .contactChange true false false true :: [] ∧
    ((reported .wakeQueued (.contactChange true false false true)).bay 0).state = .wakeQueued ∧
    ((reported .active (.contactChange false false false true)).bay 0).state = .active ∧
    ((reported .active (.contactChange true true true false)).bay 0).state = .active := ⟨rfl, rfl, rfl, rfl⟩

theorem witness_ExtractionEndsInSeating :
    ((reported .extracting (.contactChange true true true false)).chan 0).reports = .contactChange true true true false :: [] ∧
    ((reported .extracting (.contactChange true true true false)).bay 0).state = .extracting ∧
    ((reported .extracting (.contactChange true false false false)).bay 0).state = .extracting ∧
    (extracting.bay 0).state = .extracting ∧
    (extracting.bay 0).timer.isSome = true ∧
    (extracting.chan 0).early.accepted = true :=
  ⟨rfl, rfl, rfl, rfl, rfl, rfl⟩

/-- Bay 0 is AUTO, its flag clear and it is not quarantined, so it goes on to QUEUED. -/
theorem witness_SeatStableCompletesTheSeating :
    ((reported .seating (.seatStable 3)).chan 0).reports = .seatStable 3 :: [] ∧
    ((reported .seating (.seatStable 3)).bay 0).state = .seating ∧
    ((reported .seating (.seatStable 3)).baySettings 0).policy = .auto ∧
    ((reported .seating (.seatStable 3)).bay 0).removalPrepared = false ∧
    (reported .seating (.seatStable 3)).isQuarantined 0 = false ∧
    ((reported .idleOff (.seatStable 3)).bay 0).state ≠ .seating := by decide +kernel

theorem witness_ReportsBeginTheSpin : ((reported .ramping .rampEnd).bay 0).snapshot = some profile0 ∧
    ((reported .ramping .rampEnd).chan 0).reports = .rampEnd :: [] ∧ ((reported .ramping .rampEnd).bay 0).state = .ramping ∧
    ((reported .active .rampEnd).bay 0).snapshot = some profile0 ∧ ((reported .active .rampEnd).bay 0).state ≠ .ramping ∧
    [BayState.granted, .standby, .wakeQueued, .active].all (fun st => ((reported st (.riseCross 1001)).bay 0).snapshot =
      some profile0 && ((reported st (.riseCross 1001)).chan 0).reports = [.riseCross 1001] &&
      ((reported st (.riseCross 1001)).bay 0).state = st) = true := by decide +kernel

theorem witness_TripsFaultTheBay : ((reported .wakeQueued (.trip 6001)).chan 0).reports = .trip 6001 :: [] ∧
    ((reported .wakeQueued (.trip 6001)).bay 0).state.closedSwitch = true ∧
    ((reported .faulted (.trip 6001)).bay 0).state.closedSwitch = false ∧
    ((reported .faulted (.trip 6001)).bay 0).state ≠ .empty ∧
    ((reported .empty (.trip 6001)).bay 0).state = .empty := by decide +kernel

/-- The snapshot's steady_mA is 1,000 and its settle_mA 1,500: a peak of 999 fails, a live current of 1,500 succeeds and one
of 1,501 begins the settle extension. -/
theorem witness_SpinsSucceedOrFail : ((spun false 1500 1000).bay 0).state = .spinning ∧
    ((spun false 1500 1000).bay 0).timer.isSome = true ∧ ((spun false 1500 1000).bay 0).snapshot = some profile0 ∧
    ((spun false 1500 1000).bay 0).settling = false ∧ ((spun false 999 999).chan 0).peak < profile0.steady ∧
    profile0.steady ≤ ((spun false 1000 1000).chan 0).peak ∧ ((spun false 1500 1500).chan 0).live ≤ profile0.settle ∧
    profile0.settle < ((spun false 1501 1501).chan 0).live ∧ ((spun true 1501 1501).bay 0).settling = true ∧
    ((withReport (spun true 1500 1501) 0 (.fallCross 1500)).bay 0).settling = true ∧
    ((withReport (spun true 1500 1501) 0 (.fallCross 1500)).chan 0).reports = .fallCross 1500 :: [] ∧
    ((withReport (spun false 1500 1501) 0 (.fallCross 1500)).bay 0).settling = false ∧
    ((withReport (spun false 1500 1501) 0 (.fallCross 1500)).chan 0).reports = .fallCross 1500 :: [] := by decide +kernel

/-- The retry limit is 2: a failure count of 2 is within it and one of 3 is above it. -/
theorem witness_BayTimersExpire : [BayState.seating, .granted, .poweringDown].all (fun st =>
      ((withBay 0 st (some 0)).bay 0).timer.isSome && ((withBay 0 st (some 0)).bay 0).state = st) = true ∧
    ((faulted 2).bay 0).timer.isSome = true ∧ ((faulted 2).bay 0).state = .faulted ∧
    ((faulted 2).bay 0).failCount ≤ (faulted 2).cfg.admission.retryLimit ∧
    ((faulted 3).bay 0).timer.isSome = true ∧ ((faulted 3).bay 0).state = .faulted ∧
    (faulted 3).cfg.admission.retryLimit < ((faulted 3).bay 0).failCount := by decide +kernel

/-- Profile 1 of the factory defaults has inrush_mA 3,000 and a heat adder of 10. -/
theorem witness_MatchingGrantsAreCarriedOut :
    let s := granting .queued .powerOn (some (3000, 10)) false
    let t := granting .wakeQueued .wake none false
    s.arbiter.grants = [] ++ ⟨0, .powerOn, some ((s.cfg.profile 1).inrush, (s.cfg.profile 1).heat), false⟩ :: [] ∧
      s.arbiter.grantRecord = some ⟨0, .powerOn, none, false⟩ ∧ (s.bay 0).state = .queued ∧ (s.bay 0).profileIndex = some 1 ∧
      t.arbiter.grants = [] ++ ⟨0, .wake, none, false⟩ :: [] ∧ t.arbiter.grantRecord = some ⟨0, .wake, none, false⟩ ∧
      (t.bay 0).state = .wakeQueued ∧ (∀ g ∈ ([] : List Grant), g.bay ≠ 0) := by decide +kernel

/-- The same WAKE grant with a stagger of 0 and the start-up hold past: nothing blocks the pass. -/
theorem witness_MatchingGrantsAreCarriedOut_unblocked :
    let s := granting .wakeQueued .wake none false
    let t := (s.putArbiter { s.arbiter with startUpHold := false }).putCfg
      { s.cfg with admission := { s.cfg.admission with stagger := 0 } }
    t.arbiter.grants = [] ++ ⟨0, .wake, none, false⟩ :: [] ∧ t.arbiter.grantRecord = some ⟨0, .wake, none, false⟩ ∧
      (t.bay 0).state = .wakeQueued ∧
      ¬ (t.cfg.admission.stagger ≠ 0 ∨ (∃ d, (t.bay d).state = .ramping) ∨ t.arbiter.startUpHold = true) := by
  decide +kernel

theorem witness_DeclinesAndStaggerTriggerPasses :
    let s := granting .queued .powerOn (some (2999, 10)) false
    let t := State.reset.putArbiter { Arbiter.cold with declines := [⟨0, false⟩], stagger := some 0 }
    s.arbiter.grants = [] ++ ⟨0, .powerOn, some (2999, 10), false⟩ :: [] ∧
      some (2999, 10) ≠ some ((s.cfg.profile ((s.bay 0).profileIndex.getD 0)).inrush,
        (s.cfg.profile ((s.bay 0).profileIndex.getD 0)).heat) ∧
      ((granting .idleOff .wake none false).bay 0).state ≠ .wakeQueued ∧
      ((granting .queued .powerOn (some (3000, 10)) true).arbiter.grants.map Grant.stale) = [true] ∧
      (s.putArbiter { s.arbiter with grantRecord := some ⟨0, .powerOn, none, true⟩ }).arbiter.grantRecord =
        some ⟨0, .powerOn, none, true⟩ ∧
      t.arbiter.declines = [] ++ ⟨0, false⟩ :: [] ∧ t.arbiter.stagger.isSome = true ∧
      (t.putArbiter { t.arbiter with declines := [⟨0, true⟩] }).arbiter.declines = [] ++ ⟨0, true⟩ :: [] := by decide +kernel

theorem witness_EntryPriceIsBayTermPlusFanTerm : (⟨0, .powerOn, 1, 0, 0⟩ : QueueEntry).kind = .powerOn ∧
    (⟨0, .wake, 1, 0, 0⟩ : QueueEntry).kind = .wake ∧ ((withBay 0 .wakeQueued none).bay 0).snapshot = some profile0 := by
  decide +kernel

theorem witness_RevocationsEndGrants :
    let s := (withBay 0 .granted (some 5000)).putBudget { State.reset.budget with revocations := [⟨0, -1, false⟩] }
    let t := (withBay 0 .standby none).putBudget { State.reset.budget with revocations := [⟨0, -1, false⟩] }
    let u := (withBay 0 .granted (some 5000)).putBudget { State.reset.budget with revocations := [⟨0, -1, true⟩] }
    s.budget.revocations = [] ++ ⟨0, -1, false⟩ :: [] ∧ (s.bay 0).state = .granted ∧
      t.budget.revocations = [] ++ ⟨0, -1, false⟩ :: [] ∧ (t.bay 0).state ≠ .granted ∧
      u.budget.revocations = [] ++ ⟨0, -1, true⟩ :: [] ∧ (u.bay 0).state = .granted := by decide +kernel

/-- A slot whose present line is accepted where its good line's filter runs out. -/
theorem witness_SupplyChangesRecompute :
    let s := State.reset.putSlot 0 ⟨⟨true, true, none⟩, ⟨true, false, some 0⟩⟩
    ((s.budget.slots.get 0).good.filter.isSome ∧ (s.budget.slots.get 0).good.raw ≠ (s.budget.slots.get 0).good.accepted) ∧
      (State.reset.budget.slots.get 0).good.filter = none := by decide +kernel

/-- A unit whose first two slots contribute, with the figures of its policy. -/
def powered (policy : SupplyPolicy) : State :=
  let s := State.reset.putCfg { factorySettings with supply := { factorySettings.supply with policy := policy } }
  let line : FilteredLine := ⟨true, true, none⟩
  (s.putBudget { s.budget with slots := #v[⟨line, line⟩, ⟨line, line⟩, ⟨.cold 10 false, line⟩, ⟨line, .cold 10 false⟩] }).recompute

theorem witness_SupplyFiguresFollowThePolicy : ([SupplyPolicy.shared, .redundant].all fun p =>
      (allBays.all fun b => (powered p).budget.commitments.get b = ((powered p).bay b).commitment) &&
      (allFans.all fun f => (powered p).budget.fanViews.get f = (powered p).fanView f) &&
      (powered p).budget.figures = (powered p).formFigures &&
      (powered p).budget.overcommitted = decide ((powered p).budget.figures.headroom < 0)) = true ∧
    (powered .redundant).budget.figures.raw = 50000 ∧ (powered .shared).budget.figures.raw = 100000 ∧
    (powered .redundant).budget.figures.effective = 45000 := by decide +kernel

/-- Headrooms at 0 and at -1, each with either state. -/
def edged (base : Nat) (was : Bool) : State :=
  let s := powered .redundant
  (s.putCfg { s.cfg with supply := { s.cfg.supply with base := base } }).putBudget { s.budget with overcommitted := was }

theorem witness_BudgetStateFollowsTheHeadroom : ([false, true].all fun was =>
    (edged 30000 was).formFigures.headroom = 0 && (edged 30001 was).formFigures.headroom = -1 &&
    (edged 30000 was).budget.overcommitted = was) = true := by decide +kernel

/-- At 2 pulses a revolution and a window of 1,000 ms, 33 pulses are 990 rpm, LOW, and 34 pulses 1,020, GOOD. -/
theorem witness_TachometersJudgeTheFans : ([FanState.checking, .running, .failed].all fun st =>
      ((fanned st 2 2 33).fan 0).state = st && ((fanned st 2 2 33).fan 0).window = some ⟨1000, 0, 33⟩) = true ∧
    33 * 60000 / (((fanned .running 2 2 33).cfg.fans.get 0).ppr * 1000) <
      ((fanned .running 2 2 33).cfg.fans.get 0).minRpm ∧ 20 ≤ ((fanned .running 2 2 33).fan 0).duty ∧
    ((fanned .running 2 2 33).cfg.fans.get 0).minRpm ≤ 34 * 60000 / (((fanned .running 2 2 34).cfg.fans.get 0).ppr * 1000) ∧
    ((fanned .running 1 2 33).fan 0).low < 2 ∧ 2 ≤ ((fanned .running 2 2 33).fan 0).low ∧
    ((fanned .failed 2 1 34).fan 0).good < 2 ∧ 2 ≤ ((fanned .failed 2 2 34).fan 0).good ∧
    ((State.reset.putFan 0 ⟨.running, 19, 0, 2, 0, none, some ⟨1000, 0, 33⟩⟩).fan 0).duty < 20 := by decide +kernel

/-- A report that has run out, and one set anew, with its whole 60,000 ms to run. -/
theorem witness_SensorReadsAndStaleReports : ((sensed ⟨.ok, some 125, 0, true⟩).cooling.sensors.get 0).reading = true ∧
    (State.reset.putCooling { State.reset.cooling with
      reports := Table.put State.reset.cooling.reports 0 (some ⟨-40, some 0⟩) }).cooling.reports.get 0 =
      some ⟨-40, some 0⟩ ∧ 0 ≠ 60000 ∧ (State.reset.putCooling { State.reset.cooling with
      reports := Table.put State.reset.cooling.reports 0 (some ⟨-40, some 60000⟩) }).cooling.reports.get 0 =
      some ⟨-40, some 60000⟩ := by decide +kernel

/-- The duty of a zone 4, 5 and 6 above its target, the fan check over. -/
def evaluating (duty : Nat) : State :=
  State.reset.putCooling { State.reset.cooling with
    fanCheck := none
    zones := .replicate 3 ⟨duty, .normal⟩
    fans := .replicate 6 ⟨.running, duty, 0, 0, 0, none, some ⟨1000, 1000, 0⟩⟩ }

theorem witness_EvaluationsSlewTheDuties :
    CoolingAgrees ((evaluating 45).putArbiter { Arbiter.cold with startUpHold := false }) := by
  refine ⟨?_, ?_, ?_⟩ <;> decide +kernel

theorem witness_ZoneTargetAndThermalStateFollowTheirRules :
    ((sensed ⟨.failed, some 25, 3, false⟩).cooling.sensors.get 0).state = .failed ∧
    (State.reset.cooling.sensors.get 0).state ≠ .failed ∧ (0 : Fin 4).val = Zone.a.number.val := by decide +kernel

theorem witness_FanCheckEndJudgesTheFans : State.reset.cooling.fanCheck.isSome = true := rfl

/-- The default air curve, and a temperature in each part of it. -/
theorem witness_CurveValueInterpolatesUpward : factoryAirCurve.legal ∧ 25 ≤ factoryAirCurve.p1.temp ∧
    factoryAirCurve.p4.temp ≤ 55 ∧ (factoryAirCurve.p1.temp ≤ 34 ∧ 34 < factoryAirCurve.p2.temp) ∧
    (factoryAirCurve.p2.temp ≤ 35 ∧ 35 < factoryAirCurve.p3.temp) ∧
    (factoryAirCurve.p3.temp ≤ 54 ∧ 54 < factoryAirCurve.p4.temp) := by
  unfold Curve.legal
  decide +kernel

theorem witness_FramesAreAbandonedSilently : (linked (.receiving [1] 4) .none).link.receiver = .receiving [1] 4 ∧
    State.reset.link.receiver = .hunting ∧ (linked .suspended (.sending [] .nothing)).link.receiver = .suspended ∧
    State.reset.link.receiver ≠ .suspended ∧ checkBytes [3, 1, 0x4c, 0] ≠ [0, 0x50] ∧
    ((2 : Byte) ≠ 0 ∧ (2 : Byte) ≠ State.reset.link.unitAddress) := by decide +kernel

theorem witness_CharactersAssembleTheFrame : State.reset.link.receiver = .hunting ∧
    (linked .suspended (.sending [] .nothing)).link.receiver = .suspended ∧
    (List.replicate 240 (0 : Byte)).length ≤ 240 ∧ 240 < (241 : Byte).toNat ∧ (0xa4 : Byte) ≠ 0xa5 := by decide +kernel

/-- A kind outside Table 9-8; a fixed length that differs; a bay list of 1 byte, of 2 with 1 bay, a range of 3 bytes, 2 pairs of
temperatures with 3 bytes, the two forms of SET_ZONE 1 byte short; and a request that meets a pending reply. -/
theorem witness_ScreenedOutRequestsDoNothing : (∀ x : Byte, Reaches (to1 [x]) State.reset) ∧
    (0x55 : Byte) ∉ ([0x01, 0x02, 0x03, 0x04, 0x10, 0x11, 0x12, 0x13, 0x14, 0x20, 0x21, 0x22, 0x23, 0x24, 0x25, 0x30, 0x31,
      0x32, 0x33, 0x40, 0x41, 0x42, 0x43, 0x50, 0x51, 0x52, 0x53, 0x54, 0x60, 0x61, 0x62, 0x63] : List Byte) ∧
    (to1 [0]).payload.length ≠ 0 ∧ ([5] : List Byte).length < 2 ∧ Reaches (to1 [0, 2, 7]) State.reset ∧ ([7] : List Byte).length ≠ (2 : Byte).toNat ∧
    Reaches (to1 [1, 7]) State.reset ∧ ([7] : List Byte).length ≠ 2 ∧ Reaches (to1 [2, 0, 30, 1]) State.reset ∧
    ([0, 30, 1] : List Byte).length ≠ 2 * (2 : Byte).toNat ∧ Reaches (to1 (3 :: List.replicate 16 0)) State.reset ∧
    (List.replicate 16 (0 : Byte)).length ≠ 17 ∧ Reaches (to1 (0 :: List.replicate 7 0)) State.reset ∧
    (List.replicate 7 (0 : Byte)).length ≠ 8 ∧ State.reset.link.receiver ≠ .suspended ∧
    (linked .hunting (.pending ⟨[], 1, 21, .restart⟩)).link.reply = .pending ⟨[], 1, 21, .restart⟩ ∧
    (linked .hunting (.pending ⟨[], 1, 21, .restart⟩)).link.receiver ≠ .suspended ∧
    ((to1 []).address = (linked .hunting (.pending ⟨[], 1, 21, .restart⟩)).link.unitAddress ∧ (to1 []).address ≠ 0) ∧
    (⟨0, 0, []⟩ : Request).address = 0 ∧ ((to1 []).address ≠ 0 ∧ (2 : Byte) ≠ State.reset.link.unitAddress) :=
  ⟨fun _ => witness_reaches _ (by simp), by decide, by decide, by decide, witness_reaches _ (by decide), by decide,
    witness_reaches _ (by decide), by decide, witness_reaches _ (by decide), by decide, witness_reaches _ (by decide),
    by decide, witness_reaches _ (by decide), by decide +kernel⟩

theorem witness_RepliesBeginEndAndLapse :
    (linked .hunting (.pending ⟨[], 1, 21, .nothing⟩)).link.reply = .pending ⟨[], 1, 21, .nothing⟩ ∧
    (linked .hunting (.pending ⟨[], 1, 21, .nothing⟩)).link.receiver = .hunting ∧
    (linked .hunting (.pending ⟨[], 0, 20, .nothing⟩)).link.reply = .pending ⟨[], 0, 20, .nothing⟩ ∧
    (linked (.receiving [] 0) (.pending ⟨[], 0, 0, .restart⟩)).link.reply = .pending ⟨[], 0, 0, .restart⟩ ∧
    (linked (.receiving [] 0) (.pending ⟨[], 0, 0, .nothing⟩)).link.reply = .pending ⟨[], 0, 0, .nothing⟩ ∧
    (linked (.receiving [] 0) (.pending ⟨[], 0, 0, .nothing⟩)).link.receiver = .receiving [] 0 ∧
    (linked (.receiving [] 0) (.pending ⟨[], 1, 21, .restart⟩)).link.reply = .pending ⟨[], 1, 21, .restart⟩ ∧
    (linked (.receiving [] 0) (.pending ⟨[], 1, 21, .restart⟩)).link.receiver = .receiving [] 0 ∧
    AfterReply.restart ≠ .nothing ∧
    (linked .suspended (.sending [] (.linkChange .b9600 50))).link.reply = .sending [] (.linkChange .b9600 50) := by
  decide +kernel

theorem witness_RequestsReplaceAndBroadcastsWithdraw : (to1 [7]).payload.length ≤ 240 ∧
    RequestKind.getProfile.lengthOk (to1 [7]).payload = true ∧
    (to1 [7]).address = (linked .hunting (.pending ⟨[], 1, 21, .restart⟩)).link.unitAddress ∧ (to1 [7]).address ≠ 0 ∧
    (linked .hunting (.pending ⟨[], 1, 21, .restart⟩)).link.reply = .pending ⟨[], 1, 21, .restart⟩ ∧
    (linked .hunting (.pending ⟨[], 1, 21, .restart⟩)).link.receiver ≠ .suspended ∧
    (to1 [7]).address = State.reset.link.unitAddress ∧ State.reset.link.reply = .none ∧
    State.reset.link.receiver = .hunting ∧ RequestKind.getProfile ≠ .restart ∧ RequestKind.getProfile ≠ .setLink := by
  decide +kernel

theorem witness_ReadsAnswerWithoutChange : Reaches (to1 []) State.reset ∧ Reaches (to1 [23]) State.reset ∧
    Reaches (to1 [24]) State.reset ∧ State.reset.arbiter.queue.length ≤ 24 ∧
    (to1 [23]).payload = [BitVec.ofNat 8 (23 : Bay).val] ∧ 23 < (24 : Byte).toNat :=
  ⟨witness_reaches _ (by decide), witness_reaches _ (by decide), witness_reaches _ (by decide), by decide +kernel⟩

theorem witness_GetProfileReadsTheTable : (∀ n : Byte, Reaches (to1 [n]) State.reset) ∧
    (7 : Byte).toNat = (6 : Fin 7).val + 1 ∧ 7 < (8 : Byte).toNat :=
  ⟨fun _ => witness_reaches _ (by simp), by decide⟩

/-- A list of bays, one of them out of range, a range that goes on from 23 to 0, and the fields of SET_BAY_POLICY before a
list. -/
theorem witness_BayRequestsActBayByBay : Reaches (to1 [0, 2, 0, 24]) State.reset ∧
    NamesBays (to1 [0, 2, 0, 24]).payload [0, 24] ∧ Reaches (to1 [1, 23, 2]) State.reset ∧
    NamesBays (to1 [1, 23, 2]).payload [23, 0] ∧ Reaches (to1 ([1, 0xff, 3] ++ [0, 1, 5])) State.reset ∧
    Reaches (to1 ([2, 0xff, 3] ++ [0, 1, 5])) State.reset ∧ NamesBays [0, 1, 5] [5] ∧ (1 : Byte) = 1 ∧
    (1 < (2 : Byte).toNat ∧ (2 : Byte) ≠ 0xff) :=
  ⟨witness_reaches _ (by decide), .inl ⟨[0, 24], by decide⟩, witness_reaches _ (by decide), .inr ⟨23, 2, by decide⟩,
    witness_reaches _ (by decide), witness_reaches _ (by decide), .inl ⟨[5], by decide⟩, by decide⟩

/-- No bays; 25 bays as a range; a range from 24; the form 2. -/
theorem witness_BadBayListsRefuseTheRequest : RefusesBays [0, 0] .badValue ∧ RefusesBays [1, 0, 25] .badValue ∧
    RefusesBays [1, 24, 24] .badBay ∧ RefusesBays [2, 0] .badValue ∧ (∀ n : Byte, Reaches (to1 [n, 0]) State.reset) ∧
    Reaches (to1 ([0, 1, 2] ++ [2, 0])) State.reset ∧ Reaches (to1 ([4, 1] ++ [1, 24, 24])) State.reset ∧
    (4 : Byte).toNat < 5 :=
  ⟨.inl ⟨[], by decide⟩, .inr (.inl ⟨0, 25, by decide⟩), .inr (.inr (.inl ⟨24, 24, by decide⟩)),
    .inr (.inr (.inr ⟨2, [0], by decide⟩)), fun _ => witness_reaches _ (by simp), witness_reaches _ (by decide),
    witness_reaches _ (by decide), by decide⟩

theorem witness_LightRequestsWriteOneValue : (∀ x : Byte, Reaches (to1 [x]) State.reset) ∧
    (∀ x y : Byte, Reaches (to1 [x, y]) State.reset) ∧ (∀ x y : Byte, Reaches (to1 ([x, y] ++ [0, 1, 23])) State.reset) ∧
    NamesBays [0, 1, 23] [23] ∧ (4 : Byte).toNat = (4 : Fin 9).val ∧ 4 < (5 : Byte).toNat ∧ 1 < (2 : Byte).toNat ∧
    (23 : Byte).toNat = (23 : Bay).val ∧ 23 < (24 : Byte).toNat ∧ (24 : Byte) ≠ 0xff ∧ (6 : Byte).toNat ≤ 6 ∧
    6 < (7 : Byte).toNat ∧ (7 : Byte).toNat = (3 : Fin 4).val + 4 ∧ (3 : Byte).toNat < 4 ∧ 7 < (8 : Byte).toNat ∧
    (8 : Byte).toNat = (8 : Fin 9).val ∧ (7 : Byte).toNat = (7 : Fin 8).val ∧ 8 < (9 : Byte).toNat :=
  ⟨fun _ => witness_reaches _ (by simp), fun _ _ => witness_reaches _ (by simp),
    fun _ _ => witness_reaches _ (by simp), .inl ⟨[23], by decide⟩, by decide⟩

theorem witness_SetSupplyWritesAndRecomputes :
    Reaches (to1 (u32 200000 ++ u32 200001 ++ u32 0 ++ u32 0 ++ [1, 49] ++ u16 60001)) State.reset ∧
    Reaches (to1 (u32 200000 ++ u32 200001 ++ u32 0 ++ u32 0 ++ [2, 49] ++ u16 60001)) State.reset ∧
    200001 < 4294967296 ∧ 60001 < 65536 ∧ 1 < (2 : Byte).toNat :=
  ⟨witness_reaches _ (by decide), witness_reaches _ (by decide), by decide⟩

/-- Values as they are, a raised K, and a retry limit lowered to 0, which the FAULTED bay is above. -/
theorem witness_SetAdmissionWritesAndChecks :
    (∀ k b r : Byte, ∀ g w : Nat, Reaches (to1 ([k] ++ u16 g ++ [b, r] ++ u16 w)) State.reset) ∧
    (State.reset.cfg.admission = ⟨2, 1500, 3, 2, 5000⟩) ∧ 0 < ((faulted 1).bay 0).failCount ∧
    ((faulted 1).bay 0).state = .faulted ∧ ((withBay 0 .queued none).bay 0).state = .queued :=
  ⟨fun _ _ _ _ _ => witness_reaches _ (by simp [u16]), by decide +kernel⟩

/-- A profile of Table 3-2 that keeps the relations and one that breaks them, at the numbers 0, 1, 7 and 8; the rule
numbers 7 and 8. -/
theorem witness_ProfileAndRuleWrites :
    (∀ n : Byte, Reaches (to1 ([n] ++ u16 2400 ++ u16 700 ++ u16 300 ++ u16 12000 ++ u16 1200 ++ u16 5000 ++ [5])) State.reset) ∧
    (300 ≤ 700 ∧ 700 ≤ 2400 ∧ 2400 ≤ 5000 ∧ 700 ≤ 1200) ∧ ¬ (700 ≤ 600) ∧ (1 : Byte).toNat = (0 : Fin 7).val + 1 ∧
    (7 : Byte).toNat = (6 : Fin 7).val + 1 ∧ 7 < (8 : Byte).toNat ∧
    (∀ n e : Byte, Reaches (to1 [n, e, 24, 32, 16, 8]) State.reset) ∧ (7 : Byte).toNat = (7 : Fin 8).val ∧
    (1 : Byte).toNat ≤ 1 ∧ 1 < (2 : Byte).toNat :=
  ⟨fun _ => witness_reaches _ (by simp [u16]), by decide, by decide, by decide, by decide, by decide,
    fun _ _ => witness_reaches _ (by simp), by decide⟩

/-- Bay 0 in IDLE_OFF with carrier code 1 and two enabled rules that match it: a rule write finds a conflict. -/
theorem witness_ProfileAndRuleWrites_conflict :
    let s := withBay 0 .idleOff none
    let t := s.putCfg { s.cfg with rules := Table.put (Table.put s.cfg.rules 0 ⟨true, 0, 0, 15, 1⟩) 1 ⟨true, 0, 31, 2, 2⟩ }
    (t.bay 0).state = .idleOff ∧ (t.bay 0).code = some 1 ∧
      ((after (.setProfileRule (to1 [7, 0, 0, 0, 0, 1])) t).events.records.getLast?.map
        (fun r => (r.event.kind, r.event.value))) = some (.ruleConflict, some 2) := by decide +kernel

theorem witness_DriveTempsSetReports : (∀ n temp : Byte, Reaches (to1 [1, n, temp]) State.reset) ∧
    23 < (24 : Byte).toNat ∧ (23 : Byte).toNat = (23 : Bay).val ∧ (State.reset.bay 23).state = .empty ∧
    Reaches (to1 [1, 0, 126]) (withBay 0 .active none) ∧ ((withBay 0 .active none).bay 0).state ≠ .empty ∧
    (127 : Byte).toInt = 127 ∧ (126 : Byte).toInt ≠ 127 ∧ Reaches (to1 [0]) State.reset ∧ Reaches (to1 [25]) State.reset ∧
    Reaches (to1 (24 :: List.replicate 48 0)) State.reset ∧ (List.replicate 48 (0 : Byte)).length = 2 * (24 : Byte).toNat :=
  ⟨fun _ _ => witness_reaches _ (by simp), by decide, by decide, by decide +kernel,
    ⟨by decide +kernel, by decide +kernel, by decide +kernel, by decide +kernel, by decide, by decide⟩, by decide +kernel,
    by decide, by decide, witness_reaches _ (by decide), witness_reaches _ (by decide), witness_reaches _ (by decide),
    by decide⟩

/-- A legal curve and common settings, a curve out of order, thresholds that meet, and a window of 750 ms. -/
theorem witness_ZoneSettingsAreCheckedAndWritten :
    (∀ (code : Byte) (c : List Byte), c.length = 8 → Reaches (to1 ([code] ++ c)) State.reset) ∧
    (∀ (c rest : List Byte), c.length = 8 → rest.length = 9 → Reaches (to1 ([3] ++ c ++ rest)) State.reset) ∧
    factoryAirCurve.legal ∧ ¬ Curve.legal ⟨⟨25, 30⟩, ⟨25, 40⟩, ⟨45, 70⟩, ⟨55, 100⟩⟩ ∧ factoryCommon.legal ∧
    ¬ CoolingCommon.legal { factoryCommon with airWarning := 55 } ∧
    ¬ CoolingCommon.legal { factoryCommon with windowMs := 750 } ∧ 3 < (4 : Byte).toNat := by
  refine ⟨fun _ c h => witness_reaches _ (by simp; omega), fun c r h h' => witness_reaches _ (by simp; omega), ?_⟩
  unfold CoolingCommon.legal Curve.legal
  refine ⟨?_, ?_, ?_, ?_, ?_, ?_⟩ <;> decide +kernel

theorem witness_FanSettingsMoveTheFan :
    (∀ n absent ppr : Byte, Reaches (to1 ([n, absent] ++ u16 20001 ++ [ppr] ++ u16 2001 ++ u16 6001)) State.reset) ∧
    5 < (6 : Byte).toNat ∧ 1 < (2 : Byte).toNat ∧ (5 : Byte).toNat = (5 : Fan).val ∧ (1 : Byte).toNat ≤ 1 :=
  ⟨fun _ _ _ => witness_reaches _ (by simp [u16]), by decide⟩

theorem witness_UnitRequestsActOrWait : (∀ x : Byte, Reaches (to1 [x]) State.reset) ∧ Reaches (to1 []) State.reset ∧
    (∀ x y : Byte, Reaches (to1 [x, y]) State.reset) ∧ (16 : Byte).toNat ≤ 16 ∧ 16 < (17 : Byte).toNat ∧
    State.reset.store.writing = none ∧ Reaches (to1 []) (stored (some ⟨factorySettings, 200⟩) none) ∧
    (stored (some ⟨factorySettings, 200⟩) none).store.writing.isSome = true :=
  ⟨fun _ => witness_reaches _ (by simp), witness_reaches _ (by decide), fun _ _ => witness_reaches _ (by simp),
    by decide, by decide, rfl,
    ⟨by decide +kernel, by decide +kernel, by decide +kernel, by decide +kernel, by decide, by decide⟩, rfl⟩

/-- READ_EVENTS of 1 and of 16; an excursion above an armed level; a reply on its way; a fan's zone. -/
theorem witness_EventsQueueAndOutputsFollow : (∀ n : Byte, Reaches (to1 [n]) State.reset) ∧ (1 : Byte) ≠ 0 ∧
    (16 : Byte).toNat ≤ 16 ∧
    ((withChan fun c => { c with switch := .closed, tripLevel := some 6000 }).chan 0).tripLevel = some 6000 ∧ 6000 < 6001 ∧
    LinkAgrees (linked .suspended (.sending [] .nothing)) ∧ CoolingAgrees State.reset ∧
    (linked .suspended (.sending [0x5a, 1] .nothing)).link.reply = .sending [0x5a, 1] .nothing ∧
    (linked .suspended (.sending [0x5a, 1] .nothing)).resetLow = false ∧ ([0x5a, 1] : List Byte)[1]? = some 1 ∧
    State.reset.mde = false ∧ (State.reset.putReset true).resetLow = true := by
  refine ⟨fun _ => witness_reaches _ (by simp), by decide, by decide, rfl, by decide,
    ⟨?_, fun p h => ?_, fun t g h => ?_, ?_⟩, ⟨?_, ?_, ?_⟩, ?_⟩
  · decide +kernel
  · cases h
  · cases h
  all_goals decide +kernel

/-- A state that keeps every invariant: a command waits, and time has passed. -/
def running : State := { State.reset with pending := [.evaluation], time := 500 }

theorem witness_factorySettings_legal : factorySettings.legal := by
  unfold Settings.legal Profile.legal ProfileRule.legal SupplyParams.legal AdmissionParams.legal CoolingCommon.legal
    Curve.legal FanSettings.legal
  refine ⟨?_, ?_, ?_, ?_, ?_, ?_, ?_, ?_⟩ <;> decide +kernel

theorem witness_StepKeepsSettingsInRange : SettingsInRange running ∧ CooledEnough running := by
  refine ⟨⟨witness_factorySettings_legal, fun p h => ?_, fun f a h => ?_, witness_factorySettings_legal, fun c h => ?_,
    fun h => ?_, fun b p h => ?_, fun z => ?_, ?_⟩, fun z => ?_, fun _ z => ?_⟩
  · cases h
  · cases h
  · cases h
  · cases h
  · have e : ∀ b, (running.bay b).snapshot = none := by decide +kernel
    rw [e b] at h
    cases h
  · cases z <;> decide +kernel
  · decide +kernel
  · cases z <;> decide +kernel
  · cases z <;> decide +kernel

theorem witness_StepKeepsTheBudget : BudgetAgrees running ∧ CountsAgree running := by
  refine ⟨⟨?_, ?_, ?_, ?_⟩, ?_, ?_, ?_, fun b h => ?_⟩
  all_goals first | cases h | decide +kernel

theorem witness_StepKeepsTheBayRecords : RecordsAgree running := by
  refine ⟨fun b => ?_, by decide +kernel, fun e h => ?_⟩
  · refine ⟨?_, ?_, ?_, ?_, ?_, ?_, ?_⟩ <;> revert b <;> decide +kernel
  · cases h

theorem witness_StepKeepsTheChannels : ChannelsAgree running := by
  unfold ChannelsAgree Channel.agrees FilteredLine.agrees
  decide +kernel

theorem witness_StepKeepsTheCoolingAndLights : CoolingAgrees running ∧ LightsAgree running := by
  refine ⟨⟨?_, ?_, ?_⟩, ?_, ?_⟩ <;> decide +kernel

theorem witness_StepKeepsTheLink : LinkAgrees running ∧ EventsBounded running := by
  refine ⟨⟨?_, fun p h => ?_, fun t g h => ?_, ?_⟩, by unfold EventsBounded; decide +kernel⟩
  · decide +kernel
  · cases h
  · cases h
  · decide +kernel

theorem witness_StepKeepsTheQueue : QueueAgrees running := by
  refine ⟨?_, fun e h => ?_, ?_, ?_, ?_, fun g h => ?_, fun r h => ?_, fun a h => ?_⟩
  all_goals first | cases h | decide +kernel

end Sys2Proof.Tests
end

section
/-! SUPPORT. A request that reaches the part is carried out by its block, and its answer becomes the pending reply
(R168 to R172): the rules the statements about single requests rest on. -/

namespace Sys2Proof.Machine

/-! ## Numbers in bytes (R179) -/

theorem u16_eq_mod (n : Nat) : u16 n = [BitVec.ofNat 8 (n % 256), BitVec.ofNat 8 (n / 256 % 256)] := by
  have low : BitVec.ofNat 8 n = BitVec.ofNat 8 (n % 256) := BitVec.eq_of_toNat_eq (by simp)
  have high : BitVec.ofNat 8 (n / 256) = BitVec.ofNat 8 (n / 256 % 256) := BitVec.eq_of_toNat_eq (by simp)
  rw [u16, low, high]

/-- The two bytes a number below 65,536 is sent in are read back as that number. -/
theorem toNat_two_bytes {n : Nat} (h : n < 65536) :
    (BitVec.ofNat 8 (n % 256)).toNat + 256 * (BitVec.ofNat 8 (n / 256 % 256)).toNat = n := by
  simp only [BitVec.toNat_ofNat]
  omega

theorem frameCheck_eq_sum (bytes : List Byte) : frameCheck bytes = (bytes.map BitVec.toNat).sum % 65536 := by
  rw [frameCheck, List.sum_eq_foldl, List.foldl_map]

theorem u16_frameCheck (bytes : List Byte) : u16 (frameCheck bytes) = checkBytes bytes := by
  have below : frameCheck bytes / 256 % 256 = frameCheck bytes / 256 := by
    rw [frameCheck_eq_sum]
    omega
  rw [u16_eq_mod, below, frameCheck_eq_sum]
  rfl

/-! ## Replies (R169, R170) -/

theorem replyFrame_answer (address kind tag : Byte) (st : Status) (body : List Byte) :
    replyFrame address kind tag (answer st body) = replyBytes address kind tag st body := by
  simp [replyFrame, replyBytes, answer, u16_frameCheck, Nat.add_comm]

theorem State.pend_answer (s : State) (code tag : Byte) (st : Status) (body : List Byte) :
    s.pend code tag (answer st body) = s.replying code tag st body := by
  simp only [State.pend, replyFrame_answer]
  rfl

/-- CLAMPED and OK by a test of the fields, and by what it decides. -/
theorem writtenStatus_eq_clampedOr {b : Bool} {changed : Prop} [Decidable changed] (h : b = true ↔ changed) :
    writtenStatus b = clampedOr changed := by
  simp only [writtenStatus, clampedOr, h]

/-! ## The taking of a request (R167, R168, R172) -/

theorem kindOfCode_byte (k : RequestKind) : kindOfCode k.byte = some k := by
  cases k <;> decide

theorem screen_byte {k : RequestKind} {p : List Byte} (h : k.lengthOk p = true) : screen k.byte p = .ok k := by
  simp [screen, kindOfCode_byte, h]

/-- A pending reply without an action is withdrawn as the receiver goes to HUNTING. -/
theorem Reaches.withdraw_eq_listening {r : Request} {s : State} (h : Reaches r s) :
    (s.setReceiver .hunting).withdraw = s.listening := by
  have action : (s.setReceiver .hunting).link.reply.action = .nothing := h.noAction
  rw [State.withdraw, action]
  rfl

theorem Reaches.requestFrame_eq_takeAddressed {r : Request} {s : State} (h : Reaches r s) (code : Byte) :
    s.requestFrame code r = (s.setReceiver .hunting).takeAddressed code r := by
  have fits : ¬ 240 < r.payload.length := by have := h.length; omega
  have taken : (s.setReceiver .hunting).takeRequest code r = (s.setReceiver .hunting).takeAddressed code r := by
    have idle : (s.setReceiver .hunting).link.reply.isSending = false := h.notSending
    have own : r.address = (s.setReceiver .hunting).link.unitAddress := h.addressed
    rw [State.takeRequest, idle, if_neg Bool.false_ne_true, if_neg h.notBroadcast, if_pos own]
  rw [State.requestFrame, State.completes]
  cases hr : s.link.receiver with
  | suspended => exact absurd hr h.receiver
  | hunting => simp only [if_neg fits, taken]
  | receiving sofar gap => simp only [if_neg fits, taken]

/-- A request of a permitted length is answered by its block, in the part as it listens. -/
theorem Reaches.requestFrame_eq_replying {r : Request} {s t : State} {k : RequestKind} {st : Status} {body : List Byte}
    (h : Reaches r s) (permitted : k.lengthOk r.payload = true)
    (answers : s.listening.dispatch k r.payload = (t, answer st body)) :
    s.requestFrame k.byte r = t.replying k.byte r.tag st body := by
  rw [h.requestFrame_eq_takeAddressed, State.takeAddressed, screen_byte permitted, h.withdraw_eq_listening]
  simp only [answers, State.answered, State.pend_answer]

end Sys2Proof.Machine
end

section
/-! SUPPORT. The profile selector's operations (Chapter 3): profile numbers, profiles and rules in bytes, and what a
re-selection does. -/

namespace Sys2Proof.Machine

/-! ## GET_PROFILE and SET_PROFILE (R41, R42, R44) -/

theorem Profile.bytes_eq (p : Profile) :
    let two := fun v : Nat => [BitVec.ofNat 8 (v % 256), BitVec.ofNat 8 (v / 256 % 256)]
    p.bytes = two p.inrush ++ two p.steady ++ two p.standby ++ two p.spinMs ++ two p.settle ++ two p.trip ++
      [BitVec.ofNat 8 p.heat] := by
  simp only [Profile.bytes, u16_eq_mod, u8]

@[simp] theorem Settings.profile_succ (c : Settings) (i : Fin 7) : c.profile i.succ = c.profiles.get i := by
  simp [Settings.profile]

theorem eighth_val (i : Fin 8) : eighth i.val = some i := by
  simp [eighth]

theorem eighth_eq_none {n : Nat} (h : 7 < n) : eighth n = none := by
  rw [eighth, dif_neg (by omega)]

theorem writableProfile_succ (i : Fin 7) : writableProfile (i.val + 1) = some i := by
  rw [writableProfile, dif_pos (by omega)]
  rfl

theorem writableProfile_eq_none {n : Nat} (h : n = 0 ∨ 7 < n) : writableProfile n = none := by
  rw [writableProfile, dif_neg (by omega)]

@[simp] theorem u8_toNat (n : Byte) : u8 n.toNat = [n] := by
  simp [u8]

theorem State.getProfile_eq_reads (s : State) {n : Byte} {i : Fin 8} (h : n.toNat = i.val) :
    s.getProfile [n] = (s, answer .ok (n :: (s.cfg.profile i).bytes)) := by
  have number : byteAt [n] 0 = i.val := h
  rw [State.getProfile, number, eighth_val]
  simp only [← h, u8_toNat]
  rfl

theorem State.getProfile_eq_refuse (s : State) {n : Byte} (h : 7 < n.toNat) :
    s.getProfile [n] = (s, answer .badValue []) := by
  have number : eighth (byteAt [n] 0) = none := eighth_eq_none h
  rw [State.getProfile, number]
  rfl

theorem Reaches.exec_getProfile {r : Request} {s t : State} {n : Byte} {st : Status} {body : List Byte} (h : Reaches r s)
    (payload : r.payload = [n]) (answers : s.listening.getProfile [n] = (t, answer st body)) :
    exec (.getProfile r) s = .next (t.replying 0x51 r.tag st body) := by
  refine congrArg Host.Outcome.next (h.requestFrame_eq_replying (k := .getProfile) ?_ ?_)
  · simp [payload, RequestKind.lengthOk]
  · rw [payload]
    exact answers

theorem profileAt_fields {inrush steady standby spin settle trip : Nat} (h1 : inrush < 65536) (h2 : steady < 65536)
    (h3 : standby < 65536) (h4 : spin < 65536) (h5 : settle < 65536) (h6 : trip < 65536) (n heat : Byte) :
    let two := fun v : Nat => [BitVec.ofNat 8 (v % 256), BitVec.ofNat 8 (v / 256 % 256)]
    profileAt ([n] ++ two inrush ++ two steady ++ two standby ++ two spin ++ two settle ++ two trip ++ [heat]) =
      ⟨inrush, steady, standby, spin, settle, trip, heat.toNat⟩ :=
  Profile.mk.injEq .. ▸ ⟨toNat_two_bytes h1, toNat_two_bytes h2, toNat_two_bytes h3, toNat_two_bytes h4,
    toNat_two_bytes h5, toNat_two_bytes h6, rfl⟩

theorem State.setProfile_eq_refuse_number (s : State) {p : List Byte} (h : byteAt p 0 = 0 ∨ 7 < byteAt p 0) :
    s.setProfile p = (s, answer .badValue []) := by
  rw [State.setProfile, writableProfile_eq_none h]
  rfl

theorem State.setProfile_eq_refuse_unrelated (s : State) {p : List Byte} (h : (profileAt p).clamped.related = false) :
    s.setProfile p = (s, answer .badValue []) := by
  rw [State.setProfile]
  cases writableProfile (byteAt p 0) with
  | none => rfl
  | some i => simp only [h, Bool.not_false, if_true, refuse]

theorem State.setProfile_eq_put (s : State) {p : List Byte} {i : Fin 7} (number : byteAt p 0 = i.val + 1)
    (related : (profileAt p).clamped.related = true) :
    let x := (profileAt p).clamped
    s.setProfile p = (s.putCfg { s.cfg with profiles := Table.put s.cfg.profiles i x },
      answer (clampedOr (x ≠ profileAt p)) (u8 (byteAt p 0) ++ x.bytes)) := by
  rw [State.setProfile, number, writableProfile_succ]
  simp only [related, Bool.not_true, Bool.false_eq_true, if_false]
  rw [writtenStatus_eq_clampedOr bne_iff_ne]

theorem Reaches.exec_setProfile {r : Request} {s t : State} {st : Status} {body : List Byte} (h : Reaches r s)
    (length : r.payload.length = 14) (answers : s.listening.setProfile r.payload = (t, answer st body)) :
    exec (.setProfile r) s = .next (t.replying 0x50 r.tag st body) :=
  congrArg Host.Outcome.next
    (h.requestFrame_eq_replying (k := .setProfile) (by simp [length, RequestKind.lengthOk]) answers)

/-! ## The rules that match (R46, R47) -/

theorem ProfileRule.names_iff (r : ProfileRule) (b : Bay) :
    r.names b = true ↔ ∀ k, r.mask.testBit k = true → b.val.testBit k = r.base.testBit k := by
  rw [ProfileRule.names, beq_iff_eq]
  constructor
  · intro agree k masked
    have bit := congrArg (fun v => Nat.testBit v k) agree
    simpa [Nat.testBit_and, masked] using bit
  · intro agree
    refine Nat.eq_of_testBit_eq fun k => ?_
    cases masked : r.mask.testBit k with
    | false => simp [Nat.testBit_and, masked]
    | true => simp [Nat.testBit_and, masked, agree k masked]

theorem ProfileRule.matchesBay_iff (cfg : Settings) (b : Bay) (code : Option Code) (i : Fin 8) :
    (cfg.rules.get i).matchesBay b code = true ↔ Matches cfg b code i := by
  cases code with
  | none => simp [ProfileRule.matchesBay, Matches]
  | some c => simp [ProfileRule.matchesBay, Matches, ProfileRule.names_iff, and_assoc]

/-- The numbers of the rules that match, in order. -/
def Settings.matchingRules (cfg : Settings) (b : Bay) (code : Option Code) : List (Fin 8) :=
  (List.finRange 8).filter fun i => (cfg.rules.get i).matchesBay b code

theorem Settings.mem_matchingRules (cfg : Settings) (b : Bay) (code : Option Code) (i : Fin 8) :
    i ∈ cfg.matchingRules b code ↔ Matches cfg b code i := by
  simp [Settings.matchingRules, ProfileRule.matchesBay_iff]

theorem Settings.matchingRules_nodup (cfg : Settings) (b : Bay) (code : Option Code) :
    (cfg.matchingRules b code).Nodup :=
  (List.nodup_finRange 8).filter _

theorem Table.toList_eq_map_get {α : Type} {n : Nat} (v : Table α n) : v.toList = (List.finRange n).map v.get := by
  apply List.ext_getElem <;> simp [Vector.get]

theorem Settings.matching_eq_map (cfg : Settings) (b : Bay) (code : Option Code) :
    cfg.matching b code = (cfg.matchingRules b code).map fun i => (cfg.rules.get i).profile := by
  rw [Settings.matching, Table.toList_eq_map_get, List.filter_map, List.map_map]
  rfl

/-- The model's selection is the one R47 describes. -/
theorem Settings.selects_matching (cfg : Settings) (b : Bay) (code : Option Code) :
    Selects cfg b code (cfg.matching b code).length (selectedIndex (cfg.matching b code)) := by
  rw [Settings.matching_eq_map]
  refine ⟨cfg.matchingRules b code, cfg.matchingRules_nodup b code, cfg.mem_matchingRules b code, ?_, ?_, ?_⟩
  · simp
  · intro i one
    simp [one, selectedIndex]
  · intro notOne
    match cfg.matchingRules b code, notOne with
    | [], _ => rfl
    | [_], notOne => exact absurd rfl notOne
    | _ :: _ :: _, _ => rfl

/-! ## Re-selection (R47, R49) -/

/-- The record of a bay after its selection. -/
def State.selectedRecord (s : State) (b : Bay) : BayRecord :=
  { s.bay b with profileIndex := some (selectedIndex (s.cfg.matching b (s.bay b).code)) }

/-- The conflict a selection for a bay raises. -/
def State.conflicts (s : State) (b : Bay) : List Event :=
  selectionEvents b (s.bay b).code (s.cfg.matching b (s.bay b).code)

theorem State.bay_select (s : State) (b c : Bay) :
    (s.select b).bay c = if b = c then s.selectedRecord b else s.bay c := by
  simp [State.select, State.bay, State.selectedRecord]

theorem State.select_events (s : State) (b : Bay) : (s.select b).events = (s.raiseAll (s.conflicts b)).events := by
  rw [State.select]
  refine State.raiseAll_events_congr ?_ ?_ _ <;> rfl

/-- A selection leaves the state and the code of every bay, so no selection changes what another one does. -/
theorem State.select_keeps (s : State) (b c : Bay) :
    ((s.select b).bay c).state = (s.bay c).state ∧ (s.select b).selectedRecord c = s.selectedRecord c ∧
      (s.select b).conflicts c = s.conflicts c := by
  by_cases same : b = c
  · subst same
    simp [State.selectedRecord, State.conflicts, State.bay_select]
  · simp [State.selectedRecord, State.conflicts, State.bay_select, same]

/-- One bay of a re-selection. -/
def State.reselectBay (states : List BayState) (s : State) (b : Bay) : State :=
  if (s.bay b).state ∈ states then s.select b else s

theorem State.reselectBay_keeps (states : List BayState) (s : State) (b c : Bay) :
    ((s.reselectBay states b).bay c).state = (s.bay c).state ∧
      (s.reselectBay states b).selectedRecord c = s.selectedRecord c ∧
      (s.reselectBay states b).conflicts c = s.conflicts c := by
  rw [State.reselectBay]
  split
  · exact s.select_keeps b c
  · exact ⟨rfl, rfl, rfl⟩

theorem State.reselectBay_time (states : List BayState) (s : State) (b : Bay) : (s.reselectBay states b).time = s.time := by
  rw [State.reselectBay]
  split
  · exact s.select_time b
  · rfl

theorem State.reselectBay_events (states : List BayState) (s : State) (b : Bay) :
    (s.reselectBay states b).events = (s.raiseAll (if (s.bay b).state ∈ states then s.conflicts b else [])).events := by
  rw [State.reselectBay]
  split
  · exact s.select_events b
  · rfl

theorem State.bay_foldl_reselectBay (states : List BayState) (l : List Bay) (s : State) (c : Bay) :
    (l.foldl (State.reselectBay states) s).bay c =
      if c ∈ l ∧ (s.bay c).state ∈ states then s.selectedRecord c else s.bay c := by
  induction l generalizing s with
  | nil => simp
  | cons b l ih =>
    obtain ⟨state, record, -⟩ := s.reselectBay_keeps states b c
    rw [List.foldl_cons, ih, state, record]
    by_cases same : b = c
    · subst same
      by_cases selects : (s.bay b).state ∈ states <;> simp [State.reselectBay, State.bay_select, selects]
    · have other : (s.reselectBay states b).bay c = s.bay c := by
        rw [State.reselectBay]
        split <;> simp [State.bay_select, same]
      simp [other, Ne.symm same]

theorem State.foldl_reselectBay_events (states : List BayState) (l : List Bay) (s : State) :
    (l.foldl (State.reselectBay states) s).events =
      (s.raiseAll (l.flatMap fun b => if (s.bay b).state ∈ states then s.conflicts b else [])).events := by
  induction l generalizing s with
  | nil => rfl
  | cons b l ih =>
    have rest : ∀ c, (if ((s.reselectBay states b).bay c).state ∈ states then (s.reselectBay states b).conflicts c
        else []) = if (s.bay c).state ∈ states then s.conflicts c else [] := fun c => by
      obtain ⟨state, -, conflicts⟩ := s.reselectBay_keeps states b c
      rw [state, conflicts]
    have time : ∀ es, (s.reselectBay states b).time = (s.raiseAll es).time := fun es =>
      (s.reselectBay_time states b).trans (s.raiseAll_time es).symm
    simp only [List.foldl_cons, List.flatMap_cons, ih, rest, State.raiseAll_append]
    exact State.raiseAll_events_congr (s.reselectBay_events states b) (time _) _

theorem State.bay_reselect (s : State) (states : List BayState) (c : Bay) :
    (s.reselect states).bay c = if (s.bay c).state ∈ states then s.selectedRecord c else s.bay c := by
  have folded := State.bay_foldl_reselectBay states allBays s c
  simp only [mem_allBays, true_and] at folded
  exact folded

theorem State.reselect_events (s : State) (states : List BayState) :
    (s.reselect states).events =
      (s.raiseAll (allBays.flatMap fun b => if (s.bay b).state ∈ states then s.conflicts b else [])).events :=
  State.foldl_reselectBay_events states allBays s

/-- A re-selection touches the bay records and the event queue alone. -/
theorem State.reselect_eq (s : State) (states : List BayState) :
    s.reselect states = { s with bays := (s.reselect states).bays, events := (s.reselect states).events } := by
  calc s.reselect states = { s.reselect states with pending := (s.reselect states).pending } := rfl
    _ = _ := by simp

/-- What a re-selection does, in the terms of R47: the index and the conflict of each selected bay are those of the rules
that match it. -/
theorem State.reselect_selects (s : State) (states : List BayState) :
    ∃ (count : Bay → Nat) (index : Bay → Fin 8),
      (∀ b, (s.bay b).state ∈ states → Selects s.cfg b (s.bay b).code (count b) (index b) ∧
        (s.reselect states).bay b = { s.bay b with profileIndex := some (index b) }) ∧
      (s.reselect states).events = (s.raiseAll (allBays.flatMap (fun b =>
        if (s.bay b).state ∈ states ∧ 2 ≤ count b then
          [bayEvent .ruleConflict b ((s.bay b).code.map (fun c => BitVec.ofNat 8 c.val)) (some (count b))]
        else []))).events := by
  refine ⟨fun b => (s.cfg.matching b (s.bay b).code).length, fun b => selectedIndex (s.cfg.matching b (s.bay b).code),
    fun b selected => ⟨s.cfg.selects_matching b _, ?_⟩, ?_⟩
  · rw [State.bay_reselect, if_pos selected]
    rfl
  · simp only [State.reselect_events, State.conflicts, selectionEvents, ite_and]

theorem State.bay_reselect_of_notMem (s : State) {states : List BayState} {b : Bay} (h : (s.bay b).state ∉ states) :
    (s.reselect states).bay b = s.bay b := by
  rw [State.bay_reselect, if_neg h]

/-! ## SET_PROFILE_RULE (R48) -/

theorem State.setProfileRule_eq_refuse (s : State) {p : List Byte} (h : 7 < byteAt p 0 ∨ 1 < byteAt p 1) :
    s.setProfileRule p = (s, answer .badValue []) := by
  rw [State.setProfileRule]
  cases number : eighth (byteAt p 0) with
  | none => rfl
  | some i =>
    have enable : 1 < byteAt p 1 := h.resolve_left fun above => by simp [eighth_eq_none above] at number
    simp only [enable, if_true, refuse]

theorem ruleAt_eq (n enable base mask carriers profile : Byte) :
    ruleAt [n, enable, base, mask, carriers, profile] = ⟨decide (enable = 1), min 23 base.toNat, min 31 mask.toNat,
      BitVec.ofNat 4 (carriers.toNat % 16), ⟨max 1 (min 7 profile.toNat), by omega⟩⟩ := by
  have enabled : (enable.toNat == 1) = decide (enable = 1) := by
    rw [Bool.eq_iff_iff, beq_iff_eq, decide_eq_true_iff, ← BitVec.toNat_inj]
    rfl
  have codes : carriers.setWidth 4 = BitVec.ofNat 4 (carriers.toNat % 16) := BitVec.eq_of_toNat_eq (by simp)
  simp [ruleAt, byteAt, enabled, codes, clampedIndex, clampNat]

theorem ruleAt_bytes {enable : Byte} (h : enable.toNat ≤ 1) (n base mask carriers profile : Byte) :
    (ruleAt [n, enable, base, mask, carriers, profile]).bytes =
      [enable, BitVec.ofNat 8 (min 23 base.toNat), BitVec.ofNat 8 (min 31 mask.toNat),
        BitVec.ofNat 8 (carriers.toNat % 16), BitVec.ofNat 8 (max 1 (min 7 profile.toNat))] := by
  have flag : flag8 (decide (enable = 1#8)) = [enable] := by
    obtain zero | one : enable = 0#8 ∨ enable = 1#8 := by bv_omega
    · rw [zero]; rfl
    · rw [one]; rfl
  have codes : (BitVec.ofNat 4 (carriers.toNat % 16)).setWidth 8 = BitVec.ofNat 8 (carriers.toNat % 16) :=
    BitVec.eq_of_toNat_eq (by simp)
  simp [ruleAt_eq, ProfileRule.bytes, flag, codes, u8]

/-- Clamping a rule changes it where a field is outside its range. -/
theorem ruleAt_bytes_changed_iff {enable : Byte} (h : enable.toNat ≤ 1) (n base mask carriers profile : Byte) :
    ((ruleAt [n, enable, base, mask, carriers, profile]).bytes != [enable, base, mask, carriers, profile]) = true ↔
      23 < base.toNat ∨ 31 < mask.toNat ∨ 15 < carriers.toNat ∨ profile = 0 ∨ 7 < profile.toNat := by
  simp only [bne_iff_ne, ruleAt_bytes h, ne_eq, List.cons.injEq, true_and, and_true, ← BitVec.toNat_inj,
    BitVec.ofNat_eq_ofNat, BitVec.toNat_ofNat]
  omega

theorem State.setProfileRule_eq_reselect (s : State) {n enable : Byte} {i : Fin 8} (number : n.toNat = i.val)
    (h : enable.toNat ≤ 1) (base mask carriers profile : Byte) :
    let rule : ProfileRule := ⟨decide (enable = 1), min 23 base.toNat, min 31 mask.toNat,
      BitVec.ofNat 4 (carriers.toNat % 16), ⟨max 1 (min 7 profile.toNat), by omega⟩⟩
    s.setProfileRule [n, enable, base, mask, carriers, profile] =
      ((s.putCfg { s.cfg with rules := Table.put s.cfg.rules i rule }).reselect [.idleOff, .queued, .faulted],
        answer (clampedOr (23 < base.toNat ∨ 31 < mask.toNat ∨ 15 < carriers.toNat ∨ profile = 0 ∨ 7 < profile.toNat))
          [n, enable, BitVec.ofNat 8 rule.base, BitVec.ofNat 8 rule.mask, BitVec.ofNat 8 (carriers.toNat % 16),
            BitVec.ofNat 8 rule.profile.val]) := by
  intro rule
  have read : byteAt [n, enable, base, mask, carriers, profile] 0 = i.val := number
  have flag : ¬ 1 < byteAt [n, enable, base, mask, carriers, profile] 1 := Nat.not_lt.mpr h
  have stored : ruleAt [n, enable, base, mask, carriers, profile] = rule := ruleAt_eq n enable base mask carriers profile
  have bytes : rule.bytes = _ := stored ▸ ruleAt_bytes h n base mask carriers profile
  have status := writtenStatus_eq_clampedOr (stored ▸ ruleAt_bytes_changed_iff h n base mask carriers profile)
  rw [State.setProfileRule, read, eighth_val]
  simp only [if_neg flag, ← number, u8_toNat, stored, ← status]
  rw [bytes]
  rfl

theorem Reaches.exec_setProfileRule {r : Request} {s t : State} {st : Status} {body : List Byte} (h : Reaches r s)
    (length : r.payload.length = 6) (answers : s.listening.setProfileRule r.payload = (t, answer st body)) :
    exec (.setProfileRule r) s = .next (t.replying 0x52 r.tag st body) :=
  congrArg Host.Outcome.next
    (h.requestFrame_eq_replying (k := .setProfileRule) (by simp [length, RequestKind.lengthOk]) answers)

end Sys2Proof.Machine
end

section
/-! Drive profiles and profile selection: the statements settled. -/

namespace Sys2Proof.Machine

/-- Settles O41: a number 0-7 is read from the table, where the number 0 has the built-in values, and one above 7 names no
profile. -/
theorem getProfileReadsTheTable : Obligations.GetProfileReadsTheTable := by
  intro n r s two answers hr payload
  have reads : ∀ i : Fin 8, n.toNat = i.val → answers (s.cfg.profile i) := fun i hi => by
    have read := hr.exec_getProfile payload (s.listening.getProfile_eq_reads hi)
    rw [Profile.bytes_eq] at read
    exact read
  refine ⟨fun zero => ?_, fun i hi => ?_, fun above => ?_⟩
  · exact reads 0 (by rw [zero]; rfl)
  · exact s.cfg.profile_succ i ▸ reads i.succ hi
  · exact hr.exec_getProfile payload (s.listening.getProfile_eq_refuse above)

/-- Settles O47: SET_PROFILE by its three outcomes; SET_PROFILE_RULE by what a re-selection does to the part with the rule
written. -/
theorem profileAndRuleWrites : Obligations.ProfileAndRuleWrites := by
  intro n heat inrush steady standby spin settle trip enable base mask carriers profile r s two p related profileChanged
    refused rule ruleChanged selects hr
  constructor
  · intro h1 h2 h3 h4 h5 h6 payload
    have length : r.payload.length = 14 := by rw [payload]; rfl
    have number : byteAt r.payload 0 = n.toNat := by rw [payload]; rfl
    have sent : profileAt r.payload = ⟨inrush, steady, standby, spin, settle, trip, heat.toNat⟩ := by
      rw [payload]
      exact profileAt_fields h1 h2 h3 h4 h5 h6 n heat
    have clamped : (profileAt r.payload).clamped = p := by rw [sent]; rfl
    refine ⟨fun bad => ?_, fun unrelated => ?_, fun i hi inRelation => ?_⟩
    · refine hr.exec_setProfile length (s.listening.setProfile_eq_refuse_number ?_)
      rw [number]
      exact bad.imp_left (congrArg BitVec.toNat)
    · refine hr.exec_setProfile length (s.listening.setProfile_eq_refuse_unrelated ?_)
      rw [clamped]
      exact decide_eq_false unrelated
    · have written := s.listening.setProfile_eq_put (p := r.payload) (number.trans hi)
        (by rw [clamped]; exact decide_eq_true inRelation)
      have answered := hr.exec_setProfile length written
      simp only [sent, number, u8_toNat, Profile.bytes_eq] at answered
      exact answered
  · intro payload
    have length : r.payload.length = 6 := by rw [payload]; rfl
    refine ⟨fun bad => ?_, fun i hi enabled => ?_⟩
    · refine hr.exec_setProfileRule length (s.listening.setProfileRule_eq_refuse ?_)
      rw [payload]
      exact bad
    · let u := s.listening.putCfg { s.cfg with rules := Table.put s.cfg.rules i rule }
      have written : s.listening.setProfileRule r.payload = (u.reselect [.idleOff, .queued, .faulted],
          answer (clampedOr ruleChanged) [n, enable, BitVec.ofNat 8 rule.base, BitVec.ofNat 8 rule.mask,
            BitVec.ofNat 8 (carriers.toNat % 16), BitVec.ofNat 8 rule.profile.val]) := by
        rw [payload]
        exact s.listening.setProfileRule_eq_reselect hi enabled base mask carriers profile
      have selected : ∀ b, (u.bay b).state ∈ [BayState.idleOff, .queued, .faulted] ↔ selects b := fun b => by
        simp [u, selects, State.listening]
      obtain ⟨count, index, selections, events⟩ := u.reselect_selects [.idleOff, .queued, .faulted]
      refine ⟨_, hr.exec_setProfileRule length written, ⟨count, index, fun b hb => ?_, ?_⟩, fun b hb => ?_, ?_⟩
      · rw [State.reselect_cfg]
        exact selections b ((selected b).mpr hb)
      · rw [events, State.raiseAll_events_congr (s := s) (t := u) rfl rfl]
        simp only [selected]
        rfl
      · exact u.bay_reselect_of_notMem (mt (selected b).mp hb)
      · exact u.reselect_eq _

end Sys2Proof.Machine
end

section
/-! SUPPORT. The power budget unit's operations (Chapter 4): what each slot adds to the raw supply, and what the steps of a
recomputation leave of the figures, the budget state and the event queue. -/

namespace Sys2Proof.Machine

/-! ## Supply (R53, R56, R57) -/

/-- What a slot adds to the raw supply: its capacity while both its lines are accepted, else nothing (R53, R56). -/
def State.contribution (s : State) (k : Slot) : Nat :=
  if (s.budget.slots.get k).present.accepted = true ∧ (s.budget.slots.get k).good.accepted = true then
    s.cfg.supply.capacities.get k
  else 0

theorem SlotLines.condition_eq_contributing (l : SlotLines) :
    (l.condition == .contributing) = decide (l.present.accepted = true ∧ l.good.accepted = true) := by
  rw [SlotLines.condition]
  cases l.present.accepted <;> cases l.good.accepted <;> rfl

/-- The contributing capacities, folded by an operation that 0 does not change, fold what each slot adds. -/
theorem State.foldl_contributing (s : State) {op : Nat → Nat → Nat} (neutral : ∀ n, op n 0 = n) :
    s.contributing.foldl op 0 = (allSlots.map s.contribution).foldl op 0 := by
  have skip : ∀ (c : Prop) [Decidable c] (n x : Nat), (if c then op n x else n) = op n (if c then x else 0) :=
    fun c _ n x => by split <;> simp only [neutral]
  simp only [State.contributing, List.foldl_map, List.foldl_filter, SlotLines.condition_eq_contributing,
    decide_eq_true_eq, skip]
  rfl

theorem State.sum_contributing (s : State) :
    s.contributing.sum = s.contribution 0 + s.contribution 1 + s.contribution 2 + s.contribution 3 := by
  rw [List.sum_eq_foldl, s.foldl_contributing Nat.add_zero]
  simp [allSlots]

theorem State.foldl_max_contributing (s : State) :
    s.contributing.foldl max 0 =
      max (max (s.contribution 0) (s.contribution 1)) (max (s.contribution 2) (s.contribution 3)) := by
  rw [s.foldl_contributing Nat.max_zero]
  simp [allSlots, max_assoc]

theorem State.two_le_length_contributing_iff (s : State) :
    2 ≤ s.contributing.length ↔ ∃ j k : Slot, j ≠ k ∧
      ((s.budget.slots.get j).present.accepted = true ∧ (s.budget.slots.get j).good.accepted = true) ∧
      ((s.budget.slots.get k).present.accepted = true ∧ (s.budget.slots.get k).good.accepted = true) := by
  have every : ∀ k, k ∈ allSlots := by decide
  have distinct : (allSlots.filter fun k => (s.budget.slots.get k).condition == .contributing).Nodup :=
    (by decide : allSlots.Nodup).filter _
  rw [State.contributing, List.length_map, ← List.toFinset_card_of_nodup distinct, Nat.succ_le_iff,
    Finset.one_lt_card_iff]
  simp only [List.mem_toFinset, List.mem_filter, every, true_and, SlotLines.condition_eq_contributing, decide_eq_true_eq]
  exact exists₂_congr fun j k => by tauto

theorem rawSupply_shared (capacities : List Nat) : rawSupply .shared capacities = capacities.sum := rfl

theorem rawSupply_redundant_of_two_le {capacities : List Nat} (h : 2 ≤ capacities.length) :
    rawSupply .redundant capacities = capacities.sum - capacities.foldl max 0 :=
  if_pos h

theorem rawSupply_redundant_of_not_two_le {capacities : List Nat} (h : ¬ 2 ≤ capacities.length) :
    rawSupply .redundant capacities = capacities.sum :=
  if_neg h

theorem rawSupply_le_sum (policy : SupplyPolicy) (capacities : List Nat) :
    rawSupply policy capacities ≤ capacities.sum := by
  cases policy with
  | shared => exact le_rfl
  | redundant =>
    by_cases several : 2 ≤ capacities.length
    · exact rawSupply_redundant_of_two_le several ▸ Nat.sub_le _ _
    · exact (rawSupply_redundant_of_not_two_le several).le

theorem effectiveSupply_le (raw : Nat) {derate : Nat} (h : derate ≤ 100) : effectiveSupply raw derate ≤ raw :=
  Nat.div_le_of_le_mul (Nat.mul_comm raw derate ▸ Nat.mul_le_mul_right raw h)

theorem SupplyParams.legal.contribution_le {s : State} (h : s.cfg.supply.legal) (k : Slot) :
    s.contribution k ≤ 200000 := by
  obtain ⟨capacities, -, -⟩ := h
  rw [State.contribution]
  split
  · exact capacities k
  · exact Nat.zero_le _

/-- Four slots of at most 200,000 each. -/
theorem SupplyParams.legal.sum_contributing_le {s : State} (h : s.cfg.supply.legal) : s.contributing.sum ≤ 800000 := by
  have each := h.contribution_le
  rw [s.sum_contributing]
  linarith only [each 0, each 1, each 2, each 3]

/-! ## The steps of a recomputation (R65, R66, R68) -/

@[simp] theorem State.withFigures_budget (s : State) : s.withFigures.budget = { s.budget with figures := s.formFigures } :=
  rfl

@[simp] theorem State.revocationStep_figures (s : State) : s.revocationStep.budget.figures = s.budget.figures := by
  unfold State.revocationStep
  split
  · split <;> rfl
  · rfl

@[simp] theorem State.revocationStep_overcommitted (s : State) :
    s.revocationStep.budget.overcommitted = s.budget.overcommitted := by
  unfold State.revocationStep
  split
  · split <;> rfl
  · rfl

/-- The event with which the budget state follows a headroom, if it changes (R66). -/
def budgetMoves (overcommitted : Bool) (headroom : Int) : List Event :=
  if headroom < 0 ∧ overcommitted = false then [budgetEvent .budgetOvercommit headroom]
  else if 0 ≤ headroom ∧ overcommitted = true then [budgetEvent .budgetRestored headroom]
  else []

theorem budgetMoves_of_neg {h : Int} (neg : h < 0) (overcommitted : Bool) :
    budgetMoves overcommitted h = if overcommitted = true then [] else [budgetEvent .budgetOvercommit h] := by
  cases overcommitted <;> simp [budgetMoves, neg]

theorem budgetMoves_of_nonneg {h : Int} (nonneg : 0 ≤ h) (overcommitted : Bool) :
    budgetMoves overcommitted h = if overcommitted = true then [budgetEvent .budgetRestored h] else [] := by
  cases overcommitted <;> simp [budgetMoves, nonneg]

/-- The budget state is OVERCOMMITTED where the headroom is negative, and NORMAL where it is not (R66). -/
theorem State.budgetState_eq (s : State) :
    s.budgetState = (s.putBudget { s.budget with overcommitted := decide (s.budget.figures.headroom < 0) }).raiseAll
      (budgetMoves s.budget.overcommitted s.budget.figures.headroom) := by
  have stands : ∀ o, s.budget.overcommitted = o → s = s.putBudget { s.budget with overcommitted := o } := by
    rintro o rfl
    rfl
  rw [State.budgetState]
  by_cases neg : s.budget.figures.headroom < 0
  · cases was : s.budget.overcommitted with
    | false => simp [budgetMoves, neg, State.raiseAll]
    | true => simpa [budgetMoves, neg, not_le.mpr neg, State.raiseAll] using stands true was
  · cases was : s.budget.overcommitted with
    | false => simpa [budgetMoves, neg, State.raiseAll] using stands false was
    | true => simp [budgetMoves, neg, not_lt.mp neg, State.raiseAll]

@[simp] theorem State.budgetState_figures (s : State) : s.budgetState.budget.figures = s.budget.figures := by
  simp [State.budgetState_eq]

theorem State.budgetState_overcommitted_iff (s : State) :
    s.budgetState.budget.overcommitted = true ↔ s.budget.figures.headroom < 0 := by
  simp [State.budgetState_eq]

theorem State.budgetState_events (s : State) :
    s.budgetState.events =
      (s.raiseAll (budgetMoves s.budget.overcommitted s.budget.figures.headroom)).events := by
  rw [State.budgetState_eq]
  exact State.raiseAll_events_congr (State.putBudget_events s _) (State.putBudget_time s _) _

theorem State.recompute_figures (s : State) : s.recompute.budget.figures = s.formFigures := by
  simp [State.recompute]

theorem State.recompute_overcommitted_iff (s : State) :
    s.recompute.budget.overcommitted = true ↔ s.formFigures.headroom < 0 := by
  simp [State.recompute, State.budgetState_overcommitted_iff]

theorem State.recompute_events (s : State) :
    s.recompute.events = (s.raiseAll (budgetMoves s.budget.overcommitted s.formFigures.headroom)).events := by
  simp only [State.recompute, State.budgetTriggers_events, State.revocationStep_events, State.budgetState_events,
    State.withFigures_budget]
  exact State.raiseAll_events_congr (State.withFigures_events s) (State.withFigures_time s) _

end Sys2Proof.Machine
end

section
/-! The power budget: the statements settled. -/

namespace Sys2Proof.Machine

/-- Settles O25: the figures in force are the figures formed, and the contributing capacities sum and peak as what each slot
adds. -/
theorem supplyFiguresFollowThePolicy : Obligations.SupplyFiguresFollowThePolicy := by
  intro s contributes capacity sum largest several agrees
  obtain ⟨-, -, figures, -⟩ := agrees
  have raw : s.budget.figures.raw = rawSupply s.cfg.supply.policy s.contributing := congrArg Figures.raw figures
  have effective : s.budget.figures.effective = effectiveSupply s.budget.figures.raw s.cfg.supply.derate := by
    rw [figures]
    rfl
  have whole : s.contributing.sum = sum := s.sum_contributing
  have peak : s.contributing.foldl max 0 = largest := s.foldl_max_contributing
  have two : 2 ≤ s.contributing.length ↔ several := s.two_le_length_contributing_iff
  refine ⟨fun shared => ?_, fun redundant h => ?_, fun redundant h => ?_, effective, fun legal => ⟨?_, ?_⟩⟩
  · rw [raw, shared, rawSupply_shared, whole]
  · rw [raw, redundant, rawSupply_redundant_of_two_le (two.mpr h), whole, peak]
  · rw [raw, redundant, rawSupply_redundant_of_not_two_le (mt two.mp h), whole]
  · exact raw ▸ (rawSupply_le_sum _ _).trans legal.sum_contributing_le
  · obtain ⟨-, ⟨-, derate⟩, -⟩ := legal
    exact effective ▸ effectiveSupply_le _ derate

/-- Settles O26: the recomputed state is OVERCOMMITTED where the headroom is negative, and the only event is that of a
change. -/
theorem budgetStateFollowsTheHeadroom : Obligations.BudgetStateFollowsTheHeadroom := by
  intro s
  dsimp only
  have overcommitted := s.recompute_overcommitted_iff
  have normal : 0 ≤ s.formFigures.headroom → s.recompute.budget.overcommitted = false := fun nonneg =>
    Bool.eq_false_iff.mpr (mt overcommitted.mp (not_lt.mpr nonneg))
  have events := s.recompute_events
  refine ⟨congrArg Figures.headroom s.recompute_figures, fun neg was => ⟨overcommitted.mpr neg, ?_⟩,
    fun nonneg was => ⟨normal nonneg, ?_⟩, fun neg was => ⟨overcommitted.mpr neg, ?_⟩, fun nonneg was => ⟨normal nonneg, ?_⟩⟩
  · rw [events, budgetMoves_of_neg neg, was]
    rfl
  · rw [events, budgetMoves_of_nonneg nonneg, was]
    rfl
  · rw [events, budgetMoves_of_neg neg, was]
    rfl
  · rw [events, budgetMoves_of_nonneg nonneg, was]
    rfl

end Sys2Proof.Machine
end

section
/-! SUPPORT. The curves of enclosure cooling (Chapter 7): the quotient rounded up, the interpolation between two points, and
the value of a curve in each range of temperatures. -/

namespace Sys2Proof.Machine

/-! ## The quotient rounded up (00, Conventions) -/

theorem ceilDiv_eq_nat_ceilDiv (a b : Nat) : ceilDiv a b = a ⌈/⌉ b := rfl

theorem le_ceilDiv_mul {b : Nat} (hb : 0 < b) (a : Nat) : a ≤ ceilDiv a b * b := by
  rw [ceilDiv_eq_nat_ceilDiv, mul_comm]
  exact le_smul_ceilDiv hb

theorem ceilDiv_mul_lt {b : Nat} (hb : 0 < b) (a : Nat) : ceilDiv a b * b < a + b := by
  have whole : ceilDiv a b * b ≤ a + b - 1 := Nat.div_mul_le_self _ _
  omega

theorem ceilDiv_mul_le_right {a b : Nat} (hb : 0 < b) (h : a ≤ b) (d : Nat) : ceilDiv (a * d) b ≤ d :=
  (ceilDiv_le_iff_le_mul hb).mpr (Nat.mul_le_mul_right d h)

/-! ## Between two points (R130) -/

/-- A duty is the interpolation of two points at a temperature, rounded up: it lies between their duties, and it is the least
whole number that is not below the straight line through the points. -/
def Interpolates (p q : CurvePoint) (temp : Int) (duty : Nat) : Prop :=
  p.duty ≤ duty ∧ duty ≤ q.duty ∧
    (temp - p.temp) * ((q.duty : Int) - p.duty) ≤ ((duty : Int) - p.duty) * (q.temp - p.temp) ∧
    ((duty : Int) - p.duty - 1) * (q.temp - p.temp) < (temp - p.temp) * ((q.duty : Int) - p.duty)

theorem interpolate_left (p q : CurvePoint) : interpolate p q p.temp = p.duty := by
  have atLeft : ceilDiv 0 (q.temp - p.temp).toNat = 0 :=
    (ceilDiv_eq_nat_ceilDiv 0 _).trans (zero_ceilDiv _)
  simp only [interpolate, sub_self, Int.toNat_zero, zero_mul, atLeft, add_zero]

theorem interpolates_interpolate {p q : CurvePoint} {temp : Int} (from_p : p.temp ≤ temp) (below_q : temp < q.temp)
    (rising : p.duty ≤ q.duty) : Interpolates p q temp (interpolate p q temp) := by
  obtain ⟨x, hx⟩ := Int.eq_ofNat_of_zero_le (sub_nonneg.mpr from_p)
  obtain ⟨w, hw⟩ := Int.eq_ofNat_of_zero_le (sub_nonneg.mpr (from_p.trans below_q.le))
  obtain ⟨d, hd⟩ := Nat.exists_eq_add_of_le rising
  have inside : x < w := by omega
  have wide : 0 < w := Nat.zero_lt_of_lt inside
  have value : interpolate p q temp = p.duty + ceilDiv (x * d) w := by
    rw [interpolate, hx, hw, hd, Int.toNat_natCast, Int.toNat_natCast, Nat.add_sub_cancel_left]
  have most : ceilDiv (x * d) w ≤ d := ceilDiv_mul_le_right wide inside.le d
  have reaches : ((x * d : Nat) : Int) ≤ (ceilDiv (x * d) w * w : Nat) := Int.ofNat_le.mpr (le_ceilDiv_mul wide _)
  have least : ((ceilDiv (x * d) w * w : Nat) : Int) < (x * d + w : Nat) := Int.ofNat_lt.mpr (ceilDiv_mul_lt wide _)
  push_cast at reaches least
  rw [Interpolates, value, hx, hw, hd]
  push_cast
  rw [add_sub_cancel_left, add_sub_cancel_left, sub_mul, one_mul]
  exact ⟨Nat.le_add_right _ _, Nat.add_le_add_left most _, reaches, by omega⟩

/-! ## The value of a curve (R130) -/

section
variable {c : Curve} {temp : Int}

theorem Curve.value_of_le_first (h : temp ≤ c.p1.temp) : c.value temp = c.p1.duty := if_pos h

theorem Curve.value_of_last_le (legal : c.legal) (h : c.p4.temp ≤ temp) : c.value temp = c.p4.duty := by
  obtain ⟨-, t12, t23, t34, -⟩ := legal
  rw [Curve.value, if_neg (by omega), if_pos h]

theorem Curve.value_eq_interpolate_first (legal : c.legal) (lo : c.p1.temp ≤ temp) (hi : temp < c.p2.temp) :
    c.value temp = interpolate c.p1 c.p2 temp := by
  obtain ⟨-, t12, t23, t34, -⟩ := legal
  obtain rfl | above := lo.eq_or_lt
  · rw [Curve.value_of_le_first le_rfl, interpolate_left]
  · rw [Curve.value, if_neg (by omega), if_neg (by omega), if_pos hi]

theorem Curve.value_eq_interpolate_second (legal : c.legal) (lo : c.p2.temp ≤ temp) (hi : temp < c.p3.temp) :
    c.value temp = interpolate c.p2 c.p3 temp := by
  obtain ⟨-, t12, t23, t34, -⟩ := legal
  rw [Curve.value, if_neg (by omega), if_neg (by omega), if_neg (by omega), if_pos hi]

theorem Curve.value_eq_interpolate_third (legal : c.legal) (lo : c.p3.temp ≤ temp) (hi : temp < c.p4.temp) :
    c.value temp = interpolate c.p3 c.p4 temp := by
  obtain ⟨-, t12, t23, t34, -⟩ := legal
  rw [Curve.value, if_neg (by omega), if_neg (by omega), if_neg (by omega), if_neg (by omega)]

theorem Curve.interpolates_first (legal : c.legal) (lo : c.p1.temp ≤ temp) (hi : temp < c.p2.temp) :
    Interpolates c.p1 c.p2 temp (c.value temp) := by
  rw [Curve.value_eq_interpolate_first legal lo hi]
  obtain ⟨-, -, -, -, -, d12, -⟩ := legal
  exact interpolates_interpolate lo hi d12

theorem Curve.interpolates_second (legal : c.legal) (lo : c.p2.temp ≤ temp) (hi : temp < c.p3.temp) :
    Interpolates c.p2 c.p3 temp (c.value temp) := by
  rw [Curve.value_eq_interpolate_second legal lo hi]
  obtain ⟨-, -, -, -, -, -, d23, -⟩ := legal
  exact interpolates_interpolate lo hi d23

theorem Curve.interpolates_third (legal : c.legal) (lo : c.p3.temp ≤ temp) (hi : temp < c.p4.temp) :
    Interpolates c.p3 c.p4 temp (c.value temp) := by
  rw [Curve.value_eq_interpolate_third legal lo hi]
  obtain ⟨-, -, -, -, -, -, -, d34, -⟩ := legal
  exact interpolates_interpolate lo hi d34

/-- Below the first point, in one of the three intervals, or from the last point on, the value lies within the outer duties. -/
theorem Curve.value_mem_Icc (legal : c.legal) (temp : Int) : c.value temp ∈ Set.Icc c.p1.duty c.p4.duty := by
  obtain ⟨-, -, -, -, -, d12, d23, d34, -⟩ := id legal
  obtain low | from1 := le_or_gt temp c.p1.temp
  · rw [Curve.value_of_le_first low]
    exact ⟨le_rfl, by omega⟩
  obtain high | below4 := le_or_gt c.p4.temp temp
  · rw [Curve.value_of_last_le legal high]
    exact ⟨by omega, le_rfl⟩
  obtain below2 | from2 := lt_or_ge temp c.p2.temp
  · obtain ⟨lo, hi, -⟩ := Curve.interpolates_first legal from1.le below2
    exact ⟨lo, by omega⟩
  obtain below3 | from3 := lt_or_ge temp c.p3.temp
  · obtain ⟨lo, hi, -⟩ := Curve.interpolates_second legal from2 below3
    exact ⟨by omega, by omega⟩
  · obtain ⟨lo, hi, -⟩ := Curve.interpolates_third legal from3 below4
    exact ⟨by omega, hi⟩

end

end Sys2Proof.Machine
end

section
/-! Enclosure cooling: the statement settled. -/

namespace Sys2Proof.Machine

/-- Settles O32: the value is that of the range of temperatures, interpolated within each of the three intervals. -/
theorem curveValueInterpolatesUpward : Obligations.CurveValueInterpolatesUpward := by
  intro c temp between legal
  obtain ⟨least, most⟩ := Curve.value_mem_Icc legal temp
  exact ⟨Curve.value_of_le_first, Curve.value_of_last_le legal, Curve.interpolates_first legal,
    Curve.interpolates_second legal, Curve.interpolates_third legal, least, most⟩

end Sys2Proof.Machine
end

section
/-! SUPPORT. The zones of the cooling controller (Chapter 7): what a target formed anew does to the zone and its fans, and
what several reviews leave together. -/

namespace Sys2Proof.Machine

/-! ## The duty a target gives (R137) -/

/-- The duty a zone is given when its target is recomputed. -/
def State.newDuty (s : State) (atEvaluation : Bool) (z : Zone) : Nat :=
  dutyAfter s.cooling.fanCheck.isSome atEvaluation (s.zoneTarget z) (s.zone z).duty

theorem State.newDuty_false (s : State) (z : Zone) : s.newDuty false z =
    if s.cooling.fanCheck.isSome = true then (s.zone z).duty else max (s.zone z).duty (s.zoneTarget z) := by
  unfold State.newDuty dutyAfter
  split
  · rfl
  · split
    · omega
    · simp only [Bool.false_eq_true, if_false]
      omega

theorem State.newDuty_true (s : State) (z : Zone) : s.newDuty true z =
    if s.cooling.fanCheck.isSome = true then (s.zone z).duty else max (s.zoneTarget z) ((s.zone z).duty - 5) := by
  unfold State.newDuty dutyAfter
  split
  · rfl
  · split
    · omega
    · rfl

theorem mem_fans_iff {z : Zone} {f : Fan} : f ∈ z.fans ↔ zoneOfFan f = z := by
  cases z <;> revert f <;> decide

/-! ## The fans of a zone (R138) -/

theorem State.commandFan_fan (s : State) (d : Nat) (f g : Fan) :
    (s.commandFan d f).fan g = if f = g ∧ (s.fan g).state = .running then { s.fan g with duty := d } else s.fan g := by
  by_cases same : f = g
  · subst same
    unfold State.commandFan
    split
    · rename_i h
      simp [h.1]
    · rename_i h
      by_cases run : (s.fan f).state = .running
      · have duty : (s.fan f).duty = d := by
          by_contra other
          exact h ⟨run, other⟩
        rw [if_pos ⟨rfl, run⟩, ← duty]
      · simp [run]
  · simp [same, State.commandFan_fan_ne]

theorem State.commandFans_fan (d : Nat) (fs : List Fan) (s : State) (g : Fan) :
    (fs.foldl (fun t f => t.commandFan d f) s).fan g =
      if g ∈ fs ∧ (s.fan g).state = .running then { s.fan g with duty := d } else s.fan g := by
  induction fs generalizing s with
  | nil => simp
  | cons f fs ih =>
    rw [List.foldl_cons, ih, State.commandFan_fan]
    by_cases same : f = g
    · subst same
      by_cases run : (s.fan f).state = .running <;> simp [run]
    · simp [same, Ne.symm same]

theorem State.setZoneDuty_fan (s : State) (z : Zone) (d : Nat) (f : Fan) : (s.setZoneDuty z d).fan f =
    if zoneOfFan f = z ∧ (s.fan f).state = .running then { s.fan f with duty := d } else s.fan f := by
  rw [State.setZoneDuty, State.commandFans_fan]
  simp only [mem_fans_iff, State.putZone_fan]

/-! ## One zone's target (R135, R137) -/

theorem State.retarget_eq (s : State) (a : Bool) (z : Zone) :
    s.retarget a z = if s.newDuty a z = (s.zone z).duty then s else s.setZoneDuty z (s.newDuty a z) := rfl

theorem State.retarget_zone (s : State) (a : Bool) (y z : Zone) :
    (s.retarget a y).zone z = if y = z then { s.zone z with duty := s.newDuty a z } else s.zone z := by
  by_cases same : y = z
  · subst same
    rw [State.retarget_eq]
    split
    · rename_i h
      simp [h]
    · simp [State.setZoneDuty_zone]
  · simp [same, State.retarget_zone_other _ _ (Ne.symm same)]

theorem State.retarget_fan (s : State) (a : Bool) (z : Zone) (f : Fan) : (s.retarget a z).fan f =
    if zoneOfFan f = z ∧ (s.fan f).state = .running ∧ s.newDuty a z ≠ (s.zone z).duty then
      { s.fan f with duty := s.newDuty a z }
    else s.fan f := by
  rw [State.retarget_eq]
  split
  · rename_i h
    simp [h]
  · rename_i h
    simp [h, State.setZoneDuty_fan]

/-- The target of a zone is formed from the configuration, the bays, the sensors, the drive reports and the fan states. -/
theorem State.targetWith_congr {s t : State} (hc : t.cfg = s.cfg) (hb : t.bays = s.bays)
    (hs : t.cooling.sensors = s.cooling.sensors) (hr : t.cooling.reports = s.cooling.reports)
    (hf : ∀ f, (t.fan f).state = (s.fan f).state) (z : Zone) (heat : Nat) : t.targetWith z heat = s.targetWith z heat := by
  have failed : t.zoneFanFailed z = s.zoneFanFailed z := by
    unfold State.zoneFanFailed
    congr 1
    funext f
    show ((t.fan f).state == _) = ((s.fan f).state == _)
    rw [hf]
  have air : t.airTerm z = s.airTerm z := by simp only [State.airTerm, State.airInput, hs, hc]
  have bays : t.baysOf z = s.baysOf z := by simp only [State.baysOf, State.zoneOf, State.baySettings, hc]
  have fresh : t.highestFresh z = s.highestFresh z := by simp only [State.highestFresh, State.freshTemp, bays, hr]
  have bay : t.bay = s.bay := funext fun b => by simp only [State.bay, hb]
  have drive : t.driveTerm z = s.driveTerm z := by
    unfold State.driveTerm
    rw [fresh, bays, bay, hc]
  have adder : t.heatAdder z = s.heatAdder z := by simp only [State.heatAdder, bays, State.bay, hb]
  unfold State.targetWith
  rw [failed, air, drive, adder, hc, hs]

theorem State.airInput_congr {s t : State} (hs : t.cooling.sensors = s.cooling.sensors) (z : Zone) :
    t.airInput z = s.airInput z := by
  simp only [State.airInput, hs]

theorem State.thermalSources_congr {s t : State} (hc : t.cfg = s.cfg) (hs : t.cooling.sensors = s.cooling.sensors)
    (hr : t.cooling.reports = s.cooling.reports) (z : Zone) : t.thermalSources z = s.thermalSources z := by
  simp only [State.thermalSources, State.airInput, State.highestFresh, State.freshTemp, State.baysOf, State.zoneOf,
    State.baySettings, hc, hs, hr]

/-! ## What settling keeps of a zone -/

theorem Settles.fan_state {s t : State} (h : Settles s t) (f : Fan) : (t.fan f).state = (s.fan f).state := by
  rw [h.fans f]

theorem Settles.targetWith {s t : State} (h : Settles s t) (z : Zone) (heat : Nat) :
    t.targetWith z heat = s.targetWith z heat :=
  State.targetWith_congr h.cfg h.bays h.sensors h.reports h.fan_state z heat

theorem Settles.zoneTarget {s t : State} (h : Settles s t) (z : Zone) : t.zoneTarget z = s.zoneTarget z := h.targetWith z 0

theorem Settles.airInput {s t : State} (h : Settles s t) (z : Zone) : t.airInput z = s.airInput z :=
  State.airInput_congr h.sensors z

theorem Settles.thermalSources {s t : State} (h : Settles s t) (z : Zone) : t.thermalSources z = s.thermalSources z :=
  State.thermalSources_congr h.cfg h.sensors h.reports z

/-- A trigger taken on the way stands through what settles after it. -/
theorem Settles.triggered {s t : State} {p q : Bay → Prop} (h : Settles s t) (g : Triggered p s) (hp : ∀ c, p c → q c) :
    Triggered q t := by
  have widen : ∀ {r : Bay → Prop} {u : State}, (∀ c, r c → q c) → Triggered r u → Triggered q u :=
    fun hr hu => hu.imp_right fun ⟨v, hv, stands⟩ => ⟨v, hv, fun c hc => stands c (mt (hr c) hc)⟩
  rcases h.passes with n | g'
  · exact widen hp (g.noPass n h.time h.cfg h.queue h.stagger h.bays h.startUpHold)
  · exact widen (fun c hc => hc.elim) g'

/-! ## A zone raised and judged -/

theorem State.retarget_raises_zone (s : State) (z : Zone) : ZoneRaised z s (s.retarget false z) := by
  constructor
  · rw [State.retarget_zone, if_pos rfl, (s.retarget_settles false z).zoneTarget]
    exact s.newDuty_false z
  · intro f hf
    rw [State.retarget_fan, State.retarget_zone, if_pos rfl]
    by_cases h : (s.fan f).state = .running ∧ s.newDuty false z ≠ (s.zone z).duty
    · rw [if_pos ⟨hf, h⟩, if_pos h]
    · rw [if_neg (fun k => h k.2), if_neg h]

/-- A zone raised stays raised while its duty and its fans stand. -/
theorem ZoneRaised.of_settles {z : Zone} {s t u : State} (h : ZoneRaised z s t) (settles : Settles t u)
    (duty : (u.zone z).duty = (t.zone z).duty) (fans : ∀ f, zoneOfFan f = z → u.fan f = t.fan f) : ZoneRaised z s u := by
  obtain ⟨raised, follow⟩ := h
  refine ⟨by rw [duty, settles.zoneTarget]; exact raised, fun f hf => ?_⟩
  rw [fans f hf, duty]
  exact follow f hf

theorem ZoneRaised.trans {z : Zone} {s t u : State} (h1 : ZoneRaised z s t) (h2 : ZoneRaised z t u) (st : Settles s t)
    (tu : Settles t u) : ZoneRaised z s u := by
  have stands : (u.zone z).duty = (t.zone z).duty := by
    rw [h2.1, h1.1, st.fanCheck, tu.zoneTarget]
    split <;> omega
  refine h1.of_settles tu stands fun f hf => ?_
  have duty := h2.2 f hf
  rw [stands] at duty
  rw [tu.fans f, duty]
  simp

theorem judgeThermal_idem (sources : List (Int × Int × Int)) (now : Thermal) :
    judgeThermal sources (judgeThermal sources now) = judgeThermal sources now := by
  by_cases none : sources = []
  · simp [judgeThermal, none]
  have exclude : ∀ {g : Int × Int × Int → Int}, sources.all (fun x => decide (x.1 ≤ g x - 3)) = true →
      sources.any (fun x => decide (g x ≤ x.1)) = false := fun h => by
    simp only [List.all_eq_true, decide_eq_true_eq] at h
    simp only [List.any_eq_false, decide_eq_true_eq]
    intro x hx
    have := h x hx
    omega
  have warning := exclude (g := fun x => x.2.1)
  have critical := exclude (g := fun x => x.2.2)
  have filled : sources.isEmpty = false := by simp [none]
  unfold judgeThermal
  cases now <;> simp only [filled] <;> grind

theorem State.judgeZone_thermal (s : State) (z : Zone) :
    (s.judgeZone z).zone z = { s.zone z with thermal := judgeThermal (s.thermalSources z) (s.zone z).thermal } := by
  unfold State.judgeZone
  dsimp only
  split
  · rename_i h
    rw [h]
  · simp [State.zone]

theorem State.judgeZone_judges (s : State) (z : Zone) : ZoneJudged z s (s.judgeZone z) := by
  have settles := s.judgeZone_settles z
  refine ⟨by rw [s.judgeZone_thermal, settles.thermalSources], ?_⟩
  rw [s.judgeZone_thermal, settles.airInput]
  unfold State.judgeZone
  dsimp only
  split
  · rename_i h
    exact ⟨[], rfl, fun k => absurd h k⟩
  · refine ⟨[_], ?_, fun _ => List.mem_cons_self⟩
    rw [State.triggerIf_events]
    exact State.raiseAll_events_congr (t := s.putZone z _) rfl rfl [_]

/-- A zone's leaving CRITICAL is a trigger (R140). -/
theorem State.judgeZone_triggered (s : State) (z : Zone) (h : (s.zone z).thermal = .critical)
    (left : ((s.judgeZone z).zone z).thermal ≠ .critical) : Triggered (fun _ => False) (s.judgeZone z) := by
  rw [s.judgeZone_thermal] at left
  unfold State.judgeZone
  dsimp only
  rw [if_neg (by rw [h] at left ⊢; exact left), h]
  exact State.trigger_triggered _

/-- A zone judged stays judged while its thermal state stands. -/
theorem ZoneJudged.of_settles {z : Zone} {s t u : State} (h : ZoneJudged z s t) (st : t.time = s.time) (tu : Settles t u)
    (thermal : (u.zone z).thermal = (t.zone z).thermal) : ZoneJudged z s u := by
  obtain ⟨judged, xs, raised, told⟩ := h
  obtain ⟨ys, later⟩ := tu.events
  refine ⟨by rw [thermal, tu.thermalSources]; exact judged, xs ++ ys, ?_, ?_⟩
  · rw [later, List.nil_append, State.raiseAll_append]
    exact State.raiseAll_events_congr raised (by rw [st, State.raiseAll_time]) ys
  · intro changed
    rw [thermal, tu.airInput]
    exact List.mem_append_left _ (told (by rwa [thermal] at changed))

/-- A zone judged in a state that read the same before. -/
theorem ZoneJudged.after_settles {z : Zone} {s t u : State} (st : Settles s t) (h : ZoneJudged z t u)
    (thermal : (t.zone z).thermal = (s.zone z).thermal) : ZoneJudged z s u := by
  obtain ⟨judged, ys, raised, told⟩ := h
  obtain ⟨xs, earlier⟩ := st.events
  refine ⟨by rw [judged, thermal], xs ++ ys, ?_, ?_⟩
  · rw [raised, State.raiseAll_append]
    exact State.raiseAll_events_congr earlier (by rw [st.time, State.raiseAll_time]) _
  · intro changed
    exact List.mem_append_right _ (told (by rwa [thermal]))

theorem ZoneJudged.trans {z : Zone} {s t u : State} (h1 : ZoneJudged z s t) (h2 : ZoneJudged z t u) (st : Settles s t)
    (tu : Settles t u) : ZoneJudged z s u := by
  refine h1.of_settles st.time tu ?_
  rw [h2.1, h1.1, tu.thermalSources, judgeThermal_idem]

/-! ## Several zones reviewed -/

theorem Reviews.refl {zones : Zone → Prop} (s : State) (none : ∀ z, ¬ zones z) : Reviews zones s s :=
  ⟨.refl s, fun z h => (none z h).elim, fun _ _ => rfl, fun _ _ => rfl⟩

theorem Reviews.trans {p q : Zone → Prop} {s t u : State} (h1 : Reviews p s t) (h2 : Reviews q t u) :
    Reviews (fun z => p z ∨ q z) s u where
  settles := h1.settles.trans h2.settles
  raised z hz := by
    by_cases hq : q z
    · by_cases hp : p z
      · exact (h1.raised z hp).trans (h2.raised z hq) h1.settles h2.settles
      · obtain ⟨raised, follow⟩ := h2.raised z hq
        have zone := h1.otherZones z hp
        refine ⟨by rw [raised, zone, h1.settles.fanCheck], fun f hf => ?_⟩
        have fan := h1.otherFans f (by rwa [hf])
        rw [follow f hf, zone, fan]
    · refine (h1.raised z (hz.resolve_right hq)).of_settles h2.settles (by rw [h2.otherZones z hq]) fun f hf => ?_
      exact h2.otherFans f (by rwa [hf])
  otherZones z hz := by rw [h2.otherZones z (fun k => hz (.inr k)), h1.otherZones z (fun k => hz (.inl k))]
  otherFans f hf := by rw [h2.otherFans f (fun k => hf (.inr k)), h1.otherFans f (fun k => hf (.inl k))]

theorem Reviews.mono {p q : Zone → Prop} {s t : State} (h : Reviews p s t) (hpq : ∀ z, p z ↔ q z) : Reviews q s t := by
  obtain rfl : p = q := funext fun z => propext (hpq z)
  exact h

theorem State.retarget_reviews (s : State) (y : Zone) : Reviews (fun z => z = y) s (s.retarget false y) where
  settles := s.retarget_settles false y
  raised z hz := hz ▸ s.retarget_raises_zone z
  otherZones _ hz := s.retarget_zone_other false hz
  otherFans _ hf := s.retarget_fan_other false hf

theorem State.foldl_retarget_reviews (zs : List Zone) (s : State) :
    Reviews (fun z => z ∈ zs) s (zs.foldl (fun t z => t.retarget false z) s) := by
  induction zs generalizing s with
  | nil => exact Reviews.refl s (by simp)
  | cons y zs ih => exact ((s.retarget_reviews y).trans (ih _)).mono (by simp)

theorem State.retargetAll_reviews (s : State) : Reviews (fun _ => True) s (s.retargetAll false) :=
  (State.foldl_retarget_reviews allZones s).mono fun z => by cases z <;> decide

theorem ReviewsThermal.refl {zones : Zone → Prop} (s : State) (none : ∀ z, ¬ zones z) : ReviewsThermal zones s s :=
  ⟨.refl s none, fun z h => (none z h).elim, fun _ h k => absurd h k⟩

theorem ReviewsThermal.trans {p q : Zone → Prop} {s t u : State} (h1 : ReviewsThermal p s t)
    (h2 : ReviewsThermal q t u) : ReviewsThermal (fun z => p z ∨ q z) s u where
  targets := h1.targets.trans h2.targets
  judged z hz := by
    by_cases hq : q z
    · by_cases hp : p z
      · exact (h1.judged z hp).trans (h2.judged z hq) h1.targets.settles h2.targets.settles
      · exact (h2.judged z hq).after_settles h1.targets.settles (by rw [h1.targets.otherZones z hp])
    · exact (h1.judged z (hz.resolve_right hq)).of_settles h1.targets.settles.time h2.targets.settles
        (by rw [h2.targets.otherZones z hq])
  triggered z critical left := by
    by_cases still : (t.zone z).thermal = .critical
    · exact h2.triggered z still left
    · exact h2.targets.settles.triggered (h1.triggered z critical still) (fun _ h => h)

theorem ReviewsThermal.mono {p q : Zone → Prop} {s t : State} (h : ReviewsThermal p s t) (hpq : ∀ z, p z ↔ q z) :
    ReviewsThermal q s t := by
  obtain rfl : p = q := funext fun z => propext (hpq z)
  exact h

theorem State.reviewZone_reviews (s : State) (y : Zone) : ReviewsThermal (fun z => z = y) s (s.reviewZone y) where
  targets :=
    { settles := s.reviewZone_settles y
      raised := fun z hz => by
        subst hz
        refine (s.retarget_raises_zone z).of_settles (State.judgeZone_settles _ z) ?_ fun f _ => ?_
        · rw [State.reviewZone, State.judgeZone_thermal]
        · rw [State.reviewZone, State.judgeZone_fan]
      otherZones := fun _ hz => s.reviewZone_zone_other hz
      otherFans := fun _ hf => s.reviewZone_fan_other hf }
  judged z hz := by
    subst hz
    exact (State.judgeZone_judges _ z).after_settles (s.retarget_settles false z) (by rw [State.retarget_thermal])
  triggered z critical left := by
    by_cases same : z = y
    · subst same
      exact State.judgeZone_triggered _ z (by rw [State.retarget_thermal]; exact critical) left
    · rw [s.reviewZone_zone_other same] at left
      exact absurd critical left

theorem State.reviewZones_reviews (zs : List Zone) (s : State) :
    ReviewsThermal (fun z => z ∈ zs) s (s.reviewZones zs) := by
  induction zs generalizing s with
  | nil => exact ReviewsThermal.refl s (by simp)
  | cons y zs ih => exact ((s.reviewZone_reviews y).trans (ih _)).mono (by simp)

end Sys2Proof.Machine
end

section
/-! DEFINITION. What the meanings of the commands are made of, said once: the effects, each of which keeps every invariant. The
lemmas of the next section tie them to `step`. -/

namespace Sys2Proof.Machine

/-- A channel's next record that stays in agreement where it was and arms no watch. -/
structure Channel.Follows (c c' : Channel) : Prop where
  agrees : c.agrees → c'.agrees
  rise : c'.riseWatch.isSome = true → c.riseWatch.isSome = true
  fall : c'.fallWatch.isSome = true → c.fallWatch.isSome = true

/-- A bay's next record in the same state, with the same snapshot and flag, that stays in agreement where it was. -/
structure BayRecord.Follows (r r' : BayRecord) : Prop where
  agrees : r.agrees → r'.agrees
  state : r'.state = r.state
  snapshot : r'.snapshot = r.snapshot
  removalPrepared : r'.removalPrepared = r.removalPrepared
  settling : r'.settling = r.settling

/-- A fan's next record in the same state at the same duty. -/
structure FanRecord.Follows (r r' : FanRecord) : Prop where
  state : r'.state = r.state
  duty : r'.duty = r.duty
  window : r'.window = none ↔ r.window = none
  low : r.low < 3 → r'.low < 3
  good : r.good < 3 → r'.good < 3

/-- The queue holds an entry of a bay in this state. -/
def BayState.waits : BayState → Bool
  | .queued | .wakeQueued => true
  | .empty | .seating | .idleOff | .ramping | .spinning | .active | .standby | .granted | .poweringDown | .extracting
  | .faulted => false

/-- The states a bay stands in while its quarantine entry lasts (R114). -/
def BayState.quarantinable : BayState → Bool
  | .idleOff | .seating | .extracting => true
  | .empty | .queued | .ramping | .spinning | .active | .standby | .wakeQueued | .granted | .poweringDown
  | .faulted => false

/-- The states a bay moves to by itself, without an entry that joins, a grant that is answered or the duties of EMPTY. -/
def BayState.plain : BayState → Bool
  | .seating | .idleOff | .spinning | .active | .standby | .poweringDown | .extracting | .faulted => true
  | .empty | .queued | .ramping | .wakeQueued | .granted => false

/-- A bay can move to a plain state: the snapshot is there if the state needs one, the timer runs as Table 2-2 says, the
carrier code is there, no watch stays armed that the state does not arm, and a quarantined bay stays where it may be. -/
structure MayMove (s : State) (b : Bay) (new : BayState) (timer : Option Nat) : Prop where
  plain : new.plain = true
  switch : new.closedSwitch = true → (s.bay b).state.closedSwitch = true
  timed : ∀ runs, new.timed = some runs → timer.isSome = runs
  code : new ≠ .seating → new ≠ .extracting → (s.bay b).code.isSome = true ∨
    ((s.bay b).state ≠ .empty ∧ (s.bay b).state ≠ .seating ∧ (s.bay b).state ≠ .extracting)
  rise : (s.chan b).riseWatch.isSome = true → (s.bay b).state = .standby ∨ (s.bay b).state = .wakeQueued ∨
    (s.bay b).state = .granted → new = .standby
  fall : (s.chan b).fallWatch.isSome = true → (s.bay b).state ≠ .spinning
  quarantined : (s.bay b).state.quarantinable = true → new.quarantinable = true

/-- What is marked of a bay between the removal of its queue entry and its move: nothing, the POWER_FAULT latch, or the
removal-prepared flag. -/
inductive Marked (b : Bay) (s : State) : State → Prop
  | nothing : Marked b s s
  | fault : Marked b s (s.setCond b condPowerFault true)
  | removal : (s.bay b).state ≠ .empty → Marked b s (s.setRemoval b true)

/-- The after-reply actions a link holds carry turnaround delays in range. -/
def Link.legal (l : Link) : Prop :=
  (∀ p, l.reply = .pending p → p.action.legal) ∧ ∀ frame action, l.reply = .sending frame action → action.legal

/-- The fans and zone duties of a reload, before its recomputation (R145). -/
def State.reloadedFans (s : State) : State :=
  allZones.foldl State.retargetQuietly (allFans.foldl State.fanReloaded s.reload)

/-- The reload of a warm restart up to its recomputation (R145, R73). -/
def State.reloadedCooling (s : State) : State := s.reloadedFans.budgetReloaded

/-- One effect of a command. -/
inductive Effect : State → State → Prop
  | chan (s b c) : (s.chan b).Follows c → c.activity = (s.chan b).activity → Effect s (s.putChan b c)
  | activity (s b c) : (s.chan b).Follows c → Effect s (s.activityTo b c)
  | record (s b r) : (s.bay b).Follows r → Effect s (s.putBay b r)
  | code (s b code) : (s.bay b).state = .seating →
      Effect s ((s.onBay b (fun r => { r with code := some code })).select b)
  | select (s b) : (s.bay b).state ∈ [BayState.idleOff, .queued, .faulted] → Effect s (s.select b)
  | settling (s b) : (s.bay b).state = .spinning → Effect s (s.beginSettling b)
  | cond (s b c v) : c ≠ condRemoveOk → c ≠ condSpinWait → c ≠ condQuarantined → Effect s (s.setCond b c v)
  | removal (s b v) : (s.bay b).state ≠ .empty → Effect s (s.setRemoval b v)
  | move (s u b new timer es) : MayMove s b new timer → Marked b (s.removeEntryIf (s.bay b).state.waits b) u →
      Effect s (u.move b new timer es)
  | spinDown (s b level) : (s.bay b).state = .active →
      Effect s ((s.toChan b (fun c => c.armRise level)).move b .standby none [])
  | checkedOut (s b) : (s.bay b).state.checkable = true →
      Effect s (((s.removeEntryIf ((s.bay b).state == .queued) b).move b .idleOff none []).quarantineBay b)
  | unquarantine (s b) : Effect s (s.unquarantine b)
  | queues (s b time) : (s.bay b).state = .idleOff ∨ (s.bay b).state = .faulted → s.isQuarantined b = false ∨
      (s.bay b).state = .faulted → Effect s ((s.move b .queued none []).joinAt b .powerOn time)
  | wakes (s b time) : (s.bay b).state = .standby → Effect s ((s.move b .wakeQueued none []).joinAt b .wake time)
  | empties (s b) : (s.bay b).state = .seating ∨ (s.bay b).state = .extracting → Effect s (s.enterEmpty b)
  | grant (s b g rest) : takeFirst (fun g : Grant => g.bay == b) s.arbiter.grants = some (g, rest) →
      Effect s ((s.putArbiter { s.arbiter with grants := rest }).grantReached g)
  | decline (s b d rest) : takeFirst (fun d : Decline => d.bay == b) s.arbiter.declines = some (d, rest) →
      Effect s ((s.putArbiter { s.arbiter with declines := rest }).declineTaken d)
  | revocations (s xs) : Effect s (s.putBudget { s.budget with revocations := xs })
  | stagger (s) : Effect s (s.putArbiter { s.arbiter with stagger := none }).trigger
  | trigger (s) : Effect s s.trigger
  | raise (s e) : Effect s (s.raise e)
  | slot (s k l) : ((s.budget.slots.get k).present.agrees → l.present.agrees) →
      ((s.budget.slots.get k).good.agrees → l.good.agrees) →
      l.present.accepted = (s.budget.slots.get k).present.accepted →
      l.good.accepted = (s.budget.slots.get k).good.accepted → Effect s (s.putSlot k l)
  | slotChange (s k l) : ((s.budget.slots.get k).present.agrees → l.present.agrees) →
      ((s.budget.slots.get k).good.agrees → l.good.agrees) → Effect s ((s.putSlot k l).recomputeForSlot k)
  | supply (s x) : x.legal → Effect s (s.putCfg { s.cfg with supply := x }).recompute
  | fan (s f r) : (s.fan f).Follows r → Effect s (s.putFan f r)
  | fanMoves (s f r e) : (s.fan f).state ≠ .absent → r.state = .failed ∨ r.state = .running →
      r.duty = r.state.dutyIn (s.zone (zoneOfFan f)).duty → r.window ≠ none → r.low < 3 → r.good < 3 →
      Effect s (s.fanMoves f r e)
  | readStart (s) : Effect s (s.putCooling { s.cooling with
      sensorRead := 1000
      sensors := Table.each (fun k => { k with reading := true }) s.cooling.sensors })
  | sensor (s k result) : Effect s (s.sensorResult k result)
  | reports (s reports zs) : (∀ b, reports.get b ≠ s.cooling.reports.get b → s.zoneOf b ∈ zs) →
      Effect s ((s.putCooling { s.cooling with reports := reports }).reviewZones zs)
  | evaluation (s) : Effect s ((s.putCooling { s.cooling with evaluation := 1000 }).retargetAll true)
  | checkEnds (s) : s.cooling.fanCheck.isSome = true → Effect s s.checkEnds
  | boundary (s) : Effect s (s.putLights { s.lights with phase := s.lights.phase + 1, boundary := 125 }).driveLights
  | airCurve (s z c) : c.legal → Effect s (s.writeAirCurve z c)
  | common (s c) : c.legal → Effect s ((s.putCfg { s.cfg with common := c }).reviewZones allZones)
  | fanSettings (s f x) : x.legal → Effect s (s.writeFan f x)
  | policy (s w b) : Effect s (s.setPolicyBay w b).1
  | cfg (s c) : (s.cfg.legal → c.legal) → c.bays = s.cfg.bays → c.supply = s.cfg.supply →
      c.airCurves = s.cfg.airCurves → c.common = s.cfg.common → c.fans = s.cfg.fans → Effect s (s.putCfg c)
  | lights (s mask locate) : (s.lights.mask ≤ 6 → mask ≤ 6) →
      Effect s (s.putLights { s.lights with mask := mask, locate := locate })
  | events (s q) : q.records.length ≤ s.events.records.length → Effect s (s.putEvents q)
  | save (s) : s.store.writing = none → Effect s (s.putStore { s.store with writing := some ⟨s.cfg, 200⟩ })
  | link (s l) : (LinkAgrees s → LinkAgrees (s.putLink l)) → (s.link.legal → l.legal) → Effect s (s.putLink l)
  | linkChange (s l speed turnaround) : (LinkAgrees s → LinkAgrees (s.putLink l)) → (s.link.legal → l.legal) →
      (s.link.legal → turnaround ≤ 50) →
      Effect s ((s.putLink l).putCfg { s.cfg with speed := speed, turnaround := turnaround })
  | warm (s) : Effect s s.warmAtOnce
  | await (s a) : s.store.writing.isSome = true → a.queued.Pairwise (fun x y => x < y) →
      Effect s (s.putStore { s.store with reloadAwaited := some a })
  | written (s w) : s.store.writing = some w → s.store.reloadAwaited = none →
      Effect s (s.putStore { s.store with image := imageOf w.items, writing := none })
  | reload (s x) : x.writing = none →
      (s.store.image.items.legal → (∀ w, s.store.writing = some w → w.items.legal) → x.image.items.legal) →
      Effect s (s.putStore x).reloadedCooling
  | judge (s z) : Effect s (s.judgeZone z)
  | cold (s straps) : Effect s (s.coldStart straps)
  | reset (s v) : Effect s (s.putReset v)
  | tick (s) : Effect s s.tick
  | pending (s l) : Effect s (s.putPending l)

/-- Several effects, one after another. -/
abbrev Effects : State → State → Prop := Relation.ReflTransGen Effect

end Sys2Proof.Machine
end

section
/-! SUPPORT. The parts of a channel stay in agreement under each operation of the bay front end (Chapter 1). -/

namespace Sys2Proof.Machine

/-! ## Filtered lines -/

theorem FilteredLine.agrees_edge {l : FilteredLine} (h : l.agrees) (ms : Nat) (level : Bool) : (l.edge ms level).agrees := by
  unfold FilteredLine.edge
  split
  · exact h
  · by_cases back : level = l.accepted <;> simp [FilteredLine.agrees, back]

theorem FilteredLine.accepted_edge (l : FilteredLine) (ms : Nat) (level : Bool) :
    (l.edge ms level).accepted = l.accepted := by
  unfold FilteredLine.edge
  split <;> rfl

theorem FilteredLine.agrees_accept {l : FilteredLine} (h : l.agrees) : l.accept.agrees := by
  unfold FilteredLine.accept
  cases filter : l.filter with
  | none => exact h
  | some n => simp [FilteredLine.agrees]

theorem FilteredLine.agrees_tick {l : FilteredLine} (h : l.agrees) : l.tick.agrees := by
  simpa [FilteredLine.agrees, FilteredLine.tick, countDown] using h

theorem FilteredLine.agrees_cold (ms : Nat) (raw : Bool) : (FilteredLine.cold ms raw).agrees := by
  cases raw <;> rfl

/-! ## Channels -/

theorem Channel.Follows.refl (c : Channel) : c.Follows c := ⟨id, id, id⟩

theorem Channel.Follows.trans {a b c : Channel} (h1 : a.Follows b) (h2 : b.Follows c) : a.Follows c :=
  ⟨fun h => h2.agrees (h1.agrees h), fun h => h1.rise (h2.rise h), fun h => h1.fall (h2.fall h)⟩

theorem Channel.follows_presenceEdge (c : Channel) (k : Contact) (level : Bool) : c.Follows (c.presenceEdge k level) := by
  cases k with
  | early =>
    refine ⟨fun ⟨e, rest⟩ => ?_, id, id⟩
    simpa [Channel.agrees, Channel.presenceEdge, Channel.seated, FilteredLine.accepted_edge,
      FilteredLine.agrees_edge e] using rest
  | late =>
    refine ⟨fun ⟨e, l, rest⟩ => ?_, id, id⟩
    simpa [Channel.agrees, Channel.presenceEdge, Channel.seated, FilteredLine.accepted_edge,
      FilteredLine.agrees_edge l, e] using rest

theorem Channel.follows_carrierEdge (c : Channel) (l : CarrierLine) (level : Bool) : c.Follows (c.carrierEdge l level) := by
  cases l with
  | car1 =>
    refine ⟨fun ⟨e, l, c1, rest⟩ => ?_, id, id⟩
    simpa [Channel.agrees, Channel.carrierEdge, Channel.seated, FilteredLine.agrees_edge c1, e, l] using rest
  | car0 =>
    refine ⟨fun ⟨e, l, c1, c0, rest⟩ => ?_, id, id⟩
    simpa [Channel.agrees, Channel.carrierEdge, Channel.seated, FilteredLine.agrees_edge c0, e, l, c1] using rest

theorem Channel.follows_carrierAccepted (c : Channel) (l : CarrierLine) : c.Follows (c.carrierAccepted l) := by
  cases l with
  | car1 =>
    refine ⟨fun ⟨e, l, c1, rest⟩ => ?_, id, id⟩
    simpa [Channel.agrees, Channel.carrierAccepted, Channel.seated, FilteredLine.agrees_accept c1, e, l] using rest
  | car0 =>
    refine ⟨fun ⟨e, l, c1, c0, rest⟩ => ?_, id, id⟩
    simpa [Channel.agrees, Channel.carrierAccepted, Channel.seated, FilteredLine.agrees_accept c0, e, l, c1] using rest

theorem Channel.follows_send (c : Channel) (r : Report) : c.Follows (c.send r) := ⟨id, id, id⟩

theorem Channel.follows_disarm (c : Channel) (w : Watch) : c.Follows (c.disarm w) := by
  cases w <;> exact ⟨id, by simp [Channel.disarm], by simp [Channel.disarm]⟩

theorem Channel.follows_openSwitch (c : Channel) : c.Follows c.openSwitch := by
  cases switch : c.switch with
  | opened => simp only [Channel.openSwitch, switch]; exact Channel.Follows.refl c
  | ramping | closed =>
    refine ⟨?_, ?_, ?_⟩ <;> simp +contextual [Channel.openSwitch, switch, Channel.agrees, Channel.disarm, Channel.seated]

theorem Channel.follows_powerOff (c : Channel) : c.Follows c.powerOff :=
  c.follows_openSwitch.trans (Channel.follows_disarm _ _)

theorem Channel.agrees.live_le {c : Channel} (h : c.agrees) : c.live ≤ c.peak ∧ c.peak ≤ 10000 := by
  obtain ⟨-, -, -, -, -, -, -, -, -, -, live, peak, -⟩ := h
  exact ⟨live, peak⟩

/-- Readings in range replace those of a channel in agreement. -/
theorem Channel.agrees.readings {c : Channel} (h : c.agrees) {live peak : Nat} (h1 : live ≤ peak) (h2 : peak ≤ 10000) :
    { c with live := live, peak := peak }.agrees := by
  obtain ⟨e, l, c1, c0, held, seat, one, ramp, level, withheld, -, -, stretch⟩ := h
  exact ⟨e, l, c1, c0, held, seat, one, ramp, level, withheld, h1, h2, stretch⟩

theorem Channel.follows_peakReset (c : Channel) : c.Follows c.peakReset :=
  ⟨fun h => h.readings le_rfl (h.live_le.1.trans h.live_le.2), id, id⟩

theorem Channel.follows_closeSwitch (c : Channel) (level : Nat) : c.Follows (c.closeSwitch level) := by
  unfold Channel.closeSwitch
  split
  · split
    · refine ⟨?_, id, id⟩
      simp +contextual [Channel.agrees, Channel.seated]
    · exact Channel.Follows.refl c
  · exact Channel.Follows.refl c
  · exact Channel.Follows.refl c

theorem Channel.follows_seatStabilised (c : Channel) : c.Follows c.seatStabilised := by
  unfold Channel.seatStabilised
  split
  · exact Channel.Follows.refl c
  · rename_i n seat
    refine ⟨?_, id, id⟩
    simp +contextual [Channel.agrees, Channel.send, Channel.seated, seat]

theorem Channel.follows_ramped (c : Channel) : c.Follows c.ramped := by
  cases switch : c.switch with
  | opened | closed => simp only [Channel.ramped, switch]; exact Channel.Follows.refl c
  | ramping =>
    refine ⟨?_, ?_, ?_⟩ <;>
      cases withheld : c.rampEndWithheld <;>
      simp +contextual [Channel.ramped, switch, withheld, Channel.agrees, Channel.send, Channel.seated,
        show (SwitchPos.ramping != .opened) = (SwitchPos.closed != .opened) from rfl]

theorem Channel.follows_testRise (c : Channel) : c.Follows c.testRise := by
  unfold Channel.testRise
  split
  · exact Channel.Follows.refl c
  · split
    · exact (c.follows_disarm _).trans (Channel.follows_send _ _)
    · exact Channel.Follows.refl c

theorem Channel.follows_testFall (c : Channel) : c.Follows c.testFall := by
  unfold Channel.testFall
  split
  · exact Channel.Follows.refl c
  · split
    · exact (c.follows_disarm _).trans (Channel.follows_send _ _)
    · exact Channel.Follows.refl c

theorem recorded_le (mA : Nat) : recorded mA ≤ 10000 := Nat.min_le_right ..

theorem Channel.follows_sampled (c : Channel) (mA : Nat) : c.Follows (c.sampled mA) := by
  have read : c.Follows { c with live := recorded mA, peak := max c.peak (recorded mA) } := by
    refine ⟨fun h => ?_, id, id⟩
    exact h.readings (Nat.le_max_right ..) (max_le h.live_le.2 (recorded_le mA))
  exact (read.trans (Channel.follows_testRise _)).trans (Channel.follows_testFall _)

theorem Channel.follows_excursion (c : Channel) (mA : Nat) : c.Follows (c.excursion mA) := by
  unfold Channel.excursion
  split
  · exact Channel.Follows.refl c
  · split
    · have peak : c.openSwitch.peak = c.peak := by unfold Channel.openSwitch; split <;> rfl
      have read : c.openSwitch.Follows { c.openSwitch with peak := max c.peak (recorded mA) } := by
        refine ⟨fun h => ?_, id, id⟩
        rw [← peak]
        exact h.readings (h.live_le.1.trans (Nat.le_max_left ..)) (max_le h.live_le.2 (recorded_le mA))
      exact (c.follows_openSwitch.trans read).trans (Channel.follows_send _ _)
    · exact Channel.Follows.refl c

theorem Channel.follows_acti (c : Channel) : c.Follows c.acti := by
  refine ⟨?_, id, id⟩
  simp +contextual [Channel.agrees, Channel.acti, Channel.seated]

theorem Channel.follows_actiEnd (c : Channel) : c.Follows c.actiEnd := by
  unfold Channel.actiEnd
  split
  · exact Channel.Follows.refl c
  · refine ⟨?_, id, id⟩
    simp +contextual [Channel.agrees, Channel.seated]

/-- The contacts' new levels, with the seat timer, the mark and the held code that go with them. -/
theorem Channel.agrees.contacts {c : Channel} (h : c.agrees) {early late : FilteredLine} (he : early.agrees)
    (hl : late.agrees) {timer : Option Nat} {mark : Bool} {held : Option Code} (h1 : held.isSome = mark)
    (h2 : (timer.isSome || mark) = (early.accepted && late.accepted)) (h3 : (timer.isSome && mark) = false) :
    { c with early := early, late := late, seatTimer := timer, seatStable := mark, heldCode := held }.agrees := by
  obtain ⟨-, -, c1, c0, -, -, -, rest⟩ := h
  exact ⟨he, hl, c1, c0, h1, h2, h3, rest⟩

theorem Channel.agrees.seat_eq {c : Channel} (h : c.agrees) : c.heldCode.isSome = c.seatStable ∧
    (c.seatTimer.isSome || c.seatStable) = c.seated ∧ (c.seatTimer.isSome && c.seatStable) = false := by
  obtain ⟨-, -, -, -, held, seat, one, -⟩ := h
  exact ⟨held, seat, one⟩

/-- The accepted levels change, and the seating with them (R2 to R4). -/
theorem Channel.follows_presenceAccepted (c : Channel) (k : Contacts) : c.Follows (c.presenceAccepted k) := by
  have lines : c.agrees → (c.acceptContacts k).early.agrees ∧ (c.acceptContacts k).late.agrees := by
    rintro ⟨e, l, -⟩
    cases k with
    | early => exact ⟨FilteredLine.agrees_accept e, l⟩
    | late => exact ⟨e, FilteredLine.agrees_accept l⟩
    | both => exact ⟨FilteredLine.agrees_accept e, FilteredLine.agrees_accept l⟩
  obtain ⟨early, late, accepts⟩ : ∃ early late, c.acceptContacts k = { c with early := early, late := late } := by
    cases k <;> exact ⟨_, _, rfl⟩
  unfold Channel.presenceAccepted
  rw [accepts] at lines ⊢
  dsimp only at lines ⊢
  have stands : (early.accepted && late.accepted) = c.seated →
      c.Follows { c with early := early, late := late } := fun same => by
    refine ⟨fun h => ?_, id, id⟩
    obtain ⟨held, seat, one⟩ := h.seat_eq
    exact h.contacts (lines h).1 (lines h).2 held (seat.trans same.symm) one
  split
  · rename_i same
    exact stands (by simp only [same, Channel.seated])
  · unfold Channel.contactsChanged
    split
    · rename_i lost
      have seated : (early.accepted && late.accepted) = false := Bool.not_eq_true' _ ▸ (Bool.and_eq_true_iff.mp lost).2
      have cleared : c.Follows
          { c with early := early, late := late, seatTimer := none, seatStable := false, heldCode := none } :=
        ⟨fun h => h.contacts (lines h).1 (lines h).2 rfl seated.symm rfl, id, id⟩
      exact (cleared.trans (Channel.follows_openSwitch _)).trans (Channel.follows_send _ _)
    · rename_i kept
      split
      · rename_i begun
        have before : c.seated = false := Bool.not_eq_true' _ ▸ (Bool.and_eq_true_iff.mp begun).1
        have seated : (early.accepted && late.accepted) = true := (Bool.and_eq_true_iff.mp begun).2
        have started : c.Follows { c with early := early, late := late, seatTimer := some 0 } := by
          refine ⟨fun h => ?_, id, id⟩
          obtain ⟨held, seat, -⟩ := h.seat_eq
          have mark : c.seatStable = false := by
            rw [before, Bool.or_eq_false_iff] at seat
            exact seat.2
          exact h.contacts (lines h).1 (lines h).2 held (by rw [seated]; rfl) (by rw [mark]; rfl)
        exact started.trans (Channel.follows_send _ _)
      · rename_i notBegun
        refine (stands ?_).trans (Channel.follows_send _ _)
        simp only [Channel.seated] at kept notBegun ⊢
        revert kept notBegun
        cases (early.accepted && late.accepted) <;> cases (c.early.accepted && c.late.accepted) <;> simp

/-! ## The activity level -/

@[simp] theorem Channel.activity_presenceEdge (c : Channel) (k : Contact) (level : Bool) :
    (c.presenceEdge k level).activity = c.activity := by cases k <;> rfl

@[simp] theorem Channel.activity_carrierEdge (c : Channel) (l : CarrierLine) (level : Bool) :
    (c.carrierEdge l level).activity = c.activity := by cases l <;> rfl

@[simp] theorem Channel.activity_carrierAccepted (c : Channel) (l : CarrierLine) :
    (c.carrierAccepted l).activity = c.activity := by cases l <;> rfl

@[simp] theorem Channel.activity_disarm (c : Channel) (w : Watch) : (c.disarm w).activity = c.activity := by
  cases w <;> rfl

@[simp] theorem Channel.activity_openSwitch (c : Channel) : c.openSwitch.activity = c.activity := by
  unfold Channel.openSwitch
  split <;> rfl

@[simp] theorem Channel.activity_powerOff (c : Channel) : c.powerOff.activity = c.activity := c.activity_openSwitch

@[simp] theorem Channel.activity_closeSwitch (c : Channel) (level : Nat) : (c.closeSwitch level).activity = c.activity := by
  unfold Channel.closeSwitch
  repeat' split
  all_goals rfl

@[simp] theorem Channel.activity_seatStabilised (c : Channel) : c.seatStabilised.activity = c.activity := by
  unfold Channel.seatStabilised
  split <;> rfl

@[simp] theorem Channel.activity_ramped (c : Channel) : c.ramped.activity = c.activity := by
  unfold Channel.ramped
  split
  · dsimp only
    split <;> rfl
  all_goals rfl

@[simp] theorem Channel.activity_testRise (c : Channel) : c.testRise.activity = c.activity := by
  unfold Channel.testRise
  repeat' split
  all_goals rfl

@[simp] theorem Channel.activity_testFall (c : Channel) : c.testFall.activity = c.activity := by
  unfold Channel.testFall
  repeat' split
  all_goals rfl

@[simp] theorem Channel.activity_sampled (c : Channel) (mA : Nat) : (c.sampled mA).activity = c.activity := by
  simp [Channel.sampled]

@[simp] theorem Channel.activity_excursion (c : Channel) (mA : Nat) : (c.excursion mA).activity = c.activity := by
  unfold Channel.excursion
  repeat' split
  · rfl
  · exact c.activity_openSwitch
  · rfl

@[simp] theorem Channel.activity_presenceAccepted (c : Channel) (k : Contacts) :
    (c.presenceAccepted k).activity = c.activity := by
  have accepts : (c.acceptContacts k).activity = c.activity := by cases k <;> rfl
  unfold Channel.presenceAccepted Channel.contactsChanged
  dsimp only
  repeat' split
  · exact accepts
  · exact (Channel.activity_openSwitch _).trans accepts
  · exact accepts
  · exact accepts

end Sys2Proof.Machine
end

section
/-! SUPPORT. Values written by requests are in their ranges (Tables 3-1, 4-2, 5-2, 7-2, R45, R131, R132). -/

namespace Sys2Proof.Machine

theorem le_clampNat {lo hi : Nat} (h : lo ≤ hi) (n : Nat) : lo ≤ clampNat lo hi n ∧ clampNat lo hi n ≤ hi := by
  unfold clampNat
  omega

theorem AdmissionParams.clamped_legal (x : AdmissionParams) : x.clamped.legal :=
  ⟨le_clampNat (by omega) _, Nat.min_le_left .., Nat.min_le_left .., Nat.min_le_left .., le_clampNat (by omega) _⟩

theorem SupplyParams.clamped_legal (x : SupplyParams) : x.clamped.legal := by
  refine ⟨fun k => ?_, le_clampNat (by omega) _, Nat.min_le_left ..⟩
  rw [SupplyParams.clamped, Table.get_each]
  exact Nat.min_le_left ..

theorem Profile.clamped_legal {x : Profile} (h : x.clamped.related = true) : x.clamped.legal := by
  obtain ⟨h1, h2, h3, h4⟩ := of_decide_eq_true h
  exact ⟨le_clampNat (by omega) _, le_clampNat (by omega) _, Nat.min_le_left .., le_clampNat (by omega) _,
    le_clampNat (by omega) _, le_clampNat (by omega) _, Nat.min_le_left .., h1, h2, h3, h4⟩

theorem Curve.clamped_legal {c : Curve} (h : c.clamped.ok = true) : c.clamped.legal := by
  obtain ⟨t1, t2, t3, d1, d2, d3⟩ := of_decide_eq_true h
  have temp : ∀ t : Int, -40 ≤ clampTemp t ∧ clampTemp t ≤ 125 := fun t => by
    unfold clampTemp clampInt
    omega
  exact ⟨(temp _).1, t1, t2, t3, (temp _).2, d1, d2, d3, Nat.min_le_left ..⟩

theorem CoolingCommon.clamped_legal {c : CoolingCommon} (window : windowAllowed c.windowMs = true)
    (h : c.clamped.ok = true) : c.clamped.legal := by
  obtain ⟨curve, air, drive⟩ := of_decide_eq_true h
  exact ⟨Curve.clamped_legal curve, Nat.min_le_left .., Nat.min_le_left .., Nat.min_le_left .., air, drive,
    of_decide_eq_true window⟩

theorem FanSettings.clamped_legal (x : FanSettings) : x.clamped.legal := by
  have full := le_clampNat (lo := min 2000 x.idle) (hi := 6000) (by omega) x.full
  exact ⟨Nat.min_le_left .., le_clampNat (by omega) _, Nat.min_le_left .., full.1, full.2⟩

theorem ruleAt_legal (p : List Byte) : (ruleAt p).legal := by
  refine ⟨Nat.min_le_left .., Nat.min_le_left .., fun zero => ?_⟩
  have index := congrArg Fin.val zero
  have least := (le_clampNat (lo := 1) (hi := 7) (by omega) (byteAt p 5)).1
  simp only [ruleAt, clampedIndex, Fin.val_zero] at index
  omega

theorem profile0_legal : profile0.legal := by
  simp [Profile.legal, profile0]

theorem Settings.legal.profile {c : Settings} (h : c.legal) (i : Fin 8) : (c.profile i).legal := by
  unfold Settings.profile
  split
  · exact profile0_legal
  · exact h.1 _

theorem factorySettings_legal : factorySettings.legal := by
  have curves : factoryAirCurve.legal ∧ factoryDriveCurve.legal := by
    simp [Curve.legal, factoryAirCurve, factoryDriveCurve]
  refine ⟨fun i => ?_, fun i => ?_, ⟨fun k => ?_, by decide, by decide⟩, by simp [AdmissionParams.legal, factorySettings],
    fun z => ?_, ⟨curves.2, by decide⟩, fun f => ?_, by decide⟩
  · exact Table.get_replicate profile0 i ▸ profile0_legal
  · exact (Table.get_replicate factoryRule i).symm ▸ by simp [ProfileRule.legal, factoryRule]
  · revert k
    decide
  · exact (Table.get_replicate factoryAirCurve z).symm ▸ curves.1
  · exact (Table.get_replicate factoryFan f).symm ▸ by simp [FanSettings.legal, factoryFan]

end Sys2Proof.Machine
end

section
/-! SUPPORT. Every command is made of effects: the bay controller's operations (Chapters 2 and 6). -/

namespace Sys2Proof.Machine

variable {s : State} {b : Bay}

theorem Effect.effects {s t : State} (h : Effect s t) : Effects s t := .single h

/-! ## Moves -/

/-- A bay can move by the states it leaves and enters alone. -/
theorem MayMove.of_state {old new : BayState} {timer : Option Nat} (h : (s.bay b).state = old)
    (plain : new.plain = true := by decide) (switch : new.closedSwitch = true → old.closedSwitch = true := by decide)
    (quarantined : old.quarantinable = true → new.quarantinable = true := by decide)
    (timed : ∀ runs, new.timed = some runs → timer.isSome = runs := by simp [BayState.timed])
    (code : new ≠ .seating → new ≠ .extracting → (s.bay b).code.isSome = true ∨
      (old ≠ .empty ∧ old ≠ .seating ∧ old ≠ .extracting) := by simp)
    (rise : (s.chan b).riseWatch.isSome = true → old = .standby ∨ old = .wakeQueued ∨ old = .granted → new = .standby :=
      by simp)
    (fall : (s.chan b).fallWatch.isSome = true → old ≠ .spinning := by simp) : MayMove s b new timer := by
  subst h
  exact ⟨plain, switch, timed, code, rise, fall, quarantined⟩

theorem State.removeEntryIf_false (s : State) (b : Bay) : s.removeEntryIf false b = s := rfl

theorem Effect.moves {new : BayState} {timer : Option Nat} {es : List Event} (h : MayMove s b new timer)
    (w : (s.bay b).state.waits = false := by simp [*, BayState.waits]) : Effect s (s.move b new timer es) :=
  Effect.move s s b new timer es h (by rw [w]; exact Marked.nothing)

theorem Effect.toChan {g : Channel → Channel} (h : (s.chan b).Follows (g (s.chan b)))
    (activity : (g (s.chan b)).activity = (s.chan b).activity := by simp) : Effect s (s.toChan b g) :=
  Effect.chan s b _ h activity

theorem Effect.onBay {g : BayRecord → BayRecord} (h : (s.bay b).Follows (g (s.bay b))) : Effect s (s.onBay b g) :=
  Effect.record s b _ h

theorem State.raiseAll_effects (s : State) (es : List Event) : Effects s (s.raiseAll es) := by
  induction es generalizing s with
  | nil => exact .refl
  | cons e es ih => exact .head (Effect.raise s e) (ih _)

theorem State.enterQueued_effect (h : (s.bay b).state = .idleOff ∨ (s.bay b).state = .faulted)
    (listed : s.isQuarantined b = false ∨ (s.bay b).state = .faulted) : Effect s (s.enterQueued b) :=
  Effect.queues s b _ h listed

theorem BayRecord.follows_record (r : BayRecord) (o : SpinOutcome) : r.Follows (r.record o) := ⟨id, rfl, rfl, rfl, rfl⟩

theorem BayRecord.follows_recordIfSpinning (r : BayRecord) (o : SpinOutcome) : r.Follows (r.recordIfSpinning o) := by
  unfold BayRecord.recordIfSpinning
  split
  · exact r.follows_record o
  · exact ⟨id, rfl, rfl, rfl, rfl⟩

/-- One failure more breaks nothing outside EMPTY. -/
theorem BayRecord.follows_failed {r : BayRecord} (h : r.state ≠ .empty) (o : SpinOutcome) : r.Follows (r.failed o) := by
  refine ⟨fun ⟨snap, index, _, rest⟩ => ⟨snap, index, fun empty => absurd empty h, rest⟩, rfl, rfl, rfl, rfl⟩

/-- The power taken away leaves no watch armed. -/
theorem State.powerOff_watches (s : State) (b : Bay) : ((s.toChan b Channel.powerOff).chan b).riseWatch = none ∧
    ((s.toChan b Channel.powerOff).chan b).fallWatch = none := by
  simp

theorem State.powerOff_effect (s : State) (b : Bay) : Effect s (s.toChan b Channel.powerOff) :=
  Effect.toChan (Channel.follows_powerOff _)

theorem State.disarm_effect (s : State) (b : Bay) : Effect s (s.toChan b (fun c => c.disarm .both)) :=
  Effect.toChan (Channel.follows_disarm _ _)

/-- A bay without an armed watch moves to an open-switch state that a quarantined bay may stand in, or from one it may
not. -/
theorem MayMove.unwatched {new : BayState} {timer : Option Nat} (rise : (s.chan b).riseWatch = none)
    (fall : (s.chan b).fallWatch = none) (plain : new.plain = true)
    (switch : new.closedSwitch = true → (s.bay b).state.closedSwitch = true)
    (timed : ∀ runs, new.timed = some runs → timer.isSome = runs)
    (code : new = .extracting ∨ ((s.bay b).state ≠ .empty ∧ (s.bay b).state ≠ .seating ∧ (s.bay b).state ≠ .extracting))
    (quarantined : (s.bay b).state.quarantinable = true → new.quarantinable = true) : MayMove s b new timer :=
  ⟨plain, switch, timed, fun _ h => .inr (code.resolve_left h), fun h => by simp [rise] at h,
    fun h => by simp [fall] at h, quarantined⟩

/-- A powered bay is in service, and has no quarantine entry. -/
theorem BayState.closedSwitch_served {st : BayState} (h : st.closedSwitch = true) :
    (st ≠ .empty ∧ st ≠ .seating ∧ st ≠ .extracting) ∧ st.quarantinable = false := by
  cases st <;> simp_all [BayState.closedSwitch, BayState.quarantinable]

/-- A powered bay without an armed watch moves to any plain state. -/
theorem MayMove.powered {new : BayState} {timer : Option Nat} (rise : (s.chan b).riseWatch = none)
    (fall : (s.chan b).fallWatch = none) (h : (s.bay b).state.closedSwitch = true) (plain : new.plain = true)
    (timed : ∀ runs, new.timed = some runs → timer.isSome = runs) : MayMove s b new timer :=
  have served := BayState.closedSwitch_served h
  MayMove.unwatched rise fall plain (fun _ => h) timed (.inr served.1) (by simp [served.2])

/-- What PEAK_RESET and DISARM leave of a channel, as a bay enters SPINNING. -/
def State.spinReady (s : State) (b : Bay) : State := s.toChan b (fun c => c.peakReset.disarm .both)

theorem State.spinReady_effect (s : State) (b : Bay) : Effect s (s.spinReady b) :=
  Effect.toChan ((Channel.follows_peakReset _).trans (Channel.follows_disarm _ _)) (by rfl)

theorem MayMove.spinning {n : Nat} (h : (s.bay b).state.closedSwitch = true) :
    MayMove (s.spinReady b) b .spinning (some n) :=
  MayMove.powered (by simp [State.spinReady, Channel.disarm]) (by simp [State.spinReady, Channel.disarm]) h rfl
    (by simp [BayState.timed])

theorem State.enterSpinning_effects (es : List Event) (h : (s.bay b).state.closedSwitch = true)
    (waits : (s.bay b).state.waits = false) : Effects s (s.enterSpinning b es) :=
  .head (s.spinReady_effect b) (Effect.moves (.spinning h) waits).effects

theorem State.removeEntry_toChan (s : State) (b c : Bay) (g : Channel → Channel) :
    (s.removeEntry b).toChan c g = (s.toChan c g).removeEntry b := by
  show (if s.arbiter.holds b then _ else _ : State).toChan c g = if s.arbiter.holds b then _ else _
  split <;> rfl

theorem State.extract_effects (s : State) (b : Bay) : Effects s (s.extract b) := by
  let c := s.toChan b Channel.powerOff
  let r := c.onBay b (fun r => r.recordIfSpinning .extracted)
  have record : Effect c r := Effect.onBay (BayRecord.follows_recordIfSpinning _ _)
  have state : (r.bay b).state = (s.bay b).state := by
    simp only [r, c, State.bay_onBay, State.bay_toChan, if_true, (BayRecord.follows_recordIfSpinning _ _).state]
  have waits : ((s.bay b).state == .queued || (s.bay b).state == .wakeQueued) = (r.bay b).state.waits := by
    rw [state]
    cases (s.bay b).state <;> rfl
  refine .head (s.powerOff_effect b) (.head record (Effect.effects ?_))
  unfold State.extract
  dsimp only
  rw [waits]
  refine Effect.move r _ b .extracting (some 2000) [] ?_ Marked.nothing
  exact MayMove.unwatched (by simp [r, c]) (by simp [r, c]) rfl nofun (by simp [BayState.timed]) (.inl rfl) (fun _ => rfl)

theorem State.spinSucceeds_effects (h : (s.bay b).state = .spinning) : Effects s (s.spinSucceeds b) := by
  have record : Effect (s.toChan b (fun c => c.disarm .both))
      ((s.toChan b (fun c => c.disarm .both)).onBay b (fun r => r.record .success)) :=
    Effect.onBay (BayRecord.follows_record _ _)
  refine .head (s.disarm_effect b) (.head record (Effect.effects ?_))
  have state : (((s.toChan b (fun c => c.disarm .both)).onBay b (fun r => r.record .success)).bay b).state = .spinning := by
    simpa [BayRecord.record] using h
  refine Effect.moves (.of_state state (fall := ?_)) (by rw [state]; rfl)
  simp [Channel.disarm]

theorem State.spinFails_effects (h : (s.bay b).state = .spinning) (o : SpinOutcome) (reading : Nat) :
    Effects s (s.spinFails b o reading) := by
  have record : Effect (s.toChan b Channel.powerOff) ((s.toChan b Channel.powerOff).onBay b (fun r => r.failed o)) :=
    Effect.onBay (BayRecord.follows_failed (by simp [h]) _)
  refine .head (s.powerOff_effect b) (.head record (Effect.effects ?_))
  have state : (((s.toChan b Channel.powerOff).onBay b (fun r => r.failed o)).bay b).state = .spinning := by
    simpa [BayRecord.failed, BayRecord.record] using h
  refine Effect.moves (.of_state state (fall := ?_)) (by rw [state]; rfl)
  simp

theorem State.tripTaken_effects (h : (s.bay b).state.closedSwitch = true) (mA : Nat) : Effects s (s.tripTaken b mA) := by
  let c := s.toChan b (fun c => c.disarm .both)
  let r := c.onBay b (fun r => r.failed .trip)
  have record : Effect c r := Effect.onBay (BayRecord.follows_failed (BayState.closedSwitch_served h).1.1 _)
  have state : (r.bay b).state = (s.bay b).state := by
    simp [r, c, BayRecord.failed, BayRecord.record]
  have waits : ((s.bay b).state == .wakeQueued) = (r.bay b).state.waits := by
    rw [state]
    revert h
    cases (s.bay b).state <;> simp [BayState.closedSwitch, BayState.waits]
  refine .head (s.disarm_effect b) (.head record (Effect.effects ?_))
  unfold State.tripTaken
  dsimp only
  rw [waits]
  refine Effect.move r _ b .faulted _ _ ?_ Marked.fault
  exact MayMove.powered (by simp [r, c, Channel.disarm]) (by simp [r, c, Channel.disarm]) (state ▸ h) rfl
    (by simp [BayState.timed])

theorem State.powerDown_effects (h : (s.bay b).state.closedSwitch = true) : Effects s (s.powerDown b) := by
  let c := s.toChan b Channel.powerOff
  let r := c.onBay b (fun r => r.recordIfSpinning .aborted)
  have record : Effect c r := Effect.onBay (BayRecord.follows_recordIfSpinning _ _)
  have state : (r.bay b).state = (s.bay b).state := by
    simp only [r, c, State.bay_onBay, State.bay_toChan, if_true, (BayRecord.follows_recordIfSpinning _ _).state]
  have waits : ((s.bay b).state == .wakeQueued) = (r.bay b).state.waits := by
    rw [state]
    revert h
    cases (s.bay b).state <;> simp [BayState.closedSwitch, BayState.waits]
  refine .head (s.powerOff_effect b) (.head record (Effect.effects ?_))
  unfold State.powerDown
  dsimp only
  rw [waits]
  refine Effect.move r _ b .poweringDown (some 500) [] ?_ Marked.nothing
  exact MayMove.powered (by simp [r, c]) (by simp [r, c]) (state ▸ h) rfl (by simp [BayState.timed])

theorem State.dequeue_effect (h : (s.bay b).state = .queued) : Effect s (s.dequeue b) := by
  refine Effect.move s _ b .idleOff none [] (.of_state h) ?_
  rw [h]
  exact Marked.nothing

/-! ## Reports taken -/

theorem State.takeReport_effect {r : Report} {t : State} (h : s.takeReport b = some (r, t)) : Effect s t := by
  unfold State.takeReport at h
  split at h
  · cases h
  · cases h
    exact Effect.chan s b _ ⟨id, id, id⟩ rfl

theorem State.contactInSeating_effects (h : (s.bay b).state = .seating) (early seated : Bool) :
    Effects s (s.contactInSeating b early seated) := by
  have timer : ∀ x : Option Nat, (s.bay b).Follows { s.bay b with timer := x } := fun x => by
    refine ⟨fun ⟨snap, index, empty, code, _, rest⟩ => ⟨snap, index, empty, code, ?_, rest⟩, rfl, rfl, rfl, rfl⟩
    simp [h, BayState.timed]
  unfold State.contactInSeating
  split
  · exact (Effect.empties s b (.inl h)).effects
  · split
    · exact (Effect.onBay (timer _)).effects
    · exact (Effect.onBay (timer _)).effects

theorem State.contactInExtracting_effects (h : (s.bay b).state = .extracting) (early late seated : Bool) :
    Effects s (s.contactInExtracting b early late seated) := by
  unfold State.contactInExtracting
  split
  · exact (Effect.empties s b (.inr h)).effects
  · split
    · exact (Effect.moves (.of_state h)).effects
    · exact .refl

theorem State.contactInEmpty_effects (h : (s.bay b).state = .empty) (early seated : Bool) :
    Effects s (s.contactInEmpty b early seated) := by
  unfold State.contactInEmpty
  split
  · exact (Effect.moves (.of_state h)).effects
  · exact .refl

theorem State.extract_state (s : State) (b : Bay) : ((s.extract b).bay b).state = .extracting := by
  unfold State.extract
  dsimp only
  rw [(State.move_facts _ b .extracting (some 2000) []).bay]
  rfl

theorem State.contactInService_effects (s : State) (b : Bay) (early late seated : Bool) :
    Effects s (s.contactInService b early late seated) := by
  unfold State.contactInService
  split
  · exact .refl
  · split
    · exact (s.extract_effects b).tail (Effect.empties _ b (.inr (s.extract_state b)))
    · exact s.extract_effects b

theorem State.contactTaken_effects (s : State) (b : Bay) (early late seated : Bool) :
    Effects s (s.contactTaken b early late seated) := by
  unfold State.contactTaken
  split
  · exact State.contactInEmpty_effects ‹_› _ _
  · exact State.contactInSeating_effects ‹_› _ _
  · exact State.contactInExtracting_effects ‹_› _ _ _
  all_goals exact s.contactInService_effects b _ _ _

theorem State.seatCompleted_effects (h : (s.bay b).state = .seating) (code : Code) :
    Effects s (s.seatCompleted b code) := by
  let t := (s.onBay b (fun r => { r with code := some code })).select b
  have record : (t.bay b).state = .seating ∧ (t.bay b).code = some code := by
    simp [t, State.bay_select, State.selectedRecord, h]
  let u := t.move b .idleOff none [insertedEvent b code ((t.bay b).profileIndex.getD 0)]
  have moved : Effect t u := Effect.moves (.of_state record.1 (code := by simp [record.2])) (by rw [record.1]; rfl)
  have state : (u.bay b).state = .idleOff := by
    rw [(State.move_facts t b .idleOff none _).bay]
    rfl
  have seated : Effects s u := .head (Effect.code s b code h) moved.effects
  show Effects s (if u.mayQueue b then u.enterQueued b else u)
  split
  · rename_i q
    have free : u.isQuarantined b = false := by
      simp only [State.mayQueue, Bool.and_eq_true, Bool.not_eq_true'] at q
      exact q.2
    exact seated.tail (State.enterQueued_effect (.inl state) (.inl free))
  · exact seated

theorem State.tripReport_effects (s : State) (b : Bay) (mA : Nat) : Effects s (s.tripReport b mA) := by
  have late : Effects s (s.tripTakenLate b mA) :=
    .head (Effect.cond s b condPowerFault true (by decide) (by decide) (by decide)) (Effect.raise _ _).effects
  unfold State.tripReport
  split
  case h_13 => exact .refl
  case h_1 | h_2 | h_3 | h_4 | h_5 | h_6 => exact State.tripTaken_effects (by rw [‹(s.bay b).state = _›]; rfl) mA
  all_goals exact late

theorem State.removeEntry_bays_state (s : State) (b c : Bay) : ((s.removeEntry b).bay c) = s.bay c := by
  simp [State.bay]

theorem State.riseTaken_effects (s : State) (b : Bay) (mA : Nat) : Effects s (s.riseTaken b mA) := by
  unfold State.riseTaken
  split
  · exact State.enterSpinning_effects _ (by rw [‹(s.bay b).state = _›]; rfl) (by rw [‹(s.bay b).state = _›]; rfl)
  · exact State.enterSpinning_effects _ (by rw [‹(s.bay b).state = _›]; rfl) (by rw [‹(s.bay b).state = _›]; rfl)
  · rename_i h
    refine .head (s.spinReady_effect b) (Effect.effects ?_)
    rw [State.enterSpinning, State.removeEntry_toChan]
    refine Effect.move (s.spinReady b) _ b .spinning _ _ (.spinning (by rw [h]; rfl)) ?_
    rw [State.spinReady, State.bay_toChan, h]
    exact Marked.nothing
  all_goals exact .refl

end Sys2Proof.Machine
end

section
/-! SUPPORT. Every command is made of effects: the timers, the cooling controller and the restarts. -/

namespace Sys2Proof.Machine

variable {s : State} {b : Bay}

/-! ## Timers of a bay -/

theorem State.timing_iff (s : State) (b : Bay) (st : BayState) :
    s.timing b st = true ↔ (s.bay b).state = st ∧ (s.bay b).timer.isSome = true := by
  simp [State.timing]

theorem State.partial_effects (h : s.timing b .seating = true) :
    Effects s ((s.onBay b (fun r => { r with timer := none, partialReported := true })).raise
      (bayEvent .bayPartial b none none)) := by
  obtain ⟨state, -⟩ := (s.timing_iff b _).mp h
  refine .head (Effect.onBay ⟨?_, rfl, rfl, rfl, rfl⟩) (Effect.raise _ _).effects
  rintro ⟨snap, index, empty, code, -, settling, -⟩
  exact ⟨snap, index, empty, code, by simp [state, BayState.timed], settling, fun _ => state⟩

theorem State.spinChecked_effects (h : (s.bay b).state = .spinning) : Effects s (s.spinChecked b) := by
  unfold State.spinChecked
  split
  · exact State.spinFails_effects h _ _
  · split
    · exact State.spinSucceeds_effects h
    · exact (Effect.settling s b h).effects

theorem State.extractionEnds_effects (h : (s.bay b).state = .extracting) : Effects s (s.extractionEnds b) := by
  unfold State.extractionEnds
  split
  · exact (Effect.moves (.of_state h)).effects
  · exact (Effect.empties s b (.inr h)).effects

theorem State.backoffEnds_effects (h : (s.bay b).state = .faulted) : Effects s (s.backoffEnds b) := by
  unfold State.backoffEnds
  split
  · exact (State.enterQueued_effect (.inr h) (.inr h)).effects
  · have out := Effect.checkedOut s b (by rw [h]; rfl)
    rw [h] at out
    exact out.effects

/-! ## Fans -/

theorem FanRecord.follows_pulse (r : FanRecord) : r.Follows r.pulse :=
  ⟨rfl, rfl, by simp [FanRecord.pulse], id, id⟩

/-- A record that a sample has replaced, with another count of its row. -/
theorem FanRecord.follows_sampled {r : FanRecord} (w : r.window ≠ none) (rpm minRpm windowMs low good : Nat)
    (hl : r.low < 3 → low < 3) (hg : r.good < 3 → good < 3) :
    r.Follows { r.sampled rpm minRpm windowMs with low := low, good := good } :=
  ⟨rfl, rfl, by simp [FanRecord.sampled, w], hl, hg⟩

theorem State.windowEnds_effects {f : Fan} {w : TachWindow} (h : (s.fan f).window = some w) :
    Effects s (s.windowEnds f w) := by
  have some : (s.fan f).window ≠ none := by simp [h]
  have keeps := FanRecord.follows_sampled some (windowRpm w (s.cfg.fans.get f).ppr) (s.cfg.fans.get f).minRpm
    s.cfg.common.windowMs
  unfold State.windowEnds State.sampleTaken
  split
  · rename_i running
    unfold State.runningSample
    split
    · split
      · rename_i row
        exact (Effect.fan s f _ (keeps _ _ (fun _ => row) id)).effects
      · refine (Effect.fanMoves s f _ _ ?_ (.inl rfl) rfl (by simp [FanRecord.fail, FanRecord.sampled]) (Nat.zero_lt_succ _) (Nat.zero_lt_succ _)).effects
        exact fun absent => by cases running.symm.trans absent
    · exact (Effect.fan s f _ (keeps _ _ (fun _ => Nat.zero_lt_succ _) id)).effects
    · exact (Effect.fan s f _ (keeps _ _ id id)).effects
    · exact (Effect.fan s f _ (keeps _ _ id id)).effects
  · rename_i failed
    unfold State.failedSample
    split
    · split
      · rename_i row
        exact (Effect.fan s f _ (keeps _ _ id (fun _ => row))).effects
      · refine (Effect.fanMoves s f _ _ ?_ (.inr rfl) rfl (by simp [FanRecord.run, FanRecord.sampled]) (Nat.zero_lt_succ _) (Nat.zero_lt_succ _)).effects
        exact fun absent => by cases failed.symm.trans absent
    · exact (Effect.fan s f _ (keeps _ _ id (fun _ => Nat.zero_lt_succ _))).effects
    · exact (Effect.fan s f _ (keeps _ _ id id)).effects
    · exact (Effect.fan s f _ (keeps _ _ id id)).effects
  · exact (Effect.fan s f _ (keeps _ _ id id)).effects
  · exact .refl

theorem State.reportStale_effects (s : State) (b : Bay) (r : DriveReport) : Effects s (s.reportStale b r) := by
  refine .head (Effect.raise s (bayEvent .tempStale b none (some r.temp))) (Effect.effects ?_)
  refine Effect.reports (s.raise _) (Table.put s.cooling.reports b (some { r with age := none })) [s.zoneOf b] ?_
  intro c changed
  by_cases same : b = c
  · subst same
    exact List.mem_singleton.mpr rfl
  · simp [same] at changed

/-! ## Restarts -/

theorem State.reselectBay_effects (t : State) (c : Bay) :
    Effects t (if (t.bay c).state ∈ [BayState.idleOff, .queued, .faulted] then t.select c else t) := by
  split
  · exact (Effect.select t c ‹_›).effects
  · exact .refl

theorem Effects.foldl {α : Type} {f : State → α → State} (h : ∀ t a, Effects t (f t a)) (l : List α) (s : State) :
    Effects s (l.foldl f s) := by
  induction l generalizing s with
  | nil => exact .refl
  | cons a l ih => exact (h s a).trans (ih _)

theorem State.reselect_effects (s : State) : Effects s (s.reselect [.idleOff, .queued, .faulted]) :=
  Effects.foldl State.reselectBay_effects allBays s

theorem State.requeue_effects (s : State) (time : EventTime) (b : Bay) : Effects s (s.requeue time b) := by
  unfold State.requeue
  split
  · rename_i h
    have free : s.isQuarantined b = false := by
      have q := h.2
      simp only [State.mayQueue, Bool.and_eq_true, Bool.not_eq_true'] at q
      exact q.2
    exact (Effect.queues s b time (.inl h.1) (.inl free)).effects
  · exact .refl

theorem State.quarantineCheck_effects (s : State) : Effects s s.quarantineCheck := by
  refine Effects.foldl (fun t b => ?_) allBays s
  unfold State.checkBay
  split
  · exact (Effect.checkedOut t b ‹_ ∧ _›.1).effects
  · exact .refl

theorem State.finishRestart_effects {x : Store} (h : x.writing = none) (legal : s.store.image.items.legal →
    (∀ w, s.store.writing = some w → w.items.legal) → x.image.items.legal) (awaited : AwaitedReload) :
    Effects s ((s.putStore x).finishRestart awaited) := by
  refine .head (Effect.reload s x h legal) ?_
  refine (Effects.foldl (fun t z => (Effect.judge t z).effects) allZones _).trans ?_
  refine (State.reselect_effects _).trans ?_
  exact (Effects.foldl (fun t b => t.requeue_effects awaited.time b) awaited.queued _).trans
    (State.quarantineCheck_effects _)

theorem allBays_pairwise : allBays.Pairwise (fun x y => x < y) := by decide

theorem State.warmRestart_effects (s : State) : Effects s s.warmRestart := by
  refine .head (Effect.warm s) ?_
  unfold State.warmRestart
  dsimp only
  have store : s.warmAtOnce.store = s.store := s.warmAtOnce_store
  have queued : s.requeueSet.Pairwise (fun x y => x < y) := allBays_pairwise.filter _
  generalize s.warmAtOnce = t at store ⊢
  split
  · exact (Effect.await t ⟨s.requeueSet, s.time⟩ (by rwa [store]) queued).effects
  · rename_i idle
    have writing : t.store.writing = none := by
      rw [store]
      exact Option.not_isSome_iff_eq_none.mp idle
    exact State.finishRestart_effects (s := t) (x := t.store) writing (fun h _ => h) _

theorem State.writeCompletes_effects {w : SettingsWrite} (h : s.store.writing = some w) :
    Effects s (s.writeCompletes w.items) := by
  unfold State.writeCompletes
  split
  · exact (Effect.written s w h ‹_›).effects
  · exact State.finishRestart_effects rfl (fun _ written => written w h) _

/-! ## Requests of the blocks -/

/-- A request has been handled: by effects that leave the link, with an action in range. -/
def Handled (s : State) (r : State × Answer) : Prop := Effects s r.1 ∧ r.1.link = s.link ∧ r.2.action.legal

theorem Handled.of_answer {t : State} {st : Status} {body : List Byte} (h : Effects s t) (link : t.link = s.link) :
    Handled s (t, answer st body) := ⟨h, link, trivial⟩

theorem Handled.refuse (s : State) (st : Status) : Handled s (refuse s st) := .of_answer .refl rfl

theorem Handled.reads (s : State) (body : List Byte) : Handled s (reads s body) := .of_answer .refl rfl

theorem handleBays_effects {f : State → Bay → State × Status} (h : ∀ t b, Effects t (f t b).1 ∧ (f t b).1.link = t.link)
    (l : List Nat) (s : State) : Effects s (handleBays f s l).1 ∧ (handleBays f s l).1.link = s.link := by
  induction l generalizing s with
  | nil => exact ⟨.refl, rfl⟩
  | cons n l ih =>
    unfold handleBays
    split
    · exact ih s
    · rename_i b _
      obtain ⟨effects, link⟩ := h s b
      exact ⟨effects.trans (ih _).1, (ih _).2.trans link⟩

theorem Handled.onBayList (s : State) (p : List Byte) (first : Status) {f : State → Bay → State × Status}
    (h : ∀ t b, Effects t (f t b).1 ∧ (f t b).1.link = t.link) : Handled s (onBayList s p first f) := by
  unfold Machine.onBayList
  split
  · exact Handled.refuse s _
  · exact .of_answer (handleBays_effects h _ s).1 (handleBays_effects h _ s).2

theorem State.powerOnBay_effects (s : State) (b : Bay) :
    Effects s (s.powerOnBay b).1 ∧ (s.powerOnBay b).1.link = s.link := by
  unfold State.powerOnBay
  split
  case h_1 h =>
    split
    · exact ⟨.refl, rfl⟩
    · rename_i free
      refine ⟨.head (Effect.removal s b false (by rw [h]; decide)) (Effect.effects ?_), by simp⟩
      have state : ((s.setRemoval b false).bay b).state = .idleOff := by
        simpa [State.setRemoval] using h
      refine State.enterQueued_effect (.inl state) (.inl ?_)
      simpa [State.isQuarantined] using free
  all_goals exact ⟨.refl, rfl⟩

theorem State.powerOffBay_effects (s : State) (b : Bay) :
    Effects s (s.powerOffBay b).1 ∧ (s.powerOffBay b).1.link = s.link := by
  unfold State.powerOffBay
  split
  case h_1 h => exact ⟨(State.dequeue_effect h).effects, by simp⟩
  case h_2 h => exact ⟨(Effect.moves (.of_state h)).effects, by simp⟩
  case h_3 h | h_4 h | h_5 h | h_6 h | h_7 h | h_8 h =>
    exact ⟨State.powerDown_effects (by rw [h]; rfl), by simp⟩
  all_goals exact ⟨.refl, rfl⟩

theorem State.setRemoval_state (s : State) (b c : Bay) (v : Bool) : ((s.setRemoval b v).bay c).state = (s.bay c).state := by
  by_cases same : b = c
  · subst same
    simp [State.setRemoval]
  · simp [State.setRemoval, same]

theorem State.powerDown_state (s : State) (b : Bay) : ((s.powerDown b).bay b).state = .poweringDown := by
  unfold State.powerDown
  dsimp only
  rw [(State.move_facts _ b .poweringDown (some 500) []).bay]
  rfl

theorem State.prepareBay_effects (s : State) (b : Bay) :
    Effects s (s.prepareBay b).1 ∧ (s.prepareBay b).1.link = s.link := by
  unfold State.prepareBay
  split
  case h_1 h | h_2 h => exact ⟨(Effect.removal s b true (by rw [h]; decide)).effects, by simp⟩
  case h_3 h =>
    refine ⟨(Effect.move s _ b .idleOff none [] (.of_state h) ?_).effects, by simp⟩
    rw [h]
    refine Marked.removal ?_
    show ((s.removeEntry b).bay b).state ≠ .empty
    rw [State.removeEntry_bays_state, h]
    decide
  case h_4 h =>
    have state := (s.setRemoval_state b b true).trans h
    exact ⟨.head (Effect.removal s b true (by rw [h]; decide))
      (Effect.moves (.of_state state) (by rw [state]; rfl)).effects, by simp⟩
  case h_5 h | h_6 h | h_7 h | h_8 h | h_9 h | h_10 h =>
    refine ⟨(State.powerDown_effects (by rw [h]; rfl)).tail (Effect.removal _ b true ?_), by simp⟩
    rw [State.powerDown_state]
    decide
  all_goals exact ⟨.refl, rfl⟩

theorem State.spinRequestBay_effects (s : State) (b : Bay) :
    Effects s (s.spinRequestBay b).1 ∧ (s.spinRequestBay b).1.link = s.link := by
  unfold State.spinRequestBay
  split
  case h_1 h => exact ⟨(Effect.wakes s b _ h).effects, by simp⟩
  all_goals exact ⟨.refl, rfl⟩

theorem State.spinDownBay_effects (s : State) (b : Bay) :
    Effects s (s.spinDownBay b).1 ∧ (s.spinDownBay b).1.link = s.link := by
  unfold State.spinDownBay
  split
  case h_1 h => exact ⟨(Effect.spinDown s b _ h).effects, by simp⟩
  all_goals exact ⟨.refl, rfl⟩

theorem State.setPolicyBay_effects (w : PolicyWrite) (s : State) (b : Bay) :
    Effects s (s.setPolicyBay w b).1 ∧ (s.setPolicyBay w b).1.link = s.link := by
  refine ⟨(Effect.policy s w b).effects, ?_⟩
  unfold State.setPolicyBay
  dsimp only
  split <;> simp

theorem State.clearQuarantineBay_effects (s : State) (b : Bay) :
    Effects s (s.clearQuarantineBay b).1 ∧ (s.clearQuarantineBay b).1.link = s.link := by
  unfold State.clearQuarantineBay
  dsimp only
  split
  · refine ⟨.head (Effect.unquarantine s b) (Effect.effects (Effect.onBay ⟨?_, rfl, rfl, rfl, rfl⟩)), by simp⟩
    rintro ⟨snap, index, empty, rest⟩
    exact ⟨snap, index, fun e => ⟨(empty e).1, rfl, (empty e).2.2⟩, rest⟩
  · exact ⟨.refl, rfl⟩

theorem State.setConditionBay_effects {c : Fin 9} (h : c.val < 5) (v : Bool) (s : State) (b : Bay) :
    Effects s (s.setConditionBay c v b).1 ∧ (s.setConditionBay c v b).1.link = s.link := by
  refine ⟨(Effect.cond s b c v ?_ ?_ ?_).effects, rfl⟩ <;>
    (rintro rfl; revert h; decide)

theorem hostCondition_lt {n : Nat} {c : Fin 9} (h : hostCondition n = some c) : c.val < 5 := by
  unfold hostCondition at h
  split at h
  · cases h
    assumption
  · cases h

theorem State.setCondition_handled (s : State) (p : List Byte) : Handled s (s.setCondition p) := by
  unfold State.setCondition
  split
  · exact .refuse s _
  · split
    · exact .refuse s _
    · exact .onBayList s _ _ (fun t b => State.setConditionBay_effects (hostCondition_lt ‹_›) _ t b)

theorem State.clearLatchOf_effects (s : State) (b : Bay) : Effects s (s.clearLatchOf b) :=
  (Effect.cond s b condPowerFault false (by decide) (by decide) (by decide)).effects

theorem State.clearLatch_handled (s : State) (p : List Byte) : Handled s (s.clearLatch p) := by
  unfold State.clearLatch
  split
  · exact .of_answer (Effects.foldl State.clearLatchOf_effects allBays s)
      (foldl_keeps State.link (fun t b => t.clearLatchOf_link b) _ _)
  · split
    · exact .refuse s _
    · exact .of_answer (s.clearLatchOf_effects _) rfl

/-- What a configuration write leaves of the items that other blocks follow. -/
theorem State.putCfg_effects {c : Settings} (legal : s.cfg.legal → c.legal) (bays : c.bays = s.cfg.bays := by rfl)
    (supply : c.supply = s.cfg.supply := by rfl) (air : c.airCurves = s.cfg.airCurves := by rfl)
    (common : c.common = s.cfg.common := by rfl) (fans : c.fans = s.cfg.fans := by rfl) : Effects s (s.putCfg c) :=
  (Effect.cfg s c legal bays supply air common fans).effects

theorem Table.put_all {α : Type} {n : Nat} {P : α → Prop} {v : Table α n} {i : Fin n} {x : α} (h : ∀ j, P (v.get j))
    (hx : P x) (j : Fin n) : P ((Table.put v i x).get j) := by
  rw [Table.get_put]
  split
  · exact hx
  · exact h j

theorem State.setProfile_handled (s : State) (p : List Byte) : Handled s (s.setProfile p) := by
  unfold State.setProfile
  split
  · exact .refuse s _
  · dsimp only
    split
    · exact .refuse s _
    · rename_i related
      refine .of_answer (State.putCfg_effects fun ⟨profiles, rest⟩ => ⟨Table.put_all profiles ?_, rest⟩) rfl
      exact Profile.clamped_legal (by simpa using related)

theorem State.setProfileRule_handled (s : State) (p : List Byte) : Handled s (s.setProfileRule p) := by
  unfold State.setProfileRule
  split
  · exact .refuse s _
  · rename_i i _
    split
    · exact .refuse s _
    · have written : Effects s (s.putCfg { s.cfg with rules := Table.put s.cfg.rules i (ruleAt p) }) :=
        State.putCfg_effects fun ⟨profiles, rules, rest⟩ => ⟨profiles, Table.put_all rules (ruleAt_legal p), rest⟩
      exact .of_answer (written.trans (State.reselect_effects _)) (by simp)

theorem State.quarantineCheckIf_effects (s : State) (c : Bool) : Effects s (s.quarantineCheckIf c) := by
  cases c with
  | true => exact s.quarantineCheck_effects
  | false => exact .refl

theorem State.triggerIf_effects (s : State) (c : Bool) : Effects s (s.triggerIf c) := by
  cases c with
  | true => exact (Effect.trigger s).effects
  | false => exact .refl

theorem State.setAdmission_handled (s : State) (p : List Byte) : Handled s (s.setAdmission p) := by
  have written : Effects s (s.putCfg { s.cfg with admission := (admissionAt p).clamped }) :=
    State.putCfg_effects fun ⟨profiles, rules, supply, _, rest⟩ =>
      ⟨profiles, rules, supply, (admissionAt p).clamped_legal, rest⟩
  exact .of_answer (written.trans ((State.quarantineCheckIf_effects _ _).trans (State.triggerIf_effects _ _)))
    (State.writeAdmission_link s _)

theorem State.setSupply_handled (s : State) (p : List Byte) : Handled s (s.setSupply p) := by
  unfold State.setSupply
  split
  · exact .refuse s _
  · exact .of_answer (Effect.supply s _ (supplyAt p).clamped_legal).effects (by simp)

theorem State.setZone_handled (s : State) (p : List Byte) : Handled s (s.setZone p) := by
  unfold State.setZone
  split
  · unfold State.setZoneCommon
    dsimp only
    split
    · exact .refuse s _
    · split
      · exact .refuse s _
      · rename_i window ok
        refine .of_answer (Effect.common s _ (CoolingCommon.clamped_legal ?_ (by simpa using ok))).effects (by simp)
        simpa [CoolingCommon.clamped] using window
  · unfold State.setZoneCurve
    dsimp only
    split
    · exact .refuse s _
    · split
      · exact .refuse s _
      · rename_i _ ok
        exact .of_answer (Effect.airCurve s _ _ (Curve.clamped_legal (by simpa using ok))).effects (by simp)

theorem State.setFan_handled (s : State) (p : List Byte) : Handled s (s.setFan p) := by
  unfold State.setFan
  split
  · exact .refuse s _
  · split
    · exact .refuse s _
    · exact .of_answer (Effect.fanSettings s _ _ (fanSettingsAt p).clamped_legal).effects (by simp)

theorem State.drivePair_eq (s : State) (n : Nat) (t : Int) : (s.drivePair n t).1 =
    s.putCooling { s.cooling with reports := (s.drivePair n t).1.cooling.reports } := by
  unfold State.drivePair
  split
  · rfl
  · repeat' split
    all_goals rfl

/-- The pairs of DRIVE_TEMPS change the drive reports alone. -/
theorem State.drivePairs_eq (s : State) (p : List Byte) : (s.drivePairs p).1 =
    s.putCooling { s.cooling with reports := (s.drivePairs p).1.cooling.reports } := by
  induction p using List.twoStepInduction generalizing s with
  | nil | singleton => rfl
  | cons_cons n t rest ih =>
    show (State.drivePairs (s.drivePair n.toNat t.toInt).1 rest).1 = s.putCooling { s.cooling with
      reports := (State.drivePairs (s.drivePair n.toNat t.toInt).1 rest).1.cooling.reports }
    rw [ih, s.drivePair_eq]
    rfl

theorem State.mem_baysOf (s : State) (z : Zone) (b : Bay) : b ∈ s.baysOf z ↔ s.zoneOf b = z := by
  simp [State.baysOf, mem_allBays]

theorem mem_allZones (z : Zone) : z ∈ allZones := by cases z <;> decide

theorem State.mem_zonesReported (s : State) (before : Table (Option DriveReport) 24) (z : Zone) :
    z ∈ s.zonesReported before ↔ ∃ b, s.zoneOf b = z ∧ s.cooling.reports.get b ≠ before.get b := by
  simp [State.zonesReported, mem_allZones, State.mem_baysOf]

theorem State.driveTemps_handled (s : State) (p : List Byte) : Handled s (s.driveTemps p) := by
  unfold State.driveTemps
  dsimp only
  split
  · exact .refuse s _
  · have pairs := s.drivePairs_eq (p.drop 1)
    generalize (s.drivePairs (p.drop 1)).1 = t at pairs
    refine .of_answer (Effect.effects ?_) (by rw [pairs]; simp)
    rw [pairs]
    refine Effect.reports s _ _ fun b changed => ?_
    rw [State.mem_zonesReported]
    exact ⟨b, rfl, changed⟩

theorem State.readEvents_handled (s : State) (p : List Byte) : Handled s (s.readEvents p) := by
  unfold State.readEvents
  dsimp only
  split
  · exact .refuse s _
  · refine .of_answer (Effect.events s _ ?_).effects rfl
    rw [List.length_drop]
    exact Nat.sub_le ..

theorem State.saveSettings_handled (s : State) (p : List Byte) : Handled s (s.saveSettings p) := by
  unfold State.saveSettings
  split
  · exact .refuse s _
  · rename_i idle
    exact .of_answer (Effect.save s (Option.not_isSome_iff_eq_none.mp idle)).effects rfl

theorem State.setLink_handled (s : State) (p : List Byte) : Handled s (s.setLink p) := by
  unfold State.setLink
  split
  · exact .refuse s _
  · exact ⟨.refl, rfl, Nat.min_le_left ..⟩

theorem State.setPattern_handled (s : State) (p : List Byte) : Handled s (s.setPattern p) := by
  unfold State.setPattern
  split
  · exact .refuse s _
  · exact .of_answer (State.putCfg_effects id) rfl

theorem State.setConditionPattern_handled (s : State) (p : List Byte) : Handled s (s.setConditionPattern p) := by
  unfold State.setConditionPattern
  split
  · exact .of_answer (State.putCfg_effects id) rfl
  · exact .refuse s _

theorem State.setLightMask_handled (s : State) (p : List Byte) : Handled s (s.setLightMask p) :=
  .of_answer (Effect.lights s (min 6 (byteAt p 0)) s.lights.locate (fun _ => Nat.min_le_left ..)).effects rfl

theorem State.setLocate_handled (s : State) (p : List Byte) : Handled s (s.setLocate p) := by
  unfold State.setLocate
  split
  · exact .refuse s _
  · exact .of_answer (Effect.lights s s.lights.mask (byteAt p 0 == 1) id).effects rfl

theorem State.setBayPolicy_handled (s : State) (p : List Byte) : Handled s (s.setBayPolicy p) := by
  unfold State.setBayPolicy
  dsimp only
  split
  · exact .refuse s _
  · exact .onBayList s _ _ (fun t b => t.setPolicyBay_effects _ b)

theorem State.bayStatus_handled (s : State) (p : List Byte) : Handled s (s.bayStatus p) := by
  unfold State.bayStatus
  split
  · exact .refuse s _
  · exact .reads s _

theorem State.getProfile_handled (s : State) (p : List Byte) : Handled s (s.getProfile p) := by
  unfold State.getProfile
  split
  · exact .refuse s _
  · exact .reads s _

theorem State.dispatch_handled (s : State) (k : RequestKind) (p : List Byte) : Handled s (s.dispatch k p) := by
  cases k with
  | unitInfo | baySummary | coolingStatus | budgetStatus | queueStatus | quarantineList => exact .reads s _
  | bayStatus => exact s.bayStatus_handled p
  | setBayPolicy => exact s.setBayPolicy_handled p
  | powerOn => exact .onBayList s _ _ State.powerOnBay_effects
  | powerOff => exact .onBayList s _ _ State.powerOffBay_effects
  | prepareRemoval => exact .onBayList s _ _ State.prepareBay_effects
  | spinRequest => exact .onBayList s _ _ State.spinRequestBay_effects
  | spinDownNote => exact .onBayList s _ _ State.spinDownBay_effects
  | setCondition => exact s.setCondition_handled p
  | clearLatch => exact s.clearLatch_handled p
  | setLightMask => exact s.setLightMask_handled p
  | setPattern => exact s.setPattern_handled p
  | setConditionPattern => exact s.setConditionPattern_handled p
  | setLocate => exact s.setLocate_handled p
  | driveTemps => exact s.driveTemps_handled p
  | setZone => exact s.setZone_handled p
  | setFan => exact s.setFan_handled p
  | setSupply => exact s.setSupply_handled p
  | setAdmission => exact s.setAdmission_handled p
  | setProfile => exact s.setProfile_handled p
  | getProfile => exact s.getProfile_handled p
  | setProfileRule => exact s.setProfileRule_handled p
  | clearQuarantine => exact .onBayList s _ _ State.clearQuarantineBay_effects
  | readEvents => exact s.readEvents_handled p
  | saveSettings => exact s.saveSettings_handled p
  | restart => exact ⟨.refl, rfl, trivial⟩
  | setLink => exact s.setLink_handled p

end Sys2Proof.Machine
end

section
/-! SUPPORT. Every step is made of effects: the link interface, the front end and the dispatch. -/

namespace Sys2Proof.Machine

variable {s : State} {b : Bay}

/-! ## The link interface -/

/-- A link in agreement stays so with another receiver and reply state that agree with each other. -/
theorem LinkAgrees.replace {r : Receiver} {y : ReplyState} (h : LinkAgrees s)
    (suspended : r = .suspended ↔ y.isSending = true)
    (window : ∀ p, y = .pending p → p.latest ≤ p.earliest + 20 ∧ (p.earliest ≠ 0 → p.latest = p.earliest + 20))
    (bytes : ∀ taken gap, r = .receiving taken gap →
      taken.length < 4 ∨ (byteAt taken 3 ≤ 240 ∧ taken.length < 6 + byteAt taken 3)) :
    LinkAgrees (s.putLink { s.link with receiver := r, reply := y }) :=
  ⟨suspended, window, bytes, h.2.2.2⟩

theorem LinkAgrees.receiving (h : LinkAgrees s) (notSending : s.link.reply.isSending = false) :
    s.link.receiver ≠ .suspended := fun sus => by
  rw [h.1.mp sus] at notSending
  cases notSending

theorem LinkAgrees.notSending (h : LinkAgrees s) (notSuspended : s.link.receiver ≠ .suspended) :
    s.link.reply.isSending = false := by
  cases sending : s.link.reply.isSending with
  | false => rfl
  | true => exact absurd (h.1.mpr sending) notSuspended

/-- The link changes, and an after-reply action is carried out. -/
theorem State.doAction_effects {l : Link} {a : AfterReply} (agrees : LinkAgrees s → LinkAgrees (s.putLink l))
    (legal : s.link.legal → l.legal) (action : s.link.legal → a.legal) : Effects s ((s.putLink l).doAction a) := by
  cases a with
  | nothing => exact (Effect.link s l agrees legal).effects
  | linkChange speed turnaround => exact (Effect.linkChange s l speed turnaround agrees legal action).effects
  | restart => exact .head (Effect.link s l agrees legal) (State.warmRestart_effects _)

theorem Link.legal.of_reply {l l' : Link} (h : l.legal) (reply : l'.reply = l.reply) : l'.legal := by
  unfold Link.legal
  rw [reply]
  exact h

theorem Link.legal.of_none {l : Link} (reply : l.reply = .none) : l.legal := by
  simp [Link.legal, reply]

/-- The receiver turns to HUNTING, or takes bytes short of a frame, while it is not SUSPENDED. -/
theorem State.setReceiver_effect {r : Receiver} (now : s.link.receiver ≠ .suspended) (next : r ≠ .suspended)
    (bytes : ∀ taken gap, LinkAgrees s → r = .receiving taken gap →
      taken.length < 4 ∨ (byteAt taken 3 ≤ 240 ∧ taken.length < 6 + byteAt taken 3)) : Effect s (s.setReceiver r) := by
  refine Effect.link s _ (fun h => ?_) (fun h => h.of_reply rfl)
  refine h.replace ⟨fun e => absurd e next, fun e => ?_⟩ h.2.1 (fun taken gap => bytes taken gap h)
  rw [h.notSending now] at e
  cases e

theorem State.setReceiver_hunting_effect (now : s.link.receiver ≠ .suspended) : Effect s (s.setReceiver .hunting) :=
  State.setReceiver_effect now nofun nofun

theorem State.withdraw_effects (h : s.link.reply.isSending = false) : Effects s s.withdraw := by
  refine State.doAction_effects (fun agrees => ?_) (fun _ => .of_none rfl) (fun legal => ?_)
  · exact agrees.replace ⟨fun sus => absurd sus (agrees.receiving h), nofun⟩ nofun agrees.2.2.1
  · cases reply : s.link.reply with
    | pending p => exact legal.1 p reply
    | none | sending frame action => trivial

theorem State.withdraw_reply (s : State) : s.withdraw.link = { s.link with reply := .none } := by
  unfold State.withdraw State.doAction
  split
  · rfl
  · rfl
  · exact State.warmRestart_link _

theorem State.pend_effect {a : Answer} (reply : s.link.reply = .none) (action : a.action.legal) (code tag : Byte) :
    Effect s (s.pend code tag a) := by
  refine Effect.link s _ (fun h => ?_) (fun _ => ⟨?_, nofun⟩)
  · have receiver := h.receiving (by rw [reply]; rfl)
    refine h.replace ⟨fun sus => absurd sus receiver, nofun⟩ ?_ h.2.2.1
    rintro _ ⟨⟩
    exact ⟨Nat.le_refl _, fun _ => rfl⟩
  · rintro _ ⟨⟩
    exact action

theorem State.takeAddressed_effects (h : s.link.reply.isSending = false) (code : Byte) (r : Request) :
    Effects s (s.takeAddressed code r) := by
  have reply : s.withdraw.link.reply = .none := by rw [State.withdraw_reply]
  unfold State.takeAddressed
  split
  · exact (State.withdraw_effects h).tail (State.pend_effect (a := answer _ []) reply trivial _ _)
  · obtain ⟨effects, link, action⟩ := s.withdraw.dispatch_handled ‹_› r.payload
    exact ((State.withdraw_effects h).trans effects).tail (State.pend_effect (by rw [link, reply]) action _ _)

theorem State.takeBroadcast_effects (h : s.link.reply.isSending = false) (code : Byte) (r : Request) :
    Effects s (s.takeBroadcast code r) := by
  unfold State.takeBroadcast
  split
  · exact .refl
  · obtain ⟨effects, -, action⟩ := s.withdraw.dispatch_handled ‹_› r.payload
    exact ((State.withdraw_effects h).trans effects).trans
      (State.doAction_effects (l := (s.withdraw.dispatch _ r.payload).1.link) id id (fun _ => action))

theorem State.takeRequest_effects (s : State) (code : Byte) (r : Request) : Effects s (s.takeRequest code r) := by
  unfold State.takeRequest
  split
  · exact .refl
  · have idle : s.link.reply.isSending = false := Bool.eq_false_of_not_eq_true ‹_›
    split
    · exact State.takeBroadcast_effects idle _ _
    · split
      · exact State.takeAddressed_effects idle _ _
      · exact .refl

theorem State.judgeFrame_effects (s : State) (f : Frame) : Effects s (s.judgeFrame f) := by
  unfold State.judgeFrame
  split
  · exact s.takeRequest_effects _ _
  · exact .refl

theorem State.completes_effects {f : State → State} (h : ∀ t, Effects t (f t)) (s : State) (payload : List Byte) :
    Effects s (s.completes payload f) := by
  unfold State.completes
  split
  · exact .refl
  all_goals
    have hunting : Effect s (s.setReceiver .hunting) := State.setReceiver_hunting_effect (by simp [*])
    split
    · exact hunting.effects
    · exact .head hunting (h _)

theorem State.requestFrame_effects (s : State) (code : Byte) (r : Request) : Effects s (s.requestFrame code r) :=
  State.completes_effects (fun t => t.takeRequest_effects code r) s r.payload

theorem byteAt_append {l : List Byte} {i : Nat} (h : i < l.length) (m : List Byte) : byteAt (l ++ m) i = byteAt l i := by
  unfold byteAt
  rw [List.getD_append _ _ _ _ h]

theorem State.byteTaken_effects {taken : List Byte} {gap : Nat} (h : s.link.receiver = .receiving taken gap)
    (byte : Byte) : Effects s (s.byteTaken (taken ++ [byte])) := by
  have now : s.link.receiver ≠ .suspended := by simp [h]
  unfold State.byteTaken
  split
  · exact (State.setReceiver_hunting_effect now).effects
  · rename_i short
    split
    · exact .head (State.setReceiver_hunting_effect now) (State.judgeFrame_effects _ _)
    · rename_i incomplete
      refine (State.setReceiver_effect (r := .receiving (taken ++ [byte]) 0) now nofun ?_).effects
      rintro _ _ agrees ⟨⟩
      have before := agrees.2.2.1 taken gap h
      simp only [List.length_append, List.length_singleton] at short incomplete ⊢
      rcases Nat.lt_or_ge 3 taken.length with long | brief
      · rw [byteAt_append long] at incomplete ⊢
        omega
      · omega

theorem State.characterFramed_effects (s : State) (byte : Byte) : Effects s (s.characterFramed byte) := by
  unfold State.characterFramed
  split
  · exact .refl
  · split
    · refine (State.setReceiver_effect (r := .receiving [] 0) (by simp [*]) nofun ?_).effects
      rintro _ _ - ⟨⟩
      exact .inl (Nat.zero_lt_succ _)
    · exact .refl
  · exact State.byteTaken_effects ‹_› byte

theorem State.abandonFrame_effects (s : State) : Effects s s.abandonFrame := by
  unfold State.abandonFrame
  split
  · exact (State.setReceiver_hunting_effect (by simp [*])).effects
  · exact .refl
  · exact .refl

theorem State.beginReply_effects {p : PendingReply} (h : s.link.reply = .pending p) : Effects s (s.beginReply p) := by
  refine (Effect.link s { s.link with reply := .sending p.frame p.action, receiver := .suspended } (fun agrees => ?_)
    (fun legal => ⟨nofun, ?_⟩)).effects
  · exact agrees.replace ⟨fun _ => rfl, fun _ => rfl⟩ nofun nofun
  · rintro _ _ ⟨⟩
    exact legal.1 p h

/-- The reply is withdrawn with the frame in progress, and its action carried out. -/
theorem State.replyEnds_effects {a : AfterReply} (legal : s.link.legal → a.legal) :
    Effects s (((s.setReply .none).setReceiver .hunting).doAction a) :=
  State.doAction_effects (l := { s.link with reply := .none, receiver := .hunting })
    (fun agrees => agrees.replace ⟨nofun, nofun⟩ nofun nofun) (fun _ => .of_none rfl) legal

theorem State.lapse_effects {p : PendingReply} (h : s.link.reply = .pending p) : Effects s (s.lapse p) := by
  unfold State.lapse
  split
  · refine (Effect.link s { s.link with reply := .none } (fun agrees => ?_) (fun _ => .of_none rfl)).effects
    exact agrees.replace ⟨fun sus => absurd sus (agrees.receiving (by rw [h]; rfl)), nofun⟩ nofun agrees.2.2.1
  · exact State.replyEnds_effects fun legal => legal.1 p h

/-! ## The step -/

theorem State.linesAccepted_effects (s : State) (k : Slot) (lines : PsuLines) : Effects s (s.linesAccepted k lines) := by
  have present : (s.budget.slots.get k).present.agrees → ((s.budget.slots.get k).acceptLines lines).present.agrees := by
    cases lines with
    | good => exact id
    | present | both => exact FilteredLine.agrees_accept
  have good : (s.budget.slots.get k).good.agrees → ((s.budget.slots.get k).acceptLines lines).good.agrees := by
    cases lines with
    | present => exact id
    | good | both => exact FilteredLine.agrees_accept
  unfold State.linesAccepted
  dsimp only
  split
  · rename_i same
    exact (Effect.slot s k _ present good same.1 same.2).effects
  · exact (Effect.slotChange s k _ present good).effects

theorem State.putSlot_edge_effect (s : State) (k : Slot) (line : PsuLine) (level : Bool) :
    Effect s (s.putSlot k ((s.budget.slots.get k).edge line level)) := by
  cases line with
  | present => exact Effect.slot s k _ (FilteredLine.agrees_edge · _ _) id (FilteredLine.accepted_edge ..) rfl
  | good => exact Effect.slot s k _ id (FilteredLine.agrees_edge · _ _) rfl (FilteredLine.accepted_edge ..)

theorem State.revoked_effects (s : State) (x : Revocation) : Effects s (s.revoked x) := by
  unfold State.revoked
  split
  · rename_i h
    exact (Effect.moves (.of_state h.1) (by rw [h.1]; rfl)).effects
  · exact .refl

/-- A report taken and acted on: the effects of taking it, then those of the act. -/
theorem State.taken_effects {r : Report} {t u : State} (h : s.takeReport b = some (r, t)) (acts : Effects t u) :
    Effects s u := .head (State.takeReport_effect h) acts

theorem State.seatStableTaken_effects (s : State) (b : Bay) (code : Code) : Effects s (s.seatStableTaken b code) := by
  unfold State.seatStableTaken
  split
  · exact State.seatCompleted_effects ‹_› code
  · exact .refl

theorem State.rampEndTaken_effects (s : State) (b : Bay) : Effects s (s.rampEndTaken b) := by
  unfold State.rampEndTaken
  split
  · rename_i h
    exact State.enterSpinning_effects _ (by rw [h]; rfl) (by rw [h]; rfl)
  · exact .refl

theorem State.fallTaken_effects (s : State) (b : Bay) : Effects s (s.fallTaken b) := by
  unfold State.fallTaken
  split
  · exact State.spinSucceeds_effects ‹_ ∧ _›.1
  · exact .refl

/-- A command of a bay's state timer acts only while that timer runs. -/
theorem State.timed_effects {st : BayState} {t : State} (h : (s.bay b).state = st → Effects s t) :
    Effects s (if s.timing b st then t else s) := by
  split
  · exact h ((s.timing_iff b st).mp ‹_›).1
  · exact .refl

/-- Every command completes, by effects. -/
theorem exec_effects (c : Instr) (s : State) : ∃ t, exec c s = .next t ∧ Effects s t := by
  cases c with
  | standbyPowerUp straps => exact ⟨_, rfl, (Effect.cold s straps).effects⟩
  | resetAsserted straps => exact ⟨_, rfl, .head (Effect.cold s straps) (Effect.reset _ true).effects⟩
  | presenceRawEdge b k level => exact ⟨_, rfl, (Effect.chan s b _ (Channel.follows_presenceEdge ..) (by simp)).effects⟩
  | presenceFilterExpiry b k => exact ⟨_, rfl, (Effect.chan s b _ (Channel.follows_presenceAccepted ..) (by simp)).effects⟩
  | carrierRawEdge b l level => exact ⟨_, rfl, (Effect.chan s b _ (Channel.follows_carrierEdge ..) (by simp)).effects⟩
  | carrierFilterExpiry b l => exact ⟨_, rfl, (Effect.chan s b _ (Channel.follows_carrierAccepted ..) (by simp)).effects⟩
  | seatTimerExpiry b => exact ⟨_, rfl, (Effect.chan s b _ (Channel.follows_seatStabilised _) (by simp)).effects⟩
  | rampTimerExpiry b => exact ⟨_, rfl, (Effect.chan s b _ (Channel.follows_ramped _) (by simp)).effects⟩
  | currentSample b mA => exact ⟨_, rfl, (Effect.chan s b _ (Channel.follows_sampled ..) (by simp)).effects⟩
  | tripExcursion b mA => exact ⟨_, rfl, (Effect.chan s b _ (Channel.follows_excursion ..) (by simp)).effects⟩
  | actiAssert b => exact ⟨_, rfl, (Effect.activity s b _ (Channel.follows_acti _)).effects⟩
  | activityStretchExpiry b => exact ⟨_, rfl, (Effect.activity s b _ (Channel.follows_actiEnd _)).effects⟩
  | contactChange b =>
    refine ⟨_, rfl, ?_⟩
    split
    · exact State.taken_effects ‹_› (State.contactTaken_effects ..)
    · exact .refl
  | seatStable b =>
    refine ⟨_, rfl, ?_⟩
    split
    · exact State.taken_effects ‹_› (State.seatStableTaken_effects ..)
    · exact .refl
  | rampEnd b =>
    refine ⟨_, rfl, ?_⟩
    split
    · exact State.taken_effects ‹_› (State.rampEndTaken_effects ..)
    · exact .refl
  | trip b =>
    refine ⟨_, rfl, ?_⟩
    split
    · exact State.taken_effects ‹_› (State.tripReport_effects ..)
    · exact .refl
  | riseCross b =>
    refine ⟨_, rfl, ?_⟩
    split
    · exact State.taken_effects ‹_› (State.riseTaken_effects ..)
    · exact .refl
  | fallCross b =>
    refine ⟨_, rfl, ?_⟩
    split
    · exact State.taken_effects ‹_› (State.fallTaken_effects ..)
    · exact .refl
  | partialTimerExpiry b =>
    refine ⟨_, rfl, ?_⟩
    split
    · exact State.partial_effects ‹_›
    · exact .refl
  | spinTimerExpiry b =>
    refine ⟨_, rfl, ?_⟩
    split
    · rename_i h
      exact State.spinChecked_effects ((s.timing_iff b _).mp ((Bool.and_eq_true ..).mp h).1).1
    · exact .refl
  | settleExtensionExpiry b =>
    refine ⟨_, rfl, ?_⟩
    split
    · rename_i h
      exact State.spinFails_effects ((s.timing_iff b _).mp ((Bool.and_eq_true ..).mp h).1).1 _ _
    · exact .refl
  | grantWindowExpiry b => exact ⟨_, rfl, State.timed_effects fun h => (Effect.moves (.of_state h)).effects⟩
  | dischargeExpiry b => exact ⟨_, rfl, State.timed_effects fun h => (Effect.moves (.of_state h)).effects⟩
  | extractionWindowExpiry b => exact ⟨_, rfl, State.timed_effects State.extractionEnds_effects⟩
  | backoffExpiry b => exact ⟨_, rfl, State.timed_effects State.backoffEnds_effects⟩
  | grantTaken b =>
    refine ⟨_, rfl, ?_⟩
    split
    · exact .refl
    · exact (Effect.grant s b _ _ ‹_›).effects
  | grantDecline b =>
    refine ⟨_, rfl, ?_⟩
    split
    · exact .refl
    · exact (Effect.decline s b _ _ ‹_›).effects
  | revocationRequest b =>
    refine ⟨_, rfl, ?_⟩
    split
    · exact .refl
    · exact .head (Effect.revocations s _) (State.revoked_effects _ _)
  | staggerExpiry =>
    refine ⟨_, rfl, ?_⟩
    split
    · exact .refl
    · exact (Effect.stagger s).effects
  | supplyRawEdge k line level => exact ⟨_, rfl, (s.putSlot_edge_effect k line level).effects⟩
  | supplyLineAccepted k lines => exact ⟨_, rfl, s.linesAccepted_effects k lines⟩
  | tachPulse f => exact ⟨_, rfl, (Effect.fan s f _ (FanRecord.follows_pulse _)).effects⟩
  | tachWindowEnd f =>
    refine ⟨_, rfl, ?_⟩
    split
    · exact .refl
    · exact State.windowEnds_effects ‹_›
  | sensorReadStart => exact ⟨_, rfl, (Effect.readStart s).effects⟩
  | sensorReadComplete k result =>
    refine ⟨_, rfl, ?_⟩
    split
    · exact (Effect.sensor s k result).effects
    · exact .refl
  | driveTempAgeExpiry b =>
    refine ⟨_, rfl, ?_⟩
    split
    · exact .refl
    · split
      · exact s.reportStale_effects b _
      · exact .refl
  | evaluation => exact ⟨_, rfl, (Effect.evaluation s).effects⟩
  | fanCheckEnd =>
    refine ⟨_, rfl, ?_⟩
    split
    · exact (Effect.checkEnds s ‹_›).effects
    · exact .refl
  | stepBoundary => exact ⟨_, rfl, (Effect.boundary s).effects⟩
  | settingsWriteComplete =>
    refine ⟨_, rfl, ?_⟩
    split
    · exact .refl
    · exact State.writeCompletes_effects ‹_›
  | framingError | gapTimeout => exact ⟨_, rfl, s.abandonFrame_effects⟩
  | frameDiscard f => exact ⟨_, rfl, State.completes_effects (fun t => t.judgeFrame_effects f) s f.payload⟩
  | replyBegin =>
    refine ⟨_, rfl, ?_⟩
    split
    · split
      · exact State.beginReply_effects ‹_›
      · exact .refl
    · exact .refl
  | replySent =>
    refine ⟨_, rfl, ?_⟩
    split
    · exact State.replyEnds_effects fun legal => legal.2 _ _ ‹_›
    all_goals exact .refl
  | replyLapse =>
    refine ⟨_, rfl, ?_⟩
    split
    · split
      · exact State.lapse_effects ‹_›
      · exact .refl
    · exact .refl
  | characterReceived c =>
    refine ⟨_, rfl, ?_⟩
    split
    · exact .refl
    · exact s.characterFramed_effects c.byte
  | badKind | unitInfo | bayStatus | baySummary | setBayPolicy | powerOn | powerOff | prepareRemoval | spinRequest
  | spinDownNote | setCondition | clearLatch | setLightMask | setPattern | setConditionPattern | setLocate | driveTemps
  | setZone | setZoneCommon | setFan | coolingStatus | setSupply | budgetStatus | setAdmission | queueStatus | setProfile
  | getProfile | setProfileRule | quarantineList | clearQuarantine | readEvents | saveSettings | restart | setLink =>
    exact ⟨_, rfl, s.requestFrame_effects _ _⟩

theorem State.idle_effects (s : State) : Effects s s.idle := by
  rcases s.idle_cases with ⟨-, idle⟩ | ⟨-, w, writing, -, idle⟩ | ⟨-, -, due | ⟨-, idle⟩⟩
  · rw [idle]
    exact (Effect.reset s false).effects
  · rw [idle]
    exact State.writeCompletes_effects writing
  · obtain ⟨p, pending, -, ⟨-, -, idle⟩ | ⟨-, idle⟩⟩ := s.replyDue_cases due
    · rw [idle]
      exact State.beginReply_effects pending
    · rw [idle]
      exact State.lapse_effects pending
  · rw [idle]
    exact (Effect.tick s).effects

/-- Every step completes, by effects. -/
theorem step_effects (s : State) : ∃ t, step s = .next t ∧ Effects s t := by
  unfold step
  split
  · exact ⟨_, rfl, s.idle_effects⟩
  · obtain ⟨t, next, effects⟩ := exec_effects _ (s.putPending _)
    exact ⟨t, next, .head (Effect.pending s _) effects⟩

/-- What every effect keeps, every step keeps. -/
theorem step_keeps {P : State → Prop} (keeps : ∀ s t, Effect s t → P s → P t) (h : P s) : ∃ t, step s = .next t ∧ P t := by
  obtain ⟨t, next, effects⟩ := step_effects s
  refine ⟨t, next, ?_⟩
  clear next
  induction effects with
  | refl => exact h
  | tail _ effect ih => exact keeps _ _ effect ih

end Sys2Proof.Machine
end

section
/-! SUPPORT. What the effects keep of the link interface and of the event queue. -/

namespace Sys2Proof.Machine

variable (s : State)

/-! ## The effects that are made of several operations -/

theorem State.setPolicyBay_settles (w : PolicyWrite) (b : Bay) :
    Settles (s.putCfg { s.cfg with bays := Table.put s.cfg.bays b ((s.baySettings b).written w) })
      (s.setPolicyBay w b).1 := by
  unfold State.setPolicyBay
  dsimp only
  split
  · exact .refl _
  · exact State.zoneNotice_settles _ _ _

/-- The budget unit with the fan views of all fans taken. -/
def State.viewed : State := s.putBudget { s.budget with
  fanViews := allFans.foldl (fun t f => Table.put t f (s.fanView f)) s.budget.fanViews }

theorem State.budgetReloaded_settles : Settles s.viewed s.budgetReloaded := State.recompute_settles _

/-- The fans as the end of the fan check leaves them, before their notices (R142). -/
def State.fansJudged : State :=
  let t := allFans.foldl State.checkFan s
  t.putCooling { t.cooling with fanCheck := none }

/-- The end of the start-up hold (R96). -/
def State.holdEnds : State := (s.putArbiter { s.arbiter with startUpHold := false }).trigger

theorem State.checkEnds_settles : ∃ t, Settles s.fansJudged t ∧ s.checkEnds = t.holdEnds :=
  ⟨_, (Settles.foldl (fun t f => t.fanNotice_settles f) _ _).trans (State.retargetAll_settles _ false), rfl⟩

/-- WARM_RESTART raised, the channels and the arbiter at a warm restart (R15, R99). -/
def State.warmFirst : State :=
  let t := s.raise ⟨.warmRestart, .none, none, none⟩
  State.putArbiter { t with chans := Table.each Channel.warm t.chans } t.arbiter.warm

/-- The spin count, the commitments and the lists rebuilt from the bays (R73, R99). -/
def State.rebuilt : State :=
  let t := s.putArbiter { s.arbiter with spinCount := s.countSpins }
  t.putBudget (t.budget.warm t.rebuiltCommitments)

theorem State.warmAtOnce_eq :
    s.warmAtOnce = allBays.foldl State.rearm (allBays.foldl State.mapBay s.warmFirst).rebuilt := by
  unfold State.warmAtOnce State.rebuilt State.warmFirst
  with_reducible rfl

theorem State.coldStart_settles (straps : BitVec 3) : Settles ((s.blocksCold straps).raiseAll
    (⟨.coldStart, .none, none, none⟩ :: defaultedEvents s.store.imageAtStart 0)) (s.coldStart straps) :=
  (State.recompute_settles _).trans (Settles.foldl (fun t f => t.fanNotice_settles f) _ _)

@[simp] theorem State.setPolicyBay_link (w : PolicyWrite) (b : Bay) : (s.setPolicyBay w b).1.link = s.link :=
  (s.setPolicyBay_settles w b).link

theorem State.putCooling_putCooling (x y : Cooling) : (s.putCooling x).putCooling y = s.putCooling y := rfl

/-- What changes the cooling controller alone, one after another, changes it alone. -/
theorem State.foldl_putCooling {α : Type} {f : State → α → State} (h : ∀ t a, f t a = t.putCooling (f t a).cooling)
    (l : List α) (s : State) : l.foldl f s = s.putCooling (l.foldl f s).cooling := by
  induction l generalizing s with
  | nil => rfl
  | cons a l ih =>
    have first := h s a
    rw [List.foldl_cons, ih]
    generalize (l.foldl f (f s a)).cooling = x
    rw [first, State.putCooling_putCooling, State.putCooling_cooling]

theorem State.retargetQuietly_eq (z : Zone) : s.retargetQuietly z = s.putCooling (s.retargetQuietly z).cooling :=
  State.foldl_putCooling (fun t f => by split <;> rfl) z.fans (s.putZone z _)

theorem State.reloadedFans_eq : s.reloadedFans = s.reload.putCooling s.reloadedFans.cooling := by
  have fans := State.foldl_putCooling (f := State.fanReloaded) (fun _ _ => rfl) allFans s.reload
  have zones := State.foldl_putCooling State.retargetQuietly_eq allZones (allFans.foldl State.fanReloaded s.reload)
  unfold State.reloadedFans
  rw [zones]
  generalize (allZones.foldl State.retargetQuietly _).cooling = x
  rw [fans, State.putCooling_putCooling, State.putCooling_cooling]

@[simp] theorem State.reloadedCooling_chans : s.reloadedCooling.chans = s.chans := by
  rw [State.reloadedCooling, State.budgetReloaded_chans, State.reloadedFans_eq]
  simp

@[simp] theorem State.reloadedCooling_bays : s.reloadedCooling.bays = s.bays := by
  rw [State.reloadedCooling, State.budgetReloaded_bays, State.reloadedFans_eq]
  simp

@[simp] theorem State.reloadedCooling_quarantine : s.reloadedCooling.quarantine = s.quarantine := by
  rw [State.reloadedCooling, State.budgetReloaded_quarantine, State.reloadedFans_eq]
  simp

@[simp] theorem State.reloadedCooling_lights : s.reloadedCooling.lights = s.lights := by
  rw [State.reloadedCooling, State.budgetReloaded_lights, State.reloadedFans_eq]
  simp

@[simp] theorem State.reloadedCooling_link : s.reloadedCooling.link = s.link := by
  rw [State.reloadedCooling, State.budgetReloaded_link, State.reloadedFans_eq]
  simp

/-! ## The link (R165, R170, R171) -/

/-- No effect but those of the link, a cold start and a millisecond changes the link. -/
theorem Effect.keeps_linkAgrees {s t : State} (h : Effect s t) (agrees : LinkAgrees s) : LinkAgrees t := by
  have kept : t.link = s.link → LinkAgrees t := fun same => by
    unfold LinkAgrees
    rw [same]
    exact agrees
  cases h with
  | link l next | linkChange l _ _ next => exact next agrees
  | cold straps =>
    have link : (s.coldStart straps).link = .cold straps := by
      rw [(s.coldStart_settles straps).link]
      simp [State.blocksCold]
    unfold LinkAgrees
    rw [link]
    exact ⟨⟨nofun, nofun⟩, nofun, nofun, rfl⟩
  | tick =>
    obtain ⟨suspended, window, bytes, address⟩ := agrees
    refine ⟨?_, fun p pending => ?_, fun taken gap receiving => ?_, address⟩
    · refine Iff.trans ?_ (suspended.trans ?_)
      · show s.link.receiver.tick = _ ↔ _
        cases s.link.receiver <;> simp [Receiver.tick]
      · show _ ↔ s.link.reply.tick.isSending = _
        cases s.link.reply <;> simp [ReplyState.tick, ReplyState.isSending]
    · replace pending : s.link.reply.tick = .pending p := pending
      cases reply : s.link.reply with
      | none | sending => simp [reply, ReplyState.tick] at pending
      | pending q =>
        have := window q reply
        simp only [reply, ReplyState.tick, ReplyState.pending.injEq] at pending
        subst pending
        dsimp only
        omega
    · replace receiving : s.link.receiver.tick = .receiving taken gap := receiving
      cases receiver : s.link.receiver with
      | hunting | suspended => simp [receiver, Receiver.tick] at receiving
      | receiving xs n =>
        simp only [receiver, Receiver.tick, Receiver.receiving.injEq] at receiving
        exact receiving.1 ▸ bytes xs n receiver
  | move u b new timer es may marked =>
    refine kept ((u.move_acts b new timer es).link.trans ?_)
    cases marked <;> simp
  | _ => exact kept (by simp)

/-! ## The event queue (R190) -/

variable {s}

theorem EventsBounded.raise {s : State} (h : EventsBounded s) (e : Event) : EventsBounded (s.raise e) := by
  unfold EventsBounded State.raise
  rw [State.putEvents_events]
  split
  · rw [List.length_append]
    exact ‹_ < 32›
  · exact h

theorem EventsBounded.raiseAll {s : State} (h : EventsBounded s) (es : List Event) : EventsBounded (s.raiseAll es) := by
  induction es generalizing s with
  | nil => exact h
  | cons e es ih => exact ih (h.raise e)

theorem EventsBounded.raises {s t : State} {es : List Event} (h : EventsBounded s) (raises : Raises es s t) :
    EventsBounded t := by
  obtain ⟨more, events⟩ := raises
  unfold EventsBounded
  rw [events]
  exact h.raiseAll _

theorem EventsBounded.of_events {s t : State} (h : EventsBounded s) (events : t.events = s.events) : EventsBounded t :=
  h.raises (.of_events_eq events)

theorem State.reload_bounded (h : EventsBounded s) : EventsBounded s.reload := by
  unfold State.reload
  exact EventsBounded.raiseAll (h.of_events (by simp)) _

theorem State.reloadedFans_bounded (h : EventsBounded s) : EventsBounded s.reloadedFans := by
  rw [State.reloadedFans_eq]
  exact (State.reload_bounded h).of_events (State.putCooling_events _ _)

theorem EventsBounded.foldl {α : Type} {f : State → α → State} (keeps : ∀ t a, EventsBounded t → EventsBounded (f t a))
    (l : List α) {s : State} (h : EventsBounded s) : EventsBounded (l.foldl f s) := by
  induction l generalizing s with
  | nil => exact h
  | cons a l ih => exact ih (keeps s a h)

theorem State.checkFan_bounded (f : Fan) (h : EventsBounded s) : EventsBounded (s.checkFan f) := by
  unfold State.checkFan
  dsimp only
  split
  · split
    · exact (h.of_events (t := s.putFan f _) (by simp)).raise _
    · exact h.of_events (by simp)
  · exact h

theorem State.fansJudged_bounded (h : EventsBounded s) : EventsBounded s.fansJudged :=
  (EventsBounded.foldl (fun t f => t.checkFan_bounded f) allFans h).of_events (by simp [State.fansJudged])

theorem State.mapBay_bounded (b : Bay) (h : EventsBounded s) : EventsBounded (s.mapBay b) := by
  unfold State.mapBay
  split
  case h_12 => exact (h.of_events (t := s.mapTo b _ _) (by simp)).raise _
  all_goals exact h.of_events (by simp)

theorem State.warmAtOnce_bounded (h : EventsBounded s) : EventsBounded s.warmAtOnce := by
  have rearmed : ∀ t : State, EventsBounded t → EventsBounded (allBays.foldl State.rearm t) := fun t =>
    EventsBounded.foldl (fun t b ht => ht.of_events (by simp)) allBays
  have mapped : ∀ t : State, EventsBounded t → EventsBounded (allBays.foldl State.mapBay t) := fun t =>
    EventsBounded.foldl (fun t b => t.mapBay_bounded b) allBays
  rw [State.warmAtOnce_eq]
  exact rearmed _ ((mapped s.warmFirst ((h.raise _).of_events rfl)).of_events (by simp [State.rebuilt]))

/-- A bay's selection raises events alone. -/
theorem State.select_bounded (b : Bay) (h : EventsBounded s) : EventsBounded (s.select b) :=
  EventsBounded.raiseAll (h.of_events (by simp)) _

theorem State.move_bounded (b : Bay) (new : BayState) (timer : Option Nat) (es : List Event) (h : EventsBounded s) :
    EventsBounded (s.move b new timer es) := h.raises (s.move_acts b new timer es).events

theorem State.removeEntryIf_bounded (c : Bool) (b : Bay) (h : EventsBounded s) : EventsBounded (s.removeEntryIf c b) :=
  h.raises (s.removeEntryIf_acts b c).events

theorem Marked.bounded {b : Bay} {s u : State} (marked : Marked b s u) (h : EventsBounded s) : EventsBounded u := by
  cases marked with
  | nothing => exact h
  | fault | removal => exact h.of_events (by simp)

theorem Settles.bounded {s t : State} (settles : Settles s t) (h : EventsBounded s) : EventsBounded t :=
  h.raises settles.events

theorem State.enterEmpty_bounded (b : Bay) (h : EventsBounded s) : EventsBounded (s.enterEmpty b) := by
  unfold State.enterEmpty
  dsimp only
  refine EventsBounded.raises ?_ (State.discardReport_acts _ b).events
  refine EventsBounded.foldl (fun t c ht => ht.of_events (by simp)) clearedAtEmpty ?_
  refine EventsBounded.raises ?_ (State.unquarantine_acts _ b).events
  exact (State.move_bounded b .empty none (removedEvents (s.bay b) b) h).of_events (by simp)

theorem State.grantReached_bounded (g : Grant) (h : EventsBounded s) : EventsBounded (s.grantReached g) := by
  unfold State.grantReached
  split
  · unfold State.carryOut
    split
    · exact State.move_bounded _ _ _ _ (h.of_events (by simp))
    · exact State.move_bounded _ _ _ _ h
  · exact h.of_events (by simp [State.declineGrant])

theorem State.coldStart_bounded (straps : BitVec 3) : EventsBounded (s.coldStart straps) :=
  (s.coldStart_settles straps).bounded (EventsBounded.raiseAll (Nat.zero_le _) _)

theorem State.writeFan_bounded (f : Fan) (x : FanSettings) (h : EventsBounded s) : EventsBounded (s.writeFan f x) := by
  have put : ∀ r : FanRecord, EventsBounded ((s.putCfg { s.cfg with fans := Table.put s.cfg.fans f x }).putFan f r) :=
    fun r => h.of_events (by simp)
  have noticed := fun r => (State.fanNotice_settles _ f).bounded (put r)
  unfold State.writeFan
  dsimp only
  split <;> split
  · exact put _
  · exact noticed _
  · exact (State.retarget_settles _ false _).bounded (put _)
  · exact (State.retarget_settles _ false _).bounded (noticed _)

/-- Every effect keeps the event queue within 32 records. -/
theorem Effect.keeps_eventsBounded {s t : State} (h : Effect s t) (bounded : EventsBounded s) : EventsBounded t := by
  cases h with
  | chan | activity | record | settling | cond | removal | slot | fan | readStart | boundary | cfg | lights | save | link
  | linkChange | await | written | reset | tick | pending | revocations => exact bounded.of_events (by simp)
  | code b code => exact State.select_bounded b (bounded.of_events (by simp))
  | select b => exact State.select_bounded b bounded
  | move u b new timer es may marked =>
    exact State.move_bounded b new timer es (marked.bounded (State.removeEntryIf_bounded _ b bounded))
  | spinDown b level => exact State.move_bounded b .standby none [] (bounded.of_events (by simp))
  | checkedOut b =>
    exact (State.move_bounded b .idleOff none [] (State.removeEntryIf_bounded _ b bounded)).raises
      (State.quarantineBay_acts _ b).events
  | unquarantine b => exact bounded.raises (s.unquarantine_acts b).events
  | queues b time =>
    exact (State.trigger_settles _).bounded ((State.move_bounded b .queued none [] bounded).of_events (by simp))
  | wakes b time =>
    exact (State.trigger_settles _).bounded ((State.move_bounded b .wakeQueued none [] bounded).of_events (by simp))
  | empties b => exact State.enterEmpty_bounded b bounded
  | grant b g rest => exact State.grantReached_bounded g (bounded.of_events (by simp))
  | decline b d rest => exact bounded.of_events (by simp)
  | stagger => exact (State.trigger_settles _).bounded (bounded.of_events (by simp))
  | trigger => exact s.trigger_settles.bounded bounded
  | raise e => exact bounded.raise e
  | slotChange k l => exact (State.recomputeForSlot_settles _ k).bounded (bounded.of_events (by simp))
  | supply x => exact (State.recompute_settles _).bounded (bounded.of_events (by simp))
  | fanMoves f r e =>
    exact (State.retarget_settles _ false _).bounded ((State.fanNotice_settles _ f).bounded
      ((bounded.of_events (t := s.putFan f r) (by simp)).raise e))
  | sensor k result =>
    unfold State.sensorResult
    dsimp only
    have raised := EventsBounded.raiseAll (bounded.of_events (t := s.putCooling { s.cooling with
      sensors := Table.put s.cooling.sensors k ((s.cooling.sensors.get k).result result) }) (by simp))
      (sensorEvents k (s.cooling.sensors.get k) ((s.cooling.sensors.get k).result result))
    split
    · exact raised
    · exact (State.reviewZones_settles _ _).bounded raised
  | reports reports zs => exact (State.reviewZones_settles _ zs).bounded (bounded.of_events (by simp))
  | evaluation => exact (State.retargetAll_settles _ true).bounded (bounded.of_events (by simp))
  | checkEnds =>
    obtain ⟨u, settles, ends⟩ := s.checkEnds_settles
    rw [ends]
    exact (State.trigger_settles _).bounded ((settles.bounded (State.fansJudged_bounded bounded)).of_events (by simp))
  | airCurve z c => exact (State.retarget_settles _ false z).bounded (bounded.of_events (by simp))
  | common c => exact (State.reviewZones_settles _ allZones).bounded (bounded.of_events (by simp))
  | fanSettings f x => exact State.writeFan_bounded f x bounded
  | policy w b => exact (s.setPolicyBay_settles w b).bounded (bounded.of_events (by simp))
  | events q shorter => exact Nat.le_trans shorter bounded
  | warm => exact State.warmAtOnce_bounded bounded
  | reload x =>
    exact (State.budgetReloaded_settles _).bounded ((State.reloadedFans_bounded (bounded.of_events
      (t := s.putStore x) (by simp))).of_events (by simp only [State.viewed, State.putBudget_events]))
  | judge z => exact (s.judgeZone_settles z).bounded bounded
  | cold straps => exact s.coldStart_bounded straps

end Sys2Proof.Machine
end

section
/-! The statements about what every step keeps, settled: the link interface and the event queue. -/

namespace Sys2Proof.Machine

/-- Settles O58: every effect keeps the link in agreement and the event queue within 32 records. -/
theorem stepKeepsTheLink : Obligations.StepKeepsTheLink := fun _ link events =>
  step_keeps (P := fun s => LinkAgrees s ∧ EventsBounded s)
    (fun _ _ effect h => ⟨effect.keeps_linkAgrees h.1, effect.keeps_eventsBounded h.2⟩) ⟨link, events⟩

end Sys2Proof.Machine
end

section
/-! SUPPORT. What the effects make of each bay record and of the quarantine table. -/

namespace Sys2Proof.Machine

variable {s : State} {b : Bay}

/-! ## The records after the operations on one bay -/

theorem State.bay_move (s : State) (b c : Bay) (new : BayState) (timer : Option Nat) (es : List Event) :
    (s.move b new timer es).bay c = if b = c then (s.bay b).enter new timer else s.bay c := by
  split
  · rename_i same
    exact same ▸ (s.move_facts b new timer es).bay
  · rename_i other
    exact (s.move_acts b new timer es).bays c (Ne.symm other)

/-- The record of a bay that has entered EMPTY (R37). -/
def BayRecord.emptied (r : BayRecord) : BayRecord :=
  { r.enter .empty none with code := none, profileIndex := none, failCount := 0, removalPrepared := false }

theorem State.unquarantine_bay (s : State) (b c : Bay) : (s.unquarantine b).bay c = s.bay c := by
  unfold State.unquarantine
  split <;> rfl

theorem State.unquarantine_quarantine (s : State) (b : Bay) :
    (s.unquarantine b).quarantine = s.quarantine.filter (fun e => e.bay != b) := by
  unfold State.unquarantine
  split
  · rfl
  · rename_i free
    refine (List.filter_eq_self.mpr fun e he => ?_).symm
    rw [State.isQuarantined, List.any_eq_true] at free
    simpa using fun same => free ⟨e, he, by simpa using same⟩

theorem State.clearConds_bay (b c : Bay) (l : List (Fin 9)) (s : State) :
    (l.foldl (fun t k => t.setCond b k false) s).bay c = s.bay c :=
  foldl_keeps (fun t : State => t.bay c) (fun t k => t.bay_setCond b k false c) l s

theorem State.clearConds_quarantine (b : Bay) (l : List (Fin 9)) (s : State) :
    (l.foldl (fun t k => t.setCond b k false) s).quarantine = s.quarantine :=
  foldl_keeps State.quarantine (fun t k => t.setCond_quarantine b k false) l s

theorem State.enterEmpty_bay (s : State) (b c : Bay) :
    (s.enterEmpty b).bay c = if b = c then (s.bay b).emptied else s.bay c := by
  have record : (s.enterEmpty b).bay c = ((s.move b .empty none (removedEvents (s.bay b) b)).onBay b (fun r =>
      { r with code := none, profileIndex := none, failCount := 0, removalPrepared := false })).bay c := by
    unfold State.enterEmpty
    dsimp only
    rw [State.bay, State.discardReport_bays]
    exact (State.clearConds_bay b c clearedAtEmpty _).trans (State.unquarantine_bay _ b c)
  rw [record, State.bay_onBay, State.bay_move, State.bay_move]
  by_cases same : b = c
  · simp [same, BayRecord.emptied]
  · simp [same]

theorem State.enterEmpty_quarantine (s : State) (b : Bay) :
    (s.enterEmpty b).quarantine = s.quarantine.filter (fun e => e.bay != b) := by
  unfold State.enterEmpty
  dsimp only
  rw [State.discardReport_quarantine, State.clearConds_quarantine, State.unquarantine_quarantine]
  simp

theorem State.setRemoval_bay (s : State) (b c : Bay) (v : Bool) :
    (s.setRemoval b v).bay c = if b = c then { s.bay b with removalPrepared := v } else s.bay c := by
  rw [State.setRemoval, State.bay_setCond, State.bay_onBay]

theorem Marked.bay {u : State} (h : Marked b s u) (c : Bay) : u.bay c =
    if b = c then { s.bay b with removalPrepared := (u.bay b).removalPrepared } else s.bay c := by
  by_cases same : b = c
  · subst same
    cases h <;> simp [State.setRemoval]
  · cases h <;> simp [State.setRemoval, same]

theorem Marked.chans {u : State} (h : Marked b s u) : u.chans = s.chans := by
  cases h <;> rfl

theorem Marked.quarantine {u : State} (h : Marked b s u) : u.quarantine = s.quarantine := by
  cases h <;> rfl

/-! ## Agreement of one record -/

theorem BayState.quarantinable_iff (st : BayState) :
    st.quarantinable = true ↔ st = .idleOff ∨ st = .seating ∨ st = .extracting := by
  cases st <;> simp [BayState.quarantinable]

/-- A record entered with a snapshot where the state needs one, the timer its state has and a carrier code agrees. -/
theorem BayRecord.enter_agrees {r : BayRecord} {new : BayState} {timer : Option Nat}
    (snapshot : new.closedSwitch = true → r.snapshot.isSome = true) (index : r.profileIndex.isSome = r.code.isSome)
    (notEmpty : new ≠ .empty) (code : new ≠ .seating → new ≠ .extracting → r.code.isSome = true)
    (timed : ∀ runs, new.timed = some runs → timer.isSome = runs) : (r.enter new timer).agrees := by
  refine ⟨?_, index, fun h => absurd h notEmpty, fun _ => code, timed, nofun, nofun⟩
  show (if new.closedSwitch then r.snapshot else none).isSome = new.closedSwitch
  cases closed : new.closedSwitch with
  | false => rfl
  | true => exact snapshot closed

theorem BayRecord.emptied_agrees (r : BayRecord) : r.emptied.agrees :=
  ⟨rfl, rfl, fun _ => ⟨rfl, rfl, rfl⟩, nofun, fun _ h => by cases h; rfl, nofun, nofun⟩

theorem BayRecord.cold_agrees : BayRecord.cold.agrees :=
  ⟨rfl, rfl, fun _ => ⟨rfl, rfl, rfl⟩, nofun, fun _ h => by cases h; rfl, nofun, nofun⟩

theorem BayRecord.tick_agrees {r : BayRecord} (h : r.agrees) : r.tick.agrees := by
  obtain ⟨snapshot, index, empty, code, timed, rest⟩ := h
  exact ⟨snapshot, index, empty, code, fun runs k => by simpa [BayRecord.tick, countDown] using timed runs k, rest⟩

theorem State.mapTo_bay (s : State) (b c : Bay) (new : BayState) (timer : Option Nat) :
    (s.mapTo b new timer).bay c = if b = c then (s.bay b).enter new timer else s.bay c := by
  rw [State.mapTo, State.bay, State.lightNotice_bays]
  exact State.bay_onBay s b c _

theorem State.raise_bay (s : State) (e : Event) (c : Bay) : (s.raise e).bay c = s.bay c := rfl

theorem BayRecord.enter_open (r : BayRecord) {new : BayState} (h : new.closedSwitch = false) (timer : Option Nat) :
    r.enter new timer = r.openIn new timer := by
  simp [BayRecord.enter, BayRecord.openIn, h]

theorem BayRecord.enter_closed (r : BayRecord) {new : BayState} (h : new.closedSwitch = true) (timer : Option Nat) :
    r.enter new timer = r.closedIn new timer := by
  simp [BayRecord.enter, BayRecord.closedIn, h]

theorem State.mapBay_bay (s : State) (b c : Bay) :
    (s.mapBay b).bay c = if b = c then (s.bay b).acrossRestart else s.bay c := by
  by_cases same : b = c
  · subst same
    rw [if_pos rfl]
    unfold State.mapBay
    split
    all_goals simp only [BayRecord.acrossRestart, *]
    case h_7 => cases timer : (s.bay b).timer <;> simp [*]
    case h_8 => exact (State.mapTo_bay ..).trans (if_pos rfl)
    case h_12 => exact (State.mapTo_bay ..).trans (if_pos rfl)
    case h_9 | h_10 | h_11 => exact (State.mapTo_bay ..).trans (if_pos rfl)
    case h_13 => simp [backoff, *]
  · unfold State.mapBay
    split <;> simp [State.mapTo_bay, State.raise_bay, same]

/-- Over the bays in order, what each step makes of its own bay alone is made of each bay once. -/
theorem State.foldl_each {α : Type} {v : State → Bay → α} {f : State → Bay → State} {g : α → α}
    (h : ∀ t b c, v (f t b) c = if b = c then g (v t b) else v t c) (l : List Bay) (nodup : l.Nodup) (s : State)
    (c : Bay) : v (l.foldl f s) c = if c ∈ l then g (v s c) else v s c := by
  induction l generalizing s with
  | nil => simp
  | cons b l ih =>
    obtain ⟨notIn, nodup⟩ := List.nodup_cons.mp nodup
    rw [List.foldl_cons, ih nodup, h]
    by_cases same : b = c
    · subst same
      simp [notIn]
    · simp [same, Ne.symm same]

theorem allBays_nodup : allBays.Nodup := by decide

@[simp] theorem State.warmFirst_bays (s : State) : s.warmFirst.bays = s.bays := rfl

@[simp] theorem State.rebuilt_bays (s : State) : s.rebuilt.bays = s.bays := rfl

theorem State.warmFirst_bay (s : State) (b : Bay) : s.warmFirst.bay b = s.bay b := rfl

theorem State.rebuilt_bay (s : State) (b : Bay) : s.rebuilt.bay b = s.bay b := rfl

theorem State.rearm_bay (s : State) (b c : Bay) : (s.rearm b).bay c = s.bay c := by
  unfold State.rearm
  split <;> rfl

theorem State.warmAtOnce_bay (s : State) (b : Bay) : s.warmAtOnce.bay b = (s.bay b).acrossRestart := by
  rw [State.warmAtOnce_eq, foldl_keeps (fun t : State => t.bay b) (fun t c => t.rearm_bay c b)]
  rw [State.rebuilt_bay, State.foldl_each State.mapBay_bay allBays allBays_nodup, if_pos (mem_allBays b),
    State.warmFirst_bay]

theorem BayRecord.acrossRestart_agrees {r : BayRecord} (h : r.agrees) : r.acrossRestart.agrees := by
  obtain ⟨snapshot, index, empty, code, timed, settling, reported⟩ := h
  unfold BayRecord.acrossRestart
  split
  all_goals rename_i state
  case h_7 => exact ⟨snapshot, index, empty, code, fun runs k => by simp [state, BayState.timed] at k, settling, reported⟩
  case h_13 =>
    refine ⟨snapshot, index, empty, code, fun runs k => ?_, settling, reported⟩
    simp only [state, BayState.timed, Option.some.injEq] at k
    exact k
  case h_8 =>
    rw [← BayRecord.enter_open r (new := .idleOff) rfl]
    exact BayRecord.enter_agrees nofun index nofun (fun _ _ => code (by simp [state]) (by simp [state]) (by simp [state]))
      (by simp [BayState.timed])
  case h_9 | h_10 | h_11 =>
    rw [← BayRecord.enter_closed r (new := .spinning) rfl]
    refine BayRecord.enter_agrees (fun _ => ?_) index nofun
      (fun _ _ => code (by simp [state]) (by simp [state]) (by simp [state])) (by simp [BayState.timed])
    rw [snapshot, state]
    rfl
  case h_12 =>
    rw [← BayRecord.enter_closed r (new := .standby) rfl]
    refine BayRecord.enter_agrees (fun _ => ?_) index nofun
      (fun _ _ => code (by simp [state]) (by simp [state]) (by simp [state])) (by simp [BayState.timed])
    rw [snapshot, state]
    rfl
  all_goals exact ⟨snapshot, index, empty, code, timed, settling, reported⟩

theorem BayRecord.acrossRestart_quarantinable {r : BayRecord} (h : r.state.quarantinable = true) :
    r.acrossRestart.state.quarantinable = true := by
  unfold BayRecord.acrossRestart
  split <;> simp_all [BayState.quarantinable]

end Sys2Proof.Machine
end

section
/-! SUPPORT. What the effects keep of the bay records and of the quarantine table. -/

namespace Sys2Proof.Machine

variable {s t : State} {b : Bay}

/-- The quarantine table lists a bay in the states of R114 alone. -/
theorem RecordsAgree.listed (h : RecordsAgree s) {e : QuarantineEntry} (he : e ∈ s.quarantine) :
    (s.bay e.bay).state.quarantinable = true := (BayState.quarantinable_iff _).mpr (h.2.2 e he)

theorem RecordsAgree.of_listed (records : ∀ c, (t.bay c).agrees) (nodup : (t.quarantine.map QuarantineEntry.bay).Nodup)
    (listed : ∀ e ∈ t.quarantine, (t.bay e.bay).state.quarantinable = true) : RecordsAgree t :=
  ⟨records, nodup, fun e he => (BayState.quarantinable_iff _).mp (listed e he)⟩

/-- Agreement is about the records and the table. -/
theorem RecordsAgree.congr (h : RecordsAgree s) (bays : t.bays = s.bays) (quarantine : t.quarantine = s.quarantine) :
    RecordsAgree t := by
  unfold RecordsAgree State.bay
  rw [bays, quarantine]
  exact h

/-- Every bay's record changes to one that agrees, and stays where a quarantined bay may be. -/
theorem RecordsAgree.mapped (h : RecordsAgree s) {g : BayRecord → BayRecord} (bays : ∀ c, t.bay c = g (s.bay c))
    (quarantine : t.quarantine = s.quarantine) (agrees : ∀ r, r.agrees → (g r).agrees)
    (listed : ∀ r : BayRecord, r.state.quarantinable = true → (g r).state.quarantinable = true) : RecordsAgree t := by
  refine .of_listed (fun c => bays c ▸ agrees _ (h.1 c)) (quarantine ▸ h.2.1) fun e he => ?_
  rw [bays]
  exact listed _ (h.listed (quarantine ▸ he))

/-- One bay's record changes to one that agrees, and stays where a quarantined bay may be. -/
theorem RecordsAgree.change (h : RecordsAgree s) {r : BayRecord} (bay : ∀ c, t.bay c = if b = c then r else s.bay c)
    (quarantine : t.quarantine = s.quarantine) (agrees : r.agrees)
    (listed : (s.bay b).state.quarantinable = true → r.state.quarantinable = true) : RecordsAgree t := by
  refine .of_listed (fun c => ?_) (quarantine ▸ h.2.1) fun e he => ?_
  · rw [bay]
    split
    · exact agrees
    · exact h.1 c
  · have before := h.listed (quarantine ▸ he)
    rw [bay]
    split
    · rename_i same
      exact listed (same ▸ before)
    · exact before

/-- An entry is made for a bay that stands where a quarantined bay may be and has none. -/
theorem State.quarantineBay_agrees (h : RecordsAgree s) (free : ∀ e ∈ s.quarantine, e.bay ≠ b)
    (state : (s.bay b).state.quarantinable = true) : RecordsAgree (s.quarantineBay b) := by
  let entry : QuarantineEntry := ⟨b, (s.bay b).code, (s.bay b).reason, (s.bay b).failCount, s.time⟩
  have table : (s.quarantineBay b).quarantine = s.quarantine ++ [entry] := rfl
  refine .of_listed h.1 ?_ ?_
  · rw [table, List.map_append, List.nodup_append]
    refine ⟨h.2.1, List.nodup_singleton _, fun x hx y hy => ?_⟩
    obtain ⟨e, he, rfl⟩ := List.mem_map.mp hx
    obtain rfl : y = b := by simpa using hy
    exact free e he
  · intro e he
    rw [table, List.mem_append, List.mem_singleton] at he
    rcases he with he | rfl
    · exact h.listed he
    · exact state

theorem State.isQuarantined_eq_false (s : State) (b : Bay) :
    s.isQuarantined b = false ↔ ∀ e ∈ s.quarantine, e.bay ≠ b := by
  simp [State.isQuarantined]

/-- A bay in a state that no quarantined bay may stand in has no entry. -/
theorem RecordsAgree.free (h : RecordsAgree s) (state : (s.bay b).state.quarantinable = false) :
    s.isQuarantined b = false :=
  (s.isQuarantined_eq_false b).mpr fun e he same => by
    have := h.listed he
    rw [same, state] at this
    cases this

/-- A bay that has no entry can move anywhere. -/
theorem RecordsAgree.change_free (h : RecordsAgree s) {r : BayRecord} (bay : ∀ c, t.bay c = if b = c then r else s.bay c)
    (quarantine : t.quarantine = s.quarantine) (agrees : r.agrees) (free : s.isQuarantined b = false) : RecordsAgree t := by
  refine .of_listed (fun c => ?_) (quarantine ▸ h.2.1) fun e he => ?_
  · rw [bay]
    split
    · exact agrees
    · exact h.1 c
  · have before := h.listed (quarantine ▸ he)
    rw [bay, if_neg (fun same => (s.isQuarantined_eq_false b).mp free e (quarantine ▸ he) same.symm)]
    exact before

/-- The entries of other bays stand. -/
theorem RecordsAgree.unlisted (h : RecordsAgree s) {r : BayRecord} (bay : ∀ c, t.bay c = if b = c then r else s.bay c)
    (quarantine : t.quarantine = s.quarantine.filter (fun e => e.bay != b)) (agrees : r.agrees) : RecordsAgree t := by
  refine .of_listed (fun c => ?_) ?_ fun e he => ?_
  · rw [bay]
    split
    · exact agrees
    · exact h.1 c
  · rw [quarantine]
    exact h.2.1.sublist (List.filter_sublist.map _)
  · rw [quarantine, List.mem_filter] at he
    rw [bay, if_neg (fun same => by simp [same] at he)]
    exact h.listed he.1

/-! ## The moves -/

/-- A bay that may move has the snapshot, the carrier code and the timer of the state it enters. -/
theorem MayMove.enter_agrees {new : BayState} {timer : Option Nat} (may : MayMove s b new timer) (h : (s.bay b).agrees)
    (flag : Bool) : ({ s.bay b with removalPrepared := flag }.enter new timer).agrees := by
  obtain ⟨snapshot, index, -, code, -⟩ := h
  refine BayRecord.enter_agrees (fun closed => snapshot.trans (may.switch closed)) index ?_ (fun n1 n2 => ?_) may.timed
  · have := may.plain
    rintro rfl
    cases this
  · rcases may.code n1 n2 with present | ⟨h1, h2, h3⟩
    · exact present
    · exact code h1 h2 h3

theorem MayMove.move_agrees {new : BayState} {timer : Option Nat} (may : MayMove s b new timer) {u : State} {w : Bool}
    (marked : Marked b (s.removeEntryIf w b) u) (h : RecordsAgree s) (es : List Event) :
    RecordsAgree (u.move b new timer es) := by
  have bay : ∀ c, u.bay c = if b = c then { s.bay b with removalPrepared := (u.bay b).removalPrepared } else s.bay c := by
    simpa [State.bay] using marked.bay
  refine h.change (b := b) (r := (u.bay b).enter new timer) (fun c => ?_) ?_ ?_ ?_
  · rw [State.bay_move, bay c]
    by_cases same : b = c <;> simp [same]
  · rw [State.move_quarantine, marked.quarantine, State.removeEntryIf_quarantine]
  · rw [bay b, if_pos rfl]
    exact may.enter_agrees (h.1 b) _
  · exact may.quarantined

theorem State.grantReached_agrees (g : Grant) (h : RecordsAgree s) : RecordsAgree (s.grantReached g) := by
  obtain ⟨snapshot, index, -, code, -⟩ := h.1 g.bay
  unfold State.grantReached
  split
  · rename_i takes
    unfold State.takesGrant at takes
    unfold State.carryOut
    cases kind : g.kind with
    | powerOn =>
      have state : (s.bay g.bay).state = .queued := by simp [kind] at takes; exact takes.2.1
      refine h.change_free (r := { s.bay g.bay with snapshot := some (s.profileOf g.bay) }.enter .ramping none)
        (fun c => ?_) (by simp [State.powerOnGranted]) ?_ (h.free (by rw [state]; rfl))
      · dsimp only
        rw [State.powerOnGranted, State.bay_move]
        by_cases same : g.bay = c <;> simp [same]
      · exact BayRecord.enter_agrees (fun _ => rfl) index nofun
          (fun _ _ => code (by simp [state]) (by simp [state]) (by simp [state])) (by simp [BayState.timed])
    | wake =>
      have state : (s.bay g.bay).state = .wakeQueued := by simp [kind] at takes; exact takes.2
      refine h.change_free (r := (s.bay g.bay).enter .granted (some s.cfg.admission.grantWindow))
        (fun c => State.bay_move ..) (by simp [State.wakeGranted]) ?_ (h.free (by rw [state]; rfl))
      refine BayRecord.enter_agrees (fun _ => ?_) index nofun
          (fun _ _ => code (by simp [state]) (by simp [state]) (by simp [state])) (by simp [BayState.timed])
      rw [snapshot, state]
      rfl
  · exact h.congr rfl rfl

/-- A selection stores an index, as a bay with a carrier code has one. -/
theorem State.select_agrees (h : RecordsAgree s) (code : (s.bay b).code.isSome = true) : RecordsAgree (s.select b) := by
  obtain ⟨snapshot, -, empty, inService, rest⟩ := h.1 b
  refine h.change (fun c => State.bay_select s b c) (by simp) ⟨snapshot, code.symm, empty, inService, rest⟩ id

/-- A selection for a bay whose carrier code has just been stored. -/
theorem State.coded_agrees (h : RecordsAgree s) (state : (s.bay b).state = .seating) (code : Code) :
    RecordsAgree ((s.onBay b (fun r => { r with code := some code })).select b) := by
  obtain ⟨snapshot, -, -, -, rest⟩ := h.1 b
  refine h.change (b := b) (r := (s.onBay b (fun r => { r with code := some code })).selectedRecord b) (fun c => ?_)
    (by simp) ?_ ?_
  · rw [State.bay_select, State.bay_onBay]
    by_cases same : b = c <;> simp [same]
  · simp only [State.selectedRecord, State.bay_onBay, if_true]
    exact ⟨snapshot, rfl, fun e => by simp [state] at e, fun _ _ _ => rfl, rest⟩
  · simp only [State.selectedRecord, State.bay_onBay, if_true]
    exact id

/-- A bay that has no entry moves to a state that agrees with its record. -/
theorem State.move_agrees_free (h : RecordsAgree s) {new : BayState} {timer : Option Nat} (es : List Event)
    (agrees : ((s.bay b).enter new timer).agrees) (free : s.isQuarantined b = false) :
    RecordsAgree (s.move b new timer es) :=
  h.change_free (fun c => State.bay_move s b c new timer es) (by simp) agrees free

theorem State.checkedOut_agrees (h : RecordsAgree s) (state : (s.bay b).state.checkable = true) (w : Bool) :
    RecordsAgree (((s.removeEntryIf w b).move b .idleOff none []).quarantineBay b) := by
  obtain ⟨-, index, -, code, -⟩ := h.1 b
  have inService : (s.bay b).state.quarantinable = false ∧ (s.bay b).state ≠ .empty ∧ (s.bay b).state ≠ .seating ∧
      (s.bay b).state ≠ .extracting := by
    revert state
    cases (s.bay b).state <;> simp [BayState.checkable, BayState.quarantinable]
  have free := h.free inService.1
  have removed : RecordsAgree (s.removeEntryIf w b) := h.congr (by simp) (by simp)
  have record : (s.removeEntryIf w b).bay b = s.bay b := by simp [State.bay]
  refine State.quarantineBay_agrees (State.move_agrees_free removed [] ?_ ?_) ?_ ?_
  · rw [record]
    exact BayRecord.enter_agrees nofun index nofun (fun _ _ => code inService.2.1 inService.2.2.1 inService.2.2.2)
      (by simp [BayState.timed])
  · simpa [State.isQuarantined] using free
  · simpa [State.isQuarantined] using free
  · rw [State.bay_move, if_pos rfl]
    rfl

theorem Effect.keeps_records {s t : State} (h : Effect s t) (agrees : RecordsAgree s) : RecordsAgree t := by
  cases h with
  | record b r follows =>
    exact agrees.change (fun c => State.bay_putBay s b c r) rfl (follows.agrees (agrees.1 b)) (by rw [follows.state]; exact id)
  | code b code state => exact State.coded_agrees agrees state code
  | select b state =>
    refine State.select_agrees agrees ((agrees.1 b).2.2.2.1 ?_ ?_ ?_) <;> rintro e <;> simp [e] at state
  | settling b state =>
    obtain ⟨snapshot, index, empty, code, -, -, reported⟩ := agrees.1 b
    refine agrees.change (b := b) (r := { s.bay b with timer := some 2000, settling := true })
      (fun c => by simp [State.beginSettling]) (by simp) ⟨snapshot, index, empty, code, fun runs k => ?_, fun _ => state, reported⟩ id
    simp only [state, BayState.timed, Option.some.injEq] at k
    exact k
  | removal b v notEmpty =>
    obtain ⟨snapshot, index, -, rest⟩ := agrees.1 b
    exact agrees.change (fun c => s.setRemoval_bay b c v) (by simp) ⟨snapshot, index, fun e => absurd e notEmpty, rest⟩ id
  | move u b new timer es may marked => exact may.move_agrees marked agrees es
  | spinDown b level state =>
    obtain ⟨snapshot, index, -, code, -⟩ := agrees.1 b
    have armed : RecordsAgree (s.toChan b (fun c => c.armRise level)) := agrees.congr (by simp) (by simp)
    refine State.move_agrees_free armed [] ?_ (armed.free (by rw [State.bay_toChan, state]; rfl))
    rw [State.bay_toChan]
    refine BayRecord.enter_agrees (fun _ => ?_) index nofun
      (fun _ _ => code (by simp [state]) (by simp [state]) (by simp [state])) (by simp [BayState.timed])
    rw [snapshot, state]
    rfl
  | checkedOut b state => exact State.checkedOut_agrees agrees state _
  | unquarantine b =>
    exact agrees.unlisted (b := b) (r := s.bay b) (fun c => by rw [State.unquarantine_bay]; split <;> simp [*])
      (s.unquarantine_quarantine b) (agrees.1 b)
  | queues b time state free =>
    obtain ⟨-, index, -, code, -⟩ := agrees.1 b
    refine RecordsAgree.congr (State.move_agrees_free agrees [] (timer := none) (new := .queued) ?_
      (free.elim id fun faulted => agrees.free (by rw [faulted]; rfl))) (by simp) (by simp)
    refine BayRecord.enter_agrees nofun index nofun (fun _ _ => code ?_ ?_ ?_) (by simp [BayState.timed]) <;>
      rintro e <;> simp [e] at state
  | wakes b time state =>
    obtain ⟨snapshot, index, -, code, -⟩ := agrees.1 b
    refine RecordsAgree.congr (State.move_agrees_free agrees [] (timer := none) (new := .wakeQueued) ?_
      (agrees.free (by rw [state]; rfl))) (by simp) (by simp)
    refine BayRecord.enter_agrees (fun _ => ?_) index nofun
      (fun _ _ => code (by simp [state]) (by simp [state]) (by simp [state])) (by simp [BayState.timed])
    rw [snapshot, state]
    rfl
  | empties b =>
    exact agrees.unlisted (s.enterEmpty_bay b) (s.enterEmpty_quarantine b) (BayRecord.emptied_agrees _)
  | grant b g rest => exact State.grantReached_agrees g (agrees.congr rfl rfl)
  | warm =>
    exact agrees.mapped s.warmAtOnce_bay (by simp) (fun _ => BayRecord.acrossRestart_agrees)
      (fun _ => BayRecord.acrossRestart_quarantinable)
  | cold straps =>
    have settles := s.coldStart_settles straps
    have records : ∀ c, (s.coldStart straps).bay c = .cold := fun c => by
      rw [State.bay, settles.bays]
      simp [State.blocksCold]
    have table : (s.coldStart straps).quarantine = [] := by
      rw [settles.quarantine]
      simp [State.blocksCold]
    exact .of_listed (fun c => records c ▸ BayRecord.cold_agrees) (by simp [table]) (by simp [table])
  | tick => exact agrees.mapped (g := BayRecord.tick) (by simp [State.bay, State.tick]) rfl (fun _ => BayRecord.tick_agrees) (fun _ => id)
  | policy w b => exact agrees.congr (s.setPolicyBay_settles w b).bays (s.setPolicyBay_settles w b).quarantine
  | _ => exact agrees.congr (by simp) (by simp)

end Sys2Proof.Machine
end

section
/-! The statements about what every step keeps, settled: the bay records. -/

namespace Sys2Proof.Machine

/-- Settles O55: every effect keeps the bay records and the quarantine table in agreement with the states. -/
theorem stepKeepsTheBayRecords : Obligations.StepKeepsTheBayRecords := fun _ => step_keeps fun _ _ => Effect.keeps_records

end Sys2Proof.Machine
end

section
/-! SUPPORT. What the effects keep of the channels, the watches and the supply slots. -/

namespace Sys2Proof.Machine

variable {s t : State} {b : Bay}

/-- The watches of a channel are armed in the states of Table 6-1 alone. -/
def WatchesAllowed (c : Channel) (r : BayRecord) : Prop :=
  (c.riseWatch.isSome = true → r.state = .standby ∨ r.state = .wakeQueued ∨ r.state = .granted) ∧
    (c.fallWatch.isSome = true → r.state = .spinning ∧ r.settling = true)

def SlotsAgree (x : Budget) : Prop := ∀ k, (x.slots.get k).present.agrees ∧ (x.slots.get k).good.agrees

theorem WatchesAllowed.disarmed {c : Channel} {r : BayRecord} (rise : c.riseWatch = none) (fall : c.fallWatch = none) :
    WatchesAllowed c r := ⟨fun h => by simp [rise] at h, fun h => by simp [fall] at h⟩

/-- In a state that arms no watch none is armed. -/
theorem WatchesAllowed.unarmed {c : Channel} {r : BayRecord} (h : WatchesAllowed c r) (n1 : r.state ≠ .standby)
    (n2 : r.state ≠ .wakeQueued) (n3 : r.state ≠ .granted) (n4 : r.state ≠ .spinning) :
    c.riseWatch = none ∧ c.fallWatch = none := by
  obtain ⟨rise, fall⟩ := h
  refine ⟨Option.not_isSome_iff_eq_none.mp fun armed => ?_, Option.not_isSome_iff_eq_none.mp fun armed => n4 (fall armed).1⟩
  rcases rise armed with h | h | h
  · exact n1 h
  · exact n2 h
  · exact n3 h

theorem WatchesAllowed.follows {c c' : Channel} {r : BayRecord} (h : WatchesAllowed c r) (follows : c.Follows c') :
    WatchesAllowed c' r := ⟨fun armed => h.1 (follows.rise armed), fun armed => h.2 (follows.fall armed)⟩

theorem ChannelsAgree.intro (channels : ∀ c, (t.chan c).agrees) (watches : ∀ c, WatchesAllowed (t.chan c) (t.bay c))
    (slots : SlotsAgree t.budget) : ChannelsAgree t := ⟨channels, watches, slots⟩

theorem ChannelsAgree.congr (h : ChannelsAgree s) (chans : t.chans = s.chans) (bays : t.bays = s.bays)
    (slots : t.budget.slots = s.budget.slots) : ChannelsAgree t := by
  unfold ChannelsAgree State.chan State.bay
  rw [chans, bays, slots]
  exact h

/-- One bay's channel and record change. -/
theorem ChannelsAgree.change (h : ChannelsAgree s) (chan : ∀ c, b ≠ c → t.chan c = s.chan c)
    (bay : ∀ c, b ≠ c → t.bay c = s.bay c) (slots : t.budget.slots = s.budget.slots)
    (agrees : (t.chan b).agrees) (watches : WatchesAllowed (t.chan b) (t.bay b)) : ChannelsAgree t := by
  refine ⟨fun c => ?_, fun c => ?_, slots ▸ h.2.2⟩
  · by_cases same : b = c
    · exact same ▸ agrees
    · exact chan c same ▸ h.1 c
  · by_cases same : b = c
    · exact same ▸ watches
    · rw [chan c same, bay c same]
      exact h.2.1 c

/-- A bay moves, its channel as it is. -/
theorem ChannelsAgree.moves (h : ChannelsAgree s) {r : BayRecord} (chans : t.chans = s.chans)
    (bay : ∀ c, t.bay c = if b = c then r else s.bay c) (slots : t.budget.slots = s.budget.slots)
    (watches : WatchesAllowed (s.chan b) r) : ChannelsAgree t := by
  have chan : ∀ c, t.chan c = s.chan c := fun c => by rw [State.chan, chans, State.chan]
  refine h.change (b := b) (fun c _ => chan c) (fun c other => by rw [bay, if_neg other]) slots (chan b ▸ h.1 b) ?_
  rw [chan, bay, if_pos rfl]
  exact watches

/-- A channel is replaced by one that follows it. -/
theorem ChannelsAgree.follows (h : ChannelsAgree s) {c : Channel} (follows : (s.chan b).Follows c) :
    ChannelsAgree (s.putChan b c) := by
  refine h.change (b := b) (fun _ other => by simp [other]) (fun _ _ => rfl) rfl ?_ ?_
  · simpa using follows.agrees (h.1 b)
  · simpa using WatchesAllowed.follows (h.2.1 b) follows

theorem ChannelsAgree.unarmed (h : ChannelsAgree s) (n1 : (s.bay b).state ≠ .standby) (n2 : (s.bay b).state ≠ .wakeQueued)
    (n3 : (s.bay b).state ≠ .granted) (n4 : (s.bay b).state ≠ .spinning) :
    (s.chan b).riseWatch = none ∧ (s.chan b).fallWatch = none := WatchesAllowed.unarmed (h.2.1 b) n1 n2 n3 n4

/-! ## The channels across a warm restart (R15, R107) -/

/-- What a warm restart makes of a bay's record and channel. -/
def State.view (s : State) (b : Bay) : BayRecord × Channel := (s.bay b, s.chan b)

/-- The peak reset as a bay is mapped to SPINNING. -/
def mappedView (x : BayRecord × Channel) : BayRecord × Channel :=
  (x.1.acrossRestart, if x.1.state.drawsInrush = true then x.2.peakReset else x.2)

theorem State.chan_lightNotice (s : State) (b c : Bay) : (s.lightNotice b).chan c = s.chan c := rfl

theorem State.chan_raise (s : State) (e : Event) (c : Bay) : (s.raise e).chan c = s.chan c := rfl

theorem State.mapTo_chan (s : State) (b c : Bay) (new : BayState) (timer : Option Nat) :
    (s.mapTo b new timer).chan c = s.chan c := by
  rw [State.mapTo, State.chan_lightNotice, State.chan_onBay]

theorem State.mapBay_chan (s : State) (b c : Bay) : (s.mapBay b).chan c =
    if b = c then (if (s.bay b).state.drawsInrush = true then (s.chan b).peakReset else s.chan b) else s.chan c := by
  unfold State.mapBay
  by_cases same : b = c
  · subst same
    split <;> simp [State.mapTo_chan, State.chan_raise, BayState.drawsInrush, *]
  · split <;> simp [State.mapTo_chan, State.chan_raise, same]

theorem State.mapBay_view (s : State) (b c : Bay) :
    (s.mapBay b).view c = if b = c then mappedView (s.view b) else s.view c := by
  rw [State.view, State.mapBay_bay, State.mapBay_chan]
  split <;> rfl

/-- The rise watch armed in STANDBY (R107). -/
def rearmedView (x : BayRecord × Channel) : BayRecord × Channel :=
  (x.1, if x.1.state = .standby then x.2.armRise x.1.snap.steady else x.2)

theorem State.rearm_view (s : State) (b c : Bay) :
    (s.rearm b).view c = if b = c then rearmedView (s.view b) else s.view c := by
  unfold State.rearm State.view rearmedView
  by_cases same : b = c
  · subst same
    split <;> simp
  · split <;> simp [same]

theorem State.warmFirst_view (s : State) (b : Bay) : s.warmFirst.view b = (s.bay b, (s.chan b).warm) := by
  rw [State.view, State.warmFirst_bay]
  exact congrArg (Prod.mk _) (Table.get_each Channel.warm s.chans b)

theorem State.rebuilt_view (s : State) (b : Bay) : s.rebuilt.view b = s.view b := rfl

theorem State.warmAtOnce_view (s : State) (b : Bay) :
    s.warmAtOnce.view b = rearmedView (mappedView (s.bay b, (s.chan b).warm)) := by
  have member := mem_allBays b
  rw [State.warmAtOnce_eq, State.foldl_each (v := State.view) State.rearm_view allBays allBays_nodup, if_pos member,
    State.rebuilt_view, State.foldl_each (v := State.view) State.mapBay_view allBays allBays_nodup, if_pos member,
    State.warmFirst_view]

theorem Channel.follows_warm (c : Channel) : c.agrees → c.warm.agrees := by
  rintro ⟨e, l, c1, c0, held, seat, one, ramp, trip, -, rest⟩
  have timer : c.warm.seatTimer.isSome = c.seatTimer.isSome := Option.isSome_map
  refine ⟨e, l, c1, c0, held, ?_, ?_, ramp, trip, fun withheld => ?_, rest⟩
  · rw [timer]
    exact seat
  · rw [timer]
    exact one
  · exact beq_iff_eq.mp (show (c.switch == SwitchPos.ramping) = true from withheld)

theorem Channel.agrees_armRise {c : Channel} (h : c.agrees) (level : Nat) : (c.armRise level).agrees := h

theorem mappedView_agrees {x : BayRecord × Channel} (h : x.2.agrees) : (mappedView x).2.agrees := by
  unfold mappedView
  dsimp only
  split
  · exact (Channel.follows_peakReset _).agrees h
  · exact h

theorem rearmedView_agrees {x : BayRecord × Channel} (h : x.2.agrees) : (rearmedView x).2.agrees := by
  unfold rearmedView
  dsimp only
  split
  · exact Channel.agrees_armRise h _
  · exact h

theorem Channel.warm_watches (c : Channel) : c.warm.riseWatch = none ∧ c.warm.fallWatch = none := ⟨rfl, rfl⟩

theorem rearmedView_watches {x : BayRecord × Channel} (rise : x.2.riseWatch = none) (fall : x.2.fallWatch = none) :
    WatchesAllowed (rearmedView x).2 (rearmedView x).1 := by
  unfold rearmedView
  dsimp only
  split
  · rename_i standby
    exact ⟨fun _ => .inl standby, fun h => by simp [fall] at h⟩
  · exact WatchesAllowed.disarmed rise fall

theorem mappedView_watches {x : BayRecord × Channel} (rise : x.2.riseWatch = none) (fall : x.2.fallWatch = none) :
    (mappedView x).2.riseWatch = none ∧ (mappedView x).2.fallWatch = none := by
  unfold mappedView
  dsimp only
  split <;> exact ⟨rise, fall⟩

theorem State.of_view {x : BayRecord × Channel} (h : s.view b = x) : s.bay b = x.1 ∧ s.chan b = x.2 := by
  subst h
  exact ⟨rfl, rfl⟩

theorem State.rebuilt_slots (s : State) : s.rebuilt.budget.slots = s.budget.slots := rfl

theorem State.warmAtOnce_slots (s : State) : s.warmAtOnce.budget.slots = s.budget.slots := by
  rw [State.warmAtOnce_eq, foldl_keeps State.budget (fun t c => t.rearm_budget c), State.rebuilt_slots,
    foldl_keeps State.budget (fun t c => t.mapBay_budget c)]
  rfl

theorem State.warmAtOnce_channels (h : ChannelsAgree s) : ChannelsAgree s.warmAtOnce := by
  have view := fun c => State.of_view (s.warmAtOnce_view c)
  refine .intro (fun c => ?_) (fun c => ?_) ?_
  · rw [(view c).2]
    exact rearmedView_agrees (mappedView_agrees (Channel.follows_warm _ (h.1 c)))
  · rw [(view c).1, (view c).2]
    have unarmed := mappedView_watches (x := (s.bay c, (s.chan c).warm)) rfl rfl
    exact rearmedView_watches unarmed.1 unarmed.2
  · unfold SlotsAgree
    rw [s.warmAtOnce_slots]
    exact h.2.2

/-! ## The effects -/

theorem SlotLines.tick_agrees {l : SlotLines} (h : l.present.agrees ∧ l.good.agrees) :
    l.tick.present.agrees ∧ l.tick.good.agrees := ⟨FilteredLine.agrees_tick h.1, FilteredLine.agrees_tick h.2⟩

theorem Channel.tick_agrees {c : Channel} (h : c.agrees) : c.tick.agrees := by
  obtain ⟨e, l, c1, c0, held, seat, one, ramp, trip, withheld, low, high, stretch⟩ := h
  refine ⟨FilteredLine.agrees_tick e, FilteredLine.agrees_tick l, FilteredLine.agrees_tick c1, FilteredLine.agrees_tick c0,
    held, ?_, ?_, ?_, trip, withheld, low, high, ?_⟩
  · rw [show c.tick.seatTimer.isSome = c.seatTimer.isSome from Option.isSome_map]
    exact seat
  · rw [show c.tick.seatTimer.isSome = c.seatTimer.isSome from Option.isSome_map]
    exact one
  · simpa [Channel.tick, countDown] using ramp
  · simpa [Channel.tick, countDown] using stretch

theorem Channel.cold_agrees (e l c1 c0 : Bool) : (Channel.cold e l c1 c0).agrees :=
  ⟨FilteredLine.agrees_cold 5 e, FilteredLine.agrees_cold 5 l, FilteredLine.agrees_cold 5 c1,
    FilteredLine.agrees_cold 5 c0, rfl, rfl, rfl, rfl, rfl, nofun, Nat.le_refl _, Nat.zero_le _, rfl⟩

/-- The slots change alone. -/
theorem ChannelsAgree.slots (h : ChannelsAgree s) (k : Slot) {l : SlotLines}
    (present : (s.budget.slots.get k).present.agrees → l.present.agrees)
    (good : (s.budget.slots.get k).good.agrees → l.good.agrees) : ChannelsAgree (s.putSlot k l) :=
  ⟨h.1, h.2.1, Table.put_all (P := fun l : SlotLines => l.present.agrees ∧ l.good.agrees) h.2.2
    ⟨present (h.2.2 k).1, good (h.2.2 k).2⟩⟩

theorem Settles.channels {s t : State} (settles : Settles s t) (h : ChannelsAgree s) : ChannelsAgree t :=
  h.congr settles.chans settles.bays settles.slots

theorem State.grantReached_channels (g : Grant) (h : ChannelsAgree s) : ChannelsAgree (s.grantReached g) := by
  unfold State.grantReached
  split
  · rename_i takes
    unfold State.takesGrant at takes
    unfold State.carryOut
    cases kind : g.kind with
    | powerOn =>
      have state : (s.bay g.bay).state = .queued := by simp [kind] at takes; exact takes.2.1
      have unarmed := h.unarmed (b := g.bay) (by simp [state]) (by simp [state]) (by simp [state]) (by simp [state])
      have closes := Channel.follows_closeSwitch (s.chan g.bay) (s.profileOf g.bay).trip
      have closed : ChannelsAgree (s.putChan g.bay ((s.chan g.bay).closeSwitch (s.profileOf g.bay).trip)) := h.follows closes
      refine closed.moves (b := g.bay) (r := { s.bay g.bay with snapshot := some (s.profileOf g.bay) }.enter .ramping none)
        ?_ (fun c => ?_) ?_ (WatchesAllowed.follows (WatchesAllowed.disarmed unarmed.1 unarmed.2) ?_)
      · simp [State.powerOnGranted, State.toChan]
      · dsimp only
        rw [State.powerOnGranted, State.bay_move]
        by_cases same : g.bay = c <;> simp [same]
      · exact (State.move_acts _ g.bay .ramping none []).slots
      · simpa using closes
    | wake =>
      have state : (s.bay g.bay).state = .wakeQueued := by simp [kind] at takes; exact takes.2
      refine h.moves (b := g.bay) (r := (s.bay g.bay).enter .granted (some s.cfg.admission.grantWindow))
        (by simp [State.wakeGranted]) (fun c => State.bay_move ..) (State.move_acts s g.bay .granted _ _).slots ?_
      exact ⟨fun _ => .inr (.inr rfl), fun armed => by
        have := ((h.2.1 g.bay).2 armed).1
        rw [state] at this
        cases this⟩
  · exact h.congr rfl rfl rfl

theorem MayMove.channels {new : BayState} {timer : Option Nat} (may : MayMove s b new timer) {u : State} {w : Bool}
    (marked : Marked b (s.removeEntryIf w b) u) (h : ChannelsAgree s) (es : List Event) :
    ChannelsAgree (u.move b new timer es) := by
  have chans : u.chans = s.chans := by rw [marked.chans, State.removeEntryIf_chans]
  refine h.moves (b := b) (r := (u.bay b).enter new timer) ?_ (fun c => ?_) ?_ ?_
  · rw [State.move_chans, chans]
  · rw [State.bay_move]
    by_cases same : b = c
    · rw [if_pos same, if_pos same]
    · rw [if_neg same, if_neg same, marked.bay, if_neg same]
      simp [State.bay]
  · have slots := (s.removeEntryIf_acts b w).slots
    rw [(State.move_acts u b new timer es).slots, ← slots]
    cases marked <;> rfl
  · exact ⟨fun armed => .inl (may.rise armed ((h.2.1 b).1 armed)),
      fun armed => absurd ((h.2.1 b).2 armed).1 (may.fall armed)⟩

theorem State.clearConds_acts (b : Bay) (l : List (Fin 9)) (s : State) :
    ActsOnBay b s (l.foldl (fun t k => t.setCond b k false) s) := by
  induction l generalizing s with
  | nil => exact .refl s b
  | cons k l ih => exact (s.setCond_acts b k false).trans (ih _)

theorem State.enterEmpty_acts (s : State) (b : Bay) : ActsOnBay b s (s.enterEmpty b) := by
  unfold State.enterEmpty
  dsimp only
  refine ActsOnBay.trans (ActsOnBay.trans ?_ (State.clearConds_acts b clearedAtEmpty _)) (State.discardReport_acts _ b)
  exact ((State.move_acts s b .empty none _).trans (State.onBay_acts _ b _)).trans (State.unquarantine_acts _ b)

theorem State.sensorResult_slots (s : State) (k : Sensor) (result : Option Int) :
    (s.sensorResult k result).budget.slots = s.budget.slots := by
  unfold State.sensorResult
  dsimp only
  split
  · simp
  · rw [(State.reviewZones_settles _ _).slots]
    simp

theorem State.fansJudged_budget (s : State) : s.fansJudged.budget = s.budget := by
  rw [State.fansJudged, State.putCooling_budget]
  exact foldl_keeps State.budget (fun t f => t.checkFan_budget f) allFans s

theorem State.checkEnds_slots (s : State) : s.checkEnds.budget.slots = s.budget.slots := by
  obtain ⟨t, settles, ends⟩ := s.checkEnds_settles
  rw [ends, State.holdEnds, State.trigger_budget, State.putArbiter_budget, settles.slots, State.fansJudged_budget]

theorem State.writeFan_slots (s : State) (f : Fan) (x : FanSettings) :
    (s.writeFan f x).budget.slots = s.budget.slots := by
  unfold State.writeFan
  dsimp only
  split <;> split
  · rfl
  · rw [(State.fanNotice_settles _ f).slots]
    rfl
  · rw [(State.retarget_settles _ false _).slots]
    rfl
  · rw [(State.retarget_settles _ false _).slots, (State.fanNotice_settles _ f).slots]
    rfl

theorem State.viewed_slots (s : State) : s.viewed.budget.slots = s.budget.slots := rfl

theorem Effect.keeps_channels {s t : State} (h : Effect s t) (agrees : ChannelsAgree s) : ChannelsAgree t := by
  cases h with
  | chan b c follows => exact agrees.follows follows
  | activity b c follows =>
    unfold State.activityTo
    split
    · exact agrees.follows follows
    · exact (agrees.follows follows).congr rfl rfl rfl
  | record b r follows =>
    refine agrees.moves rfl (fun c => State.bay_putBay s b c r) rfl ?_
    rw [WatchesAllowed, follows.state, follows.settling]
    exact agrees.2.1 b
  | code b code state =>
    refine agrees.moves (b := b) (r := (s.onBay b (fun r => { r with code := some code })).selectedRecord b) (by simp)
      (fun c => ?_) (by simp) ?_
    · rw [State.bay_select, State.bay_onBay]
      by_cases same : b = c <;> simp [same]
    · simpa [WatchesAllowed, State.selectedRecord] using agrees.2.1 b
  | select b state =>
    exact agrees.moves (by simp) (fun c => State.bay_select s b c) (by simp) (agrees.2.1 b)
  | settling b state =>
    refine agrees.change (b := b) (fun c other => by simp [State.beginSettling, other])
      (fun c other => by simp [State.beginSettling, other]) rfl ?_ ?_
    · simpa [State.beginSettling] using (show ((s.chan b).armFall _).agrees from agrees.1 b)
    · simp only [State.beginSettling, State.chan_onBay, State.chan_toChan, State.bay_onBay, if_true]
      exact ⟨(agrees.2.1 b).1, fun _ => ⟨state, rfl⟩⟩
  | removal b v =>
    exact agrees.moves (by simp) (fun c => s.setRemoval_bay b c v) (by simp) (agrees.2.1 b)
  | move u b new timer es may marked => exact may.channels marked agrees es
  | spinDown b level state =>
    have watches := agrees.2.1 b
    refine agrees.change (b := b) (fun c other => ?_) (fun c other => ?_)
      (State.move_acts _ b .standby none []).slots ?_ ?_
    · exact ((State.move_acts _ b .standby none []).chans c (Ne.symm other)).trans (by simp [other])
    · rw [State.bay_move, if_neg other, State.bay_toChan]
    · rw [State.chan, State.move_chans]
      simpa using (show ((s.chan b).armRise level).agrees from agrees.1 b)
    · rw [State.chan, State.move_chans, State.bay_move, if_pos rfl]
      refine ⟨fun _ => .inl rfl, fun armed => ?_⟩
      have spinning := (watches.2 (by simpa using armed)).1
      rw [state] at spinning
      cases spinning
  | checkedOut b state =>
    have unarmed := agrees.unarmed (b := b) (by rintro e; simp [e, BayState.checkable] at state)
      (by rintro e; simp [e, BayState.checkable] at state) (by rintro e; simp [e, BayState.checkable] at state)
      (by rintro e; simp [e, BayState.checkable] at state)
    refine agrees.moves (b := b) (r := (s.bay b).enter .idleOff none) (by simp) (fun c => ?_) ?_
      (WatchesAllowed.disarmed unarmed.1 unarmed.2)
    · rw [State.bay, State.quarantineBay_bays]
      refine (State.bay_move _ b c .idleOff none []).trans ?_
      simp [State.bay]
    · rw [(State.quarantineBay_acts _ b).slots, (State.move_acts _ b .idleOff none []).slots,
        (State.removeEntryIf_acts s b _).slots]
  | unquarantine b => exact agrees.congr (by simp) (by simp) (s.unquarantine_acts b).slots
  | queues b time state =>
    have unarmed := agrees.unarmed (b := b) (by rintro e; simp [e] at state) (by rintro e; simp [e] at state)
      (by rintro e; simp [e] at state) (by rintro e; simp [e] at state)
    have moved : ChannelsAgree (s.move b .queued none []) :=
      agrees.moves (by simp) (fun c => State.bay_move s b c .queued none []) (s.move_acts b .queued none []).slots
        (WatchesAllowed.disarmed unarmed.1 unarmed.2)
    exact moved.congr (by simp) (by simp) (by simp)
  | wakes b time state =>
    have watches := agrees.2.1 b
    have moved : ChannelsAgree (s.move b .wakeQueued none []) := by
      refine agrees.moves (by simp) (fun c => State.bay_move s b c .wakeQueued none [])
        (s.move_acts b .wakeQueued none []).slots ⟨fun _ => .inr (.inl rfl), fun armed => ?_⟩
      have spinning := (watches.2 armed).1
      rw [state] at spinning
      cases spinning
    exact moved.congr (by simp) (by simp) (by simp)
  | empties b state =>
    have unarmed := agrees.unarmed (b := b) (by rintro e; simp [e] at state) (by rintro e; simp [e] at state)
      (by rintro e; simp [e] at state) (by rintro e; simp [e] at state)
    refine agrees.moves (by simp) (s.enterEmpty_bay b) ?_ (WatchesAllowed.disarmed unarmed.1 unarmed.2)
    exact (s.enterEmpty_acts b).slots
  | grant b g rest => exact State.grantReached_channels g (agrees.congr rfl rfl rfl)
  | decline b d rest => exact agrees.congr (by simp) (by simp) (by simp)
  | stagger => exact (State.trigger_settles _).channels (agrees.congr rfl rfl rfl)
  | trigger => exact s.trigger_settles.channels agrees
  | slot k l present good => exact agrees.slots k present good
  | slotChange k l present good => exact (State.recomputeForSlot_settles _ k).channels (agrees.slots k present good)
  | supply x => exact (State.recompute_settles _).channels (agrees.congr rfl rfl rfl)
  | fanMoves f r e =>
    have moved : ChannelsAgree ((s.putFan f r).raise e) := agrees.congr rfl rfl rfl
    exact (State.retarget_settles _ false _).channels ((State.fanNotice_settles _ f).channels moved)
  | sensor k result => exact agrees.congr (by simp) (by simp) (s.sensorResult_slots k result)
  | reports reports zs => exact (State.reviewZones_settles _ zs).channels (agrees.congr rfl rfl rfl)
  | evaluation => exact (State.retargetAll_settles _ true).channels (agrees.congr rfl rfl rfl)
  | checkEnds => exact agrees.congr (by simp) (by simp) s.checkEnds_slots
  | airCurve z c => exact (State.retarget_settles _ false z).channels (agrees.congr rfl rfl rfl)
  | common c => exact (State.reviewZones_settles _ allZones).channels (agrees.congr rfl rfl rfl)
  | fanSettings f x => exact agrees.congr (by simp) (by simp) (s.writeFan_slots f x)
  | policy w b => exact (s.setPolicyBay_settles w b).channels (agrees.congr rfl rfl rfl)
  | warm => exact State.warmAtOnce_channels agrees
  | reload x =>
    refine agrees.congr (by simp) (by simp) ?_
    rw [State.reloadedCooling, (State.budgetReloaded_settles _).slots, State.viewed_slots, State.reloadedFans_eq]
    simp
  | judge z => exact (s.judgeZone_settles z).channels agrees
  | cold straps =>
    have settles := s.coldStart_settles straps
    refine .intro (fun c => ?_) (fun c => ?_) (fun k => ?_)
    · rw [State.chan, settles.chans, State.raiseAll_chans, State.blocksCold, Table.get_each]
      exact Channel.cold_agrees ..
    · rw [State.chan, settles.chans, State.raiseAll_chans, State.blocksCold, Table.get_each]
      exact WatchesAllowed.disarmed rfl rfl
    · rw [settles.slots, State.raiseAll_budget, State.blocksCold, Budget.cold, Table.get_each]
      exact ⟨FilteredLine.agrees_cold 10 _, FilteredLine.agrees_cold 10 _⟩
  | tick =>
    refine .intro (fun c => ?_) (fun c => ?_) (fun k => ?_)
    · rw [State.chan, State.tick, Table.get_each]
      exact Channel.tick_agrees (agrees.1 c)
    · rw [State.chan, State.bay, State.tick, Table.get_each, Table.get_each]
      exact agrees.2.1 c
    · rw [State.tick, Table.get_each]
      exact SlotLines.tick_agrees (agrees.2.2 k)
  | _ => exact agrees.congr (by simp) (by simp) (by simp)

end Sys2Proof.Machine
end

section
/-! The statements about what every step keeps, settled: the channels. -/

namespace Sys2Proof.Machine

/-- Settles O56: every effect keeps the channels, the watches and the supply slots in agreement. -/
theorem stepKeepsTheChannels : Obligations.StepKeepsTheChannels := fun _ => step_keeps fun _ _ => Effect.keeps_channels

end Sys2Proof.Machine
end

section
/-! SUPPORT. What the effects keep of the lights. -/

namespace Sys2Proof.Machine

variable {s t : State} {b : Bay}

/-- The lights of a bay agree with its record, its quarantine entry and the source of its ACT light. -/
def BayLights.agrees (l : BayLights) (r : BayRecord) (listed act : Bool) : Prop :=
  l.conditions.get condRemoveOk = r.removalPrepared ∧ l.conditions.get condSpinWait = r.state.spinWaits ∧
    l.conditions.get condQuarantined = listed ∧ l.lact = act

/-- The lights of one bay of a state agree. -/
def State.lit (s : State) (b : Bay) : Prop := (s.bayLights b).agrees (s.bay b) (s.isQuarantined b) (s.actLevel b)

theorem LightsAgree.intro (lit : ∀ b, s.lit b) (mask : s.lights.mask ≤ 6) : LightsAgree s := ⟨lit, mask⟩

theorem LightsAgree.lit (h : LightsAgree s) (b : Bay) : s.lit b := h.1 b

/-- The level of an ACT light follows the bay's state, its activity level and the phase. -/
theorem State.actLevel_congr {c : Bay} (state : (t.bay c).state = (s.bay c).state)
    (activity : (t.chan c).activity = (s.chan c).activity) (phase : t.lights.phase = s.lights.phase) :
    t.actLevel c = s.actLevel c := by
  simp only [State.actLevel, state, activity, phase, Settings.pattern]
  rfl

theorem State.isQuarantined_congr (c : Bay) (h : t.quarantine = s.quarantine) : t.isQuarantined c = s.isQuarantined c := by
  rw [State.isQuarantined, State.isQuarantined, h]

theorem State.lit_congr {c : Bay} (lights : t.bayLights c = s.bayLights c) (bay : t.bay c = s.bay c)
    (listed : t.isQuarantined c = s.isQuarantined c) (activity : (t.chan c).activity = (s.chan c).activity)
    (phase : t.lights.phase = s.lights.phase) (h : s.lit c) : t.lit c := by
  rw [State.lit, lights, bay, listed, State.actLevel_congr (by rw [bay]) activity phase]
  exact h

/-- A command that acts on one bay leaves the quarantine entries of the others. -/
theorem ActsOnBay.listed {c : Bay} (acts : ActsOnBay b s t) (other : c ≠ b) : t.isQuarantined c = s.isQuarantined c := by
  have filtered : ∀ q : List QuarantineEntry,
      q.any (fun e => e.bay == c) = (q.filter (fun e => e.bay != b)).any (fun e => e.bay == c) := fun q => by
    rw [List.any_filter]
    refine List.any_congr rfl fun e => ?_
    by_cases same : e.bay = c
    · simp [same, other]
    · simp [same]
  rw [State.isQuarantined, State.isQuarantined, filtered, acts.quarantine, ← filtered]

/-- What acts on one bay leaves the lights in agreement where that bay's are. -/
theorem ActsOnBay.lights_agree (acts : ActsOnBay b s t) (h : LightsAgree s) (own : t.lit b) : LightsAgree t := by
  refine .intro (fun c => ?_) (acts.mask ▸ h.2)
  by_cases same : c = b
  · exact same ▸ own
  · exact State.lit_congr (acts.lights c same) (acts.bays c same) (acts.listed same)
      (by rw [acts.chans c same]) acts.phase (h.lit c)

theorem LightsAgree.congr (h : LightsAgree s) (lights : t.lights = s.lights) (bays : t.bays = s.bays)
    (quarantine : t.quarantine = s.quarantine) (chans : t.chans = s.chans) : LightsAgree t := by
  refine .intro (fun c => ?_) (lights ▸ h.2)
  exact State.lit_congr (by rw [State.bayLights, lights, State.bayLights]) (by rw [State.bay, bays, State.bay])
    (State.isQuarantined_congr c quarantine) (by rw [State.chan, chans, State.chan]) (by rw [lights]) (h.lit c)

theorem Settles.lights_agree (settles : Settles s t) (h : LightsAgree s) : LightsAgree t :=
  h.congr settles.lights settles.bays settles.quarantine settles.chans

/-- A record that keeps its state and flag leaves the lights in agreement. -/
theorem LightsAgree.record (h : LightsAgree s) {r : BayRecord} (bay : ∀ c, t.bay c = if b = c then r else s.bay c)
    (state : r.state = (s.bay b).state) (flag : r.removalPrepared = (s.bay b).removalPrepared)
    (lights : t.lights = s.lights) (quarantine : t.quarantine = s.quarantine)
    (activity : ∀ c, (t.chan c).activity = (s.chan c).activity) : LightsAgree t := by
  have states : ∀ c, (t.bay c).state = (s.bay c).state ∧ (t.bay c).removalPrepared = (s.bay c).removalPrepared := fun c => by
    rw [bay]
    split
    · rename_i same
      exact same ▸ ⟨state, flag⟩
    · exact ⟨rfl, rfl⟩
  refine .intro (fun c => ?_) (lights ▸ h.2)
  obtain ⟨remove, wait, listed, act⟩ := h.lit c
  rw [State.lit, State.bayLights, lights, State.isQuarantined_congr c quarantine,
    State.actLevel_congr (states c).1 (activity c) (by rw [lights])]
  exact ⟨remove.trans (states c).2.symm, wait.trans (by rw [(states c).1]), listed, act⟩

/-- A bay's move keeps its lights in agreement where its flag, REMOVE_OK and QUARANTINED agree. -/
theorem State.move_lights_agree (h : LightsAgree s) (new : BayState) (timer : Option Nat) (es : List Event) :
    LightsAgree (s.move b new timer es) := by
  obtain ⟨bay, -, acts, keeps, notified, -⟩ := s.move_facts b new timer es
  obtain ⟨remove, -, listed, -⟩ := h.lit b
  refine acts.lights_agree h ⟨?_, notified.spinWait, ?_, notified.actLight⟩
  · rw [keeps.conditions _ (by decide), bay, remove]
    rfl
  · rw [keeps.conditions _ (by decide), listed]
    exact (State.isQuarantined_congr b keeps.quarantine).symm

theorem State.bayLights_setCond (s : State) (b c : Bay) (k : Fin 9) (v : Bool) : (s.setCond b k v).bayLights c =
    if b = c then { s.bayLights b with conditions := Table.put (s.bayLights b).conditions k v } else s.bayLights c := by
  simp [State.setCond, State.putBayLights, State.bayLights]

/-- A condition of host origin, or the latch, is none of those that follow the bays. -/
theorem State.setCond_lights_agree (h : LightsAgree s) {k : Fin 9} (n1 : k ≠ condRemoveOk) (n2 : k ≠ condSpinWait)
    (n3 : k ≠ condQuarantined) (v : Bool) : LightsAgree (s.setCond b k v) := by
  obtain ⟨remove, wait, listed, act⟩ := h.lit b
  refine (s.setCond_acts b k v).lights_agree h ?_
  rw [State.lit, State.bayLights_setCond, if_pos rfl]
  refine ⟨?_, ?_, ?_, act⟩
  · exact (Table.get_put_ne _ n1 v).trans remove
  · exact (Table.get_put_ne _ n2 v).trans wait
  · exact (Table.get_put_ne _ n3 v).trans listed

theorem State.setRemoval_acts (s : State) (b : Bay) (v : Bool) : ActsOnBay b s (s.setRemoval b v) :=
  (s.onBay_acts b _).trans (State.setCond_acts _ b _ v)

theorem State.setRemoval_lights_agree (h : LightsAgree s) (v : Bool) : LightsAgree (s.setRemoval b v) := by
  obtain ⟨-, wait, listed, act⟩ := h.lit b
  refine (s.setRemoval_acts b v).lights_agree h ?_
  rw [State.lit, State.setRemoval_bay, if_pos rfl, State.setRemoval, State.bayLights_setCond, if_pos rfl]
  refine ⟨Table.get_put_self .., ?_, ?_, ?_⟩
  · exact (Table.get_put_ne _ (by decide) v).trans wait
  · exact (Table.get_put_ne _ (by decide) v).trans listed
  · have stands := State.actLevel_congr (t := (s.onBay b (fun r => { r with removalPrepared := v })).setCond b condRemoveOk v)
      (s := s) (c := b) (by rw [State.bay_setCond, State.bay_onBay, if_pos rfl]) rfl rfl
    exact act.trans stands.symm

theorem State.quarantineBay_lights_agree (h : LightsAgree s) : LightsAgree (s.quarantineBay b) := by
  obtain ⟨remove, wait, -, act⟩ := h.lit b
  have lights : (s.quarantineBay b).bayLights b =
      { s.bayLights b with conditions := Table.put (s.bayLights b).conditions condQuarantined true } := by
    simp [State.quarantineBay, State.bayLights]
  refine (s.quarantineBay_acts b).lights_agree h ?_
  rw [State.lit, lights]
  refine ⟨?_, ?_, ?_, act⟩
  · exact (Table.get_put_ne _ (by decide) true).trans remove
  · exact (Table.get_put_ne _ (by decide) true).trans wait
  · rw [Table.get_put_self]
    simp [State.isQuarantined, State.quarantineBay]

theorem State.unquarantine_lights_agree (h : LightsAgree s) : LightsAgree (s.unquarantine b) := by
  have gone : (s.unquarantine b).isQuarantined b = false := by
    rw [State.isQuarantined_eq_false, State.unquarantine_quarantine]
    simp
  refine (s.unquarantine_acts b).lights_agree h ?_
  obtain ⟨remove, wait, listed, act⟩ := h.lit b
  rw [State.lit, gone, State.unquarantine_bay]
  unfold State.unquarantine at gone ⊢
  split
  · rw [State.bayLights_setCond, if_pos rfl]
    refine ⟨?_, ?_, Table.get_put_self .., act⟩
    · exact (Table.get_put_ne _ (by decide) false).trans remove
    · exact (Table.get_put_ne _ (by decide) false).trans wait
  · exact ⟨remove, wait, listed.trans (Bool.eq_false_of_not_eq_true ‹_›), act⟩

/-! ## Entry to EMPTY, and the warm restart -/

theorem State.clearConds_get (b : Bay) (l : List (Fin 9)) (s : State) (k : Fin 9) :
    ((l.foldl (fun t c => t.setCond b c false) s).bayLights b).conditions.get k =
      if k ∈ l then false else ((s.bayLights b).conditions.get k) := by
  induction l generalizing s with
  | nil => simp
  | cons c l ih =>
    rw [List.foldl_cons, ih, State.bayLights_setCond, if_pos rfl]
    by_cases same : c = k
    · simp [same]
    · simp [same, Ne.symm same]

theorem State.clearConds_lact (b : Bay) (l : List (Fin 9)) (s : State) :
    ((l.foldl (fun t c => t.setCond b c false) s).bayLights b).lact = (s.bayLights b).lact :=
  foldl_keeps (fun t : State => (t.bayLights b).lact) (fun t c => by simp [State.bayLights_setCond]) l s

/-- A bay that has entered EMPTY, before its conditions are cleared (R37). -/
def State.emptying (s : State) (b : Bay) : State :=
  ((s.move b .empty none (removedEvents (s.bay b) b)).onBay b (fun r =>
    { r with code := none, profileIndex := none, failCount := 0, removalPrepared := false })).unquarantine b

theorem State.enterEmpty_eq (s : State) (b : Bay) : s.enterEmpty b =
    (clearedAtEmpty.foldl (fun t c => t.setCond b c false) (s.emptying b)).discardReport b := rfl

theorem State.enterEmpty_bayLights (s : State) (b : Bay) : (s.enterEmpty b).bayLights b =
    (clearedAtEmpty.foldl (fun t c => t.setCond b c false) (s.emptying b)).bayLights b := by
  rw [State.enterEmpty_eq, State.bayLights, State.discardReport_lights, State.bayLights]

theorem State.unquarantine_get (s : State) (b : Bay) (k : Fin 9) :
    ((s.unquarantine b).bayLights b).conditions.get k =
      if k = condQuarantined ∧ s.isQuarantined b = true then false else (s.bayLights b).conditions.get k := by
  unfold State.unquarantine
  split
  · rename_i listed
    rw [State.bayLights_setCond, if_pos rfl, Table.get_put]
    by_cases same : condQuarantined = k
    · simp [same, listed]
    · simp [same, Ne.symm same]
  · rename_i free
    rw [if_neg (fun h => free h.2)]

theorem State.enterEmpty_lights_agree (h : LightsAgree s) : LightsAgree (s.enterEmpty b) := by
  let m := s.move b .empty none (removedEvents (s.bay b) b)
  let u := m.onBay b (fun r => { r with code := none, profileIndex := none, failCount := 0, removalPrepared := false })
  have moved : LightsAgree m := State.move_lights_agree h .empty none _
  obtain ⟨-, wait, listed, act⟩ := moved.lit b
  have state : (m.bay b).state = .empty := by
    rw [State.bay_move, if_pos rfl]
    rfl
  have get : ∀ k, ((s.enterEmpty b).bayLights b).conditions.get k = if k ∈ clearedAtEmpty then false
      else if k = condQuarantined ∧ m.isQuarantined b = true then false else (m.bayLights b).conditions.get k := fun k => by
    rw [State.enterEmpty_bayLights, State.clearConds_get]
    refine if_congr Iff.rfl rfl ((u.unquarantine_get b k).trans rfl)
  have lact : ((s.enterEmpty b).bayLights b).lact = (m.bayLights b).lact := by
    rw [State.enterEmpty_bayLights, State.clearConds_lact]
    show ((u.unquarantine b).bayLights b).lact = (u.bayLights b).lact
    unfold State.unquarantine
    split
    · simp [State.bayLights_setCond]
    · rfl
  refine (s.enterEmpty_acts b).lights_agree h ⟨?_, ?_, ?_, ?_⟩
  · rw [get, if_pos (by decide), State.enterEmpty_bay, if_pos rfl]
    rfl
  · rw [get, if_neg (by decide), if_neg (fun q => absurd q.1 (by decide)), wait, State.enterEmpty_bay, if_pos rfl, state]
    rfl
  · have gone : (s.enterEmpty b).isQuarantined b = false := by
      rw [State.isQuarantined_eq_false, State.enterEmpty_quarantine]
      simp
    rw [get, if_neg (by decide), gone]
    split
    · rfl
    · rename_i free
      rw [listed]
      exact Bool.eq_false_of_not_eq_true fun q => free ⟨rfl, q⟩
  · rw [lact, act, State.actLevel, State.actLevel, state, State.enterEmpty_bay, if_pos rfl]
    rfl

theorem State.lightNotice_lit (s : State) (b : Bay) (remove : (s.bayLights b).conditions.get condRemoveOk =
    (s.bay b).removalPrepared) (listed : (s.bayLights b).conditions.get condQuarantined = s.isQuarantined b) :
    (s.lightNotice b).lit b := by
  obtain ⟨-, -, others, -, wait, act⟩ := State.lightNotice_facts b s
  exact ⟨(others _ (by decide)).trans remove, wait, (others _ (by decide)).trans listed, act⟩

/-- A mapping to another state tells the light controller alone (R161). -/
theorem State.mapTo_lights_agree (h : LightsAgree s) (new : BayState) (timer : Option Nat) :
    LightsAgree (s.mapTo b new timer) := by
  obtain ⟨remove, -, listed, -⟩ := h.lit b
  refine ((s.onBay_acts b _).trans (State.lightNotice_acts _ b)).lights_agree h (State.lightNotice_lit _ b ?_ ?_)
  · rw [State.bay_onBay, if_pos rfl]
    exact remove
  · exact listed

theorem State.raise_lights_agree (h : LightsAgree s) (e : Event) : LightsAgree (s.raise e) := h.congr rfl rfl rfl rfl

/-- A channel replaced by one of the same activity level changes no light. -/
theorem LightsAgree.channels (h : LightsAgree s) (lights : t.lights = s.lights) (bays : t.bays = s.bays)
    (quarantine : t.quarantine = s.quarantine) (activity : ∀ c, (t.chan c).activity = (s.chan c).activity) :
    LightsAgree t := by
  refine .intro (fun c => ?_) (lights ▸ h.2)
  exact State.lit_congr (by rw [State.bayLights, lights, State.bayLights]) (by rw [State.bay, bays, State.bay])
    (State.isQuarantined_congr c quarantine) (activity c) (by rw [lights]) (h.lit c)

theorem State.putChan_lights_agree (h : LightsAgree s) {c : Channel} (activity : c.activity = (s.chan b).activity) :
    LightsAgree (s.putChan b c) := by
  refine h.channels rfl rfl rfl fun d => ?_
  rw [State.chan_putChan]
  split
  · rename_i same
    exact same ▸ activity
  · rfl

theorem State.timed_lights_agree (h : LightsAgree s) (timer : Option Nat) :
    LightsAgree (s.onBay b (fun r => { r with timer := timer })) :=
  h.record (b := b) (r := { s.bay b with timer := timer }) (fun c => s.bay_onBay b c _) rfl rfl rfl rfl (fun _ => rfl)

/-- A bay mapped to SPINNING, its peak reset (R39). -/
theorem State.mapSpin_lights_agree (h : LightsAgree s) (timer : Option Nat) :
    LightsAgree ((s.toChan b Channel.peakReset).mapTo b .spinning timer) := by
  have reset : LightsAgree (s.putChan b (s.chan b).peakReset) := State.putChan_lights_agree h rfl
  exact State.mapTo_lights_agree reset .spinning timer

theorem State.mapBay_lights_agree (h : LightsAgree s) : LightsAgree (s.mapBay b) := by
  unfold State.mapBay
  cases (s.bay b).state with
  | empty | idleOff | active | standby | poweringDown | extracting => exact h
  | seating => exact State.timed_lights_agree h _
  | faulted => exact State.timed_lights_agree h _
  | queued => exact State.mapTo_lights_agree h _ _
  | ramping | spinning | granted => exact State.mapSpin_lights_agree h _
  | wakeQueued => exact State.raise_lights_agree (State.mapTo_lights_agree h _ _) _

theorem LightsAgree.foldl {α : Type} {f : State → α → State} (keeps : ∀ t a, LightsAgree t → LightsAgree (f t a))
    (l : List α) {s : State} (h : LightsAgree s) : LightsAgree (l.foldl f s) := by
  induction l generalizing s with
  | nil => exact h
  | cons a l ih => exact ih (keeps s a h)

theorem State.rearm_lights_agree (h : LightsAgree s) : LightsAgree (s.rearm b) := by
  unfold State.rearm
  split
  · exact State.putChan_lights_agree h rfl
  · exact h

theorem State.warmFirst_lights_agree (h : LightsAgree s) : LightsAgree s.warmFirst := by
  refine h.channels rfl rfl rfl fun c => ?_
  rw [(State.of_view (s.warmFirst_view c)).2]
  rfl

theorem State.rebuilt_lights_agree (h : LightsAgree s) : LightsAgree s.rebuilt := h.congr rfl rfl rfl rfl

theorem State.warmAtOnce_lights_agree (h : LightsAgree s) : LightsAgree s.warmAtOnce := by
  rw [State.warmAtOnce_eq]
  refine LightsAgree.foldl (fun t c => State.rearm_lights_agree) allBays (State.rebuilt_lights_agree ?_)
  exact LightsAgree.foldl (fun t c => State.mapBay_lights_agree) allBays (State.warmFirst_lights_agree h)

/-! ## The boundary -/

theorem State.foldl_putBayLights_get (s : State) (l : List Bay) (x : Table BayLights 24) (c : Bay) :
    (l.foldl (fun t b => Table.put t b (s.bayAtBoundary b)) x).get c =
      if c ∈ l then s.bayAtBoundary c else x.get c := by
  induction l generalizing x with
  | nil => simp
  | cons b l ih =>
    rw [List.foldl_cons, ih]
    by_cases same : b = c
    · simp [same]
    · simp [same, Ne.symm same]

theorem State.driveLights_bayLights (s : State) (c : Bay) : s.driveLights.bayLights c = s.bayAtBoundary c :=
  (s.foldl_putBayLights_get allBays s.lights.bays c).trans (if_pos (mem_allBays c))

/-! ## The effects -/

/-- A channel's activity level moves, and the ACT light with it (R157). -/
theorem State.activityTo_lights_agree (h : LightsAgree s) (c : Channel) : LightsAgree (s.activityTo b c) := by
  unfold State.activityTo
  split
  · rename_i same
    exact State.putChan_lights_agree h same.symm
  · obtain ⟨remove, wait, listed, -⟩ := h.lit b
    refine ((State.putChan_acts s b c).trans (State.putBayLights_acts _ b _)).lights_agree h ?_
    have own : ((s.putChan b c).driveAct b).bayLights b = { s.bayLights b with lact := (s.putChan b c).actLevel b } := by
      simp [State.bayLights]
    show (((s.putChan b c).driveAct b).bayLights b).agrees _ _ _
    rw [own]
    exact ⟨remove, wait, listed, rfl⟩

theorem Marked.lights_agree {u : State} (marked : Marked b s u) (h : LightsAgree s) : LightsAgree u := by
  cases marked with
  | nothing => exact h
  | fault => exact State.setCond_lights_agree h (by decide) (by decide) (by decide) true
  | removal => exact State.setRemoval_lights_agree h true

theorem State.removeEntryIf_lights_agree (h : LightsAgree s) (w : Bool) : LightsAgree (s.removeEntryIf w b) :=
  h.congr (by simp) (by simp) (by simp) (by simp)

theorem Channel.closeSwitch_activity (c : Channel) (trip : Nat) : (c.closeSwitch trip).activity = c.activity := by
  unfold Channel.closeSwitch
  split
  · split <;> rfl
  · rfl
  · rfl

theorem State.grantReached_lights_agree (h : LightsAgree s) (g : Grant) : LightsAgree (s.grantReached g) := by
  unfold State.grantReached State.carryOut
  split
  · cases g.kind with
    | wake => exact State.move_lights_agree h _ _ _
    | powerOn =>
      have snapped : LightsAgree (s.putBay g.bay { s.bay g.bay with snapshot := some (s.profileOf g.bay) }) :=
        h.record (fun c => State.bay_putBay s g.bay c _) rfl rfl rfl rfl (fun _ => rfl)
      exact State.move_lights_agree (State.putChan_lights_agree (b := g.bay) snapped
        (Channel.closeSwitch_activity (s.chan g.bay) (s.profileOf g.bay).trip)) _ _ _
  · exact h.congr rfl rfl rfl rfl

/-- A selection keeps the state and the flag of the bay. -/
theorem State.select_lights_agree (h : LightsAgree s) : LightsAgree (s.select b) :=
  h.record (fun c => State.bay_select s b c) rfl rfl (by simp) (by simp) (fun c => by simp [State.chan])

theorem State.driveLights_mask (s : State) : s.driveLights.lights.mask = s.lights.mask := by
  rw [State.driveLights, State.putLights_lights]

theorem State.driveLights_phase (s : State) : s.driveLights.lights.phase = s.lights.phase := by
  rw [State.driveLights, State.putLights_lights]

theorem State.driveLights_bay (s : State) (c : Bay) : s.driveLights.bay c = s.bay c := by
  rw [State.bay, State.driveLights, State.putLights_bays, State.bay]

theorem State.driveLights_chan (s : State) (c : Bay) : s.driveLights.chan c = s.chan c := by
  rw [State.chan, State.driveLights, State.putLights_chans, State.chan]

theorem State.driveLights_lit {c : Bay} (remove : (s.bayLights c).conditions.get condRemoveOk = (s.bay c).removalPrepared)
    (wait : (s.bayLights c).conditions.get condSpinWait = (s.bay c).state.spinWaits)
    (listed : (s.bayLights c).conditions.get condQuarantined = s.isQuarantined c) : s.driveLights.lit c := by
  have level : s.driveLights.actLevel c = s.actLevel c :=
    State.actLevel_congr (by rw [s.driveLights_bay]) (by rw [s.driveLights_chan]) s.driveLights_phase
  have table : s.driveLights.isQuarantined c = s.isQuarantined c :=
    State.isQuarantined_congr c (by rw [State.driveLights, State.putLights_quarantine])
  rw [State.lit, s.driveLights_bayLights, s.driveLights_bay, level, table]
  exact ⟨remove, wait, listed, rfl⟩

/-- A boundary drives the ACT lights by the new phase (R155, R157). -/
theorem State.driveLights_agree (h : LightsAgree s) (l : Lights) (bays : l.bays = s.lights.bays)
    (mask : l.mask = s.lights.mask) : LightsAgree (s.putLights l).driveLights := by
  refine .intro (fun c => ?_) (by rw [State.driveLights_mask, State.putLights_lights, mask]; exact h.2)
  have before : (s.putLights l).bayLights c = s.bayLights c := by
    rw [State.bayLights, State.putLights_lights, bays, State.bayLights]
  obtain ⟨remove, wait, listed, -⟩ := h.lit c
  refine State.driveLights_lit ?_ ?_ ?_ <;> rw [before]
  · exact remove
  · exact wait
  · exact listed

theorem State.coldStart_lights_agree (straps : BitVec 3) : LightsAgree (s.coldStart straps) := by
  refine (s.coldStart_settles straps).lights_agree (LightsAgree.congr (s := s.blocksCold straps) ?_ (by simp) (by simp)
    (by simp) (by simp))
  refine .intro (fun c => ?_) (Nat.zero_le _)
  have lights : (s.blocksCold straps).bayLights c = ⟨.replicate 9 false, false, false⟩ := by
    simp [State.blocksCold, State.bayLights, Lights.cold]
  have bay : (s.blocksCold straps).bay c = .cold := by simp [State.blocksCold, State.bay]
  rw [State.lit, lights, State.actLevel, bay]
  simp [BayLights.agrees, State.blocksCold, State.isQuarantined, BayRecord.cold, BayState.spinWaits, BayState.actSource]

/-- A bay's record a millisecond later is in the same state, with the same flag. -/
theorem State.tick_lights_agree (h : LightsAgree s) : LightsAgree s.tick := by
  refine .intro (fun c => ?_) h.2
  have bay : s.tick.bay c = (s.bay c).tick := by simp [State.bay, State.tick]
  have chan : s.tick.chan c = (s.chan c).tick := by simp [State.chan, State.tick]
  obtain ⟨remove, wait, listed, act⟩ := h.lit c
  have level : s.tick.actLevel c = s.actLevel c :=
    State.actLevel_congr (by rw [bay]; rfl) (by rw [chan]; rfl) rfl
  rw [State.lit, bay, level]
  exact ⟨remove, wait, listed, act⟩

theorem Effect.keeps_lights {s t : State} (h : Effect s t) (agrees : LightsAgree s) : LightsAgree t := by
  cases h with
  | chan b c _ activity => exact State.putChan_lights_agree agrees activity
  | activity b c => exact State.activityTo_lights_agree agrees c
  | record b r follows =>
    exact agrees.record (fun c => State.bay_putBay s b c r) follows.state follows.removalPrepared rfl rfl (fun _ => rfl)
  | code b code =>
    have stored : LightsAgree (s.onBay b (fun r => { r with code := some code })) :=
      agrees.record (fun c => State.bay_onBay s b c _) rfl rfl rfl rfl (fun _ => rfl)
    exact State.select_lights_agree stored
  | select b => exact State.select_lights_agree agrees
  | settling b =>
    have armed : LightsAgree (s.putChan b ((s.chan b).armFall (s.bay b).snap.settle)) :=
      State.putChan_lights_agree agrees rfl
    exact armed.record (fun c => State.bay_onBay _ b c _) rfl rfl rfl rfl (fun _ => rfl)
  | cond b c v n1 n2 n3 => exact State.setCond_lights_agree agrees n1 n2 n3 v
  | removal b v => exact State.setRemoval_lights_agree agrees v
  | move u b new timer es may marked =>
    exact State.move_lights_agree (marked.lights_agree (State.removeEntryIf_lights_agree agrees _)) new timer es
  | spinDown b level =>
    have armed : LightsAgree (s.putChan b ((s.chan b).armRise level)) := State.putChan_lights_agree agrees rfl
    exact State.move_lights_agree armed .standby none []
  | checkedOut b =>
    exact State.quarantineBay_lights_agree (State.move_lights_agree (State.removeEntryIf_lights_agree agrees _) _ _ _)
  | unquarantine b => exact State.unquarantine_lights_agree agrees
  | queues b time =>
    exact (State.move_lights_agree agrees (b := b) .queued none []).congr (by simp) (by simp) (by simp) (by simp)
  | wakes b time =>
    exact (State.move_lights_agree agrees (b := b) .wakeQueued none []).congr (by simp) (by simp) (by simp) (by simp)
  | empties b => exact State.enterEmpty_lights_agree agrees
  | grant b g rest =>
    have taken : LightsAgree (s.putArbiter { s.arbiter with grants := rest }) := agrees.congr rfl rfl rfl rfl
    exact State.grantReached_lights_agree taken g
  | boundary =>
    exact State.driveLights_agree agrees { s.lights with phase := s.lights.phase + 1, boundary := 125 } rfl rfl
  | lights mask locate kept =>
    exact .intro (fun c => State.lit_congr rfl rfl rfl rfl rfl (agrees.lit c)) (kept agrees.2)
  | policy w b => exact (s.setPolicyBay_settles w b).lights_agree (agrees.congr rfl rfl rfl rfl)
  | warm => exact State.warmAtOnce_lights_agree agrees
  | cold straps => exact State.coldStart_lights_agree straps
  | tick => exact State.tick_lights_agree agrees
  | _ => exact agrees.congr (by simp) (by simp) (by simp) (by simp)

end Sys2Proof.Machine
end

section
/-! SUPPORT. What the effects keep of the cooling controller: the duties of the fans follow their zones, and each fan and
sensor record agrees with itself. -/

namespace Sys2Proof.Machine

variable {s t : State} {b : Bay}

/-- Each fan's duty follows its state and its zone's duty (R120, R138). -/
def DutiesFollow (s : State) : Prop := ∀ f, (s.fan f).duty = (s.fan f).state.dutyIn (s.zone (zoneOfFan f)).duty

/-- A fan record fits its absent setting and the fan check, apart from its duty (R121 to R124, R142). -/
def FanRecord.fits (r : FanRecord) (absent checking : Bool) : Prop :=
  (r.state = .absent ↔ absent = true) ∧ (r.window = none ↔ r.state = .absent) ∧ (r.state = .checking → checking = true) ∧
    r.low < 3 ∧ r.good < 3

/-- A sensor's state follows its failures (R126). -/
def SensorRecord.agrees (r : SensorRecord) : Prop :=
  r.failures ≤ 3 ∧ (r.state = .failed ↔ r.failures = 3) ∧ (r.state = .ok → r.failures = 0 ∧ r.held.isSome = true)

/-- Every fan of a state fits its setting. -/
def FansFit (s : State) : Prop := ∀ f, (s.fan f).fits (s.cfg.fans.get f).absent s.cooling.fanCheck.isSome

theorem CoolingAgrees.intro (duties : DutiesFollow s) (fits : FansFit s) (sensors : ∀ k, (s.cooling.sensors.get k).agrees)
    (hold : s.arbiter.startUpHold = s.cooling.fanCheck.isSome) : CoolingAgrees s :=
  ⟨fun f => ⟨duties f, fits f⟩, sensors, hold⟩

theorem CoolingAgrees.duties (h : CoolingAgrees s) : DutiesFollow s := fun f => (h.1 f).1

theorem CoolingAgrees.fits (h : CoolingAgrees s) : FansFit s := fun f => (h.1 f).2

theorem CoolingAgrees.sensors (h : CoolingAgrees s) (k : Sensor) : (s.cooling.sensors.get k).agrees := h.2.1 k

theorem CoolingAgrees.hold (h : CoolingAgrees s) : s.arbiter.startUpHold = s.cooling.fanCheck.isSome := h.2.2

/-- A fan's duty follows its zone's in RUNNING alone. -/
theorem FanState.dutyIn_standing {st : FanState} (h : st ≠ .running) (d e : Nat) : st.dutyIn d = st.dutyIn e := by
  cases st <;> first | rfl | exact absurd rfl h

/-! ## What keeps the duties following -/

theorem DutiesFollow.congr (h : DutiesFollow s) (cooling : t.cooling = s.cooling) : DutiesFollow t := fun f => by
  rw [State.fan, State.zone, cooling]
  exact h f

theorem DutiesFollow.records (h : DutiesFollow s) (fans : t.cooling.fans = s.cooling.fans)
    (zones : t.cooling.zones = s.cooling.zones) : DutiesFollow t := fun f => by
  rw [State.fan, State.zone, fans, zones]
  exact h f

theorem DutiesFollow.retarget (h : DutiesFollow s) (a : Bool) (z : Zone) : DutiesFollow (s.retarget a z) := fun f => by
  have own := h f
  rw [State.retarget_fan, State.retarget_zone]
  by_cases zone : zoneOfFan f = z
  · subst zone
    by_cases running : (s.fan f).state = .running
    · rw [running] at own
      by_cases same : s.newDuty a (zoneOfFan f) = (s.zone (zoneOfFan f)).duty
      · simp [same, running, own]
      · simp [same, running, FanState.dutyIn]
    · rw [if_neg (fun k => running k.2.1), if_pos rfl, own]
      exact FanState.dutyIn_standing running _ _
  · rw [if_neg (fun k => zone k.1), if_neg (Ne.symm zone)]
    exact own

theorem DutiesFollow.judgeZone (h : DutiesFollow s) (z : Zone) : DutiesFollow (s.judgeZone z) := fun f => by
  have zone : ((s.judgeZone z).zone (zoneOfFan f)).duty = (s.zone (zoneOfFan f)).duty := by
    by_cases same : z = zoneOfFan f
    · rw [same, State.judgeZone_thermal]
    · rw [State.judgeZone_zone_other s (Ne.symm same)]
  rw [zone, State.judgeZone_fan]
  exact h f

theorem DutiesFollow.foldl {α : Type} {f : State → α → State} (keeps : ∀ t a, DutiesFollow t → DutiesFollow (f t a))
    (l : List α) {s : State} (h : DutiesFollow s) : DutiesFollow (l.foldl f s) := by
  induction l generalizing s with
  | nil => exact h
  | cons a l ih => exact ih (keeps s a h)

theorem DutiesFollow.reviewZone (h : DutiesFollow s) (z : Zone) : DutiesFollow (s.reviewZone z) :=
  (h.retarget false z).judgeZone z

theorem DutiesFollow.reviewZones (h : DutiesFollow s) (zs : List Zone) : DutiesFollow (s.reviewZones zs) :=
  DutiesFollow.foldl (fun _ z k => k.reviewZone z) zs h

theorem DutiesFollow.retargetAll (h : DutiesFollow s) (a : Bool) : DutiesFollow (s.retargetAll a) :=
  DutiesFollow.foldl (fun _ z k => k.retarget a z) allZones h

/-- A bay's move forms its zone's target anew and touches the fans no other way (R17). -/
theorem DutiesFollow.move (h : DutiesFollow s) (b : Bay) (new : BayState) (timer : Option Nat) (es : List Event) :
    DutiesFollow (s.move b new timer es) := by
  unfold State.move State.stateNotice State.coolingNotice
  refine DutiesFollow.congr (DutiesFollow.retarget (h.congr ?_) false _) (State.lightNotice_cooling _ b)
  simp

theorem DutiesFollow.discardReport (h : DutiesFollow s) (b : Bay) : DutiesFollow (s.discardReport b) := by
  unfold State.discardReport
  split
  · exact h
  · have discarded : DutiesFollow (s.putCooling { s.cooling with reports := Table.put s.cooling.reports b none }) :=
      h.records rfl rfl
    exact discarded.reviewZone _

theorem DutiesFollow.enterEmpty (h : DutiesFollow s) (b : Bay) : DutiesFollow (s.enterEmpty b) := by
  rw [State.enterEmpty_eq]
  refine DutiesFollow.discardReport (DutiesFollow.congr (h.move b .empty none (removedEvents (s.bay b) b)) ?_) b
  rw [foldl_keeps State.cooling (fun t k => t.setCond_cooling b k false), State.emptying, State.unquarantine_cooling,
    State.onBay_cooling]

/-! ## What keeps the whole in agreement -/

/-- What changes neither the fans' settings nor the fan check, and of the fans their duties alone. -/
theorem CoolingAgrees.follow (h : CoolingAgrees s) (duties : DutiesFollow t)
    (fans : ∀ f, t.fan f = { s.fan f with duty := (t.fan f).duty }) (settings : t.cfg.fans = s.cfg.fans)
    (check : t.cooling.fanCheck = s.cooling.fanCheck) (sensors : t.cooling.sensors = s.cooling.sensors)
    (hold : t.arbiter.startUpHold = s.arbiter.startUpHold) : CoolingAgrees t := by
  refine .intro duties (fun f => ?_) (fun k => sensors ▸ h.sensors k) (by rw [hold, check]; exact h.hold)
  rw [fans f, settings, check]
  exact h.fits f

theorem CoolingAgrees.congr (h : CoolingAgrees s) (cooling : t.cooling = s.cooling) (settings : t.cfg.fans = s.cfg.fans)
    (hold : t.arbiter.startUpHold = s.arbiter.startUpHold) : CoolingAgrees t :=
  h.follow (h.duties.congr cooling) (fun f => by rw [State.fan, cooling, State.fan]) settings (by rw [cooling])
    (by rw [cooling]) hold

theorem Settles.cooling_agrees (settles : Settles s t) (h : CoolingAgrees s) (duties : DutiesFollow t) : CoolingAgrees t :=
  h.follow duties settles.fans (by rw [settles.cfg]) settles.fanCheck settles.sensors settles.startUpHold

theorem ActsOnBay.cooling_agrees (acts : ActsOnBay b s t) (h : CoolingAgrees s) (duties : DutiesFollow t) :
    CoolingAgrees t :=
  h.follow duties acts.fans (by rw [acts.cfg]) acts.fanCheck acts.sensors acts.startUpHold

/-- What settles changes no duty where the cooling controller stands. -/
theorem Settles.cooling_stands (settles : Settles s t) (h : CoolingAgrees s) (cooling : t.cooling = s.cooling) :
    CoolingAgrees t := settles.cooling_agrees h (h.duties.congr cooling)

/-- The drive reports are none of the fans' or sensors' records. -/
theorem CoolingAgrees.records (h : CoolingAgrees s) (fans : t.cooling.fans = s.cooling.fans)
    (zones : t.cooling.zones = s.cooling.zones) (sensors : ∀ k, (t.cooling.sensors.get k).agrees)
    (check : t.cooling.fanCheck = s.cooling.fanCheck) (settings : t.cfg.fans = s.cfg.fans)
    (hold : t.arbiter.startUpHold = s.arbiter.startUpHold) : CoolingAgrees t := by
  refine .intro (h.duties.records fans zones) (fun f => ?_) sensors (by rw [hold, check]; exact h.hold)
  rw [State.fan, fans, settings, check]
  exact h.fits f

/-- One fan's record is replaced. -/
theorem CoolingAgrees.fan (h : CoolingAgrees s) {f : Fan} {r : FanRecord}
    (duty : r.duty = r.state.dutyIn (s.zone (zoneOfFan f)).duty)
    (fits : r.fits (s.cfg.fans.get f).absent s.cooling.fanCheck.isSome) : CoolingAgrees (s.putFan f r) := by
  refine .intro (fun g => ?_) (fun g => ?_) h.sensors h.hold <;>
    simp only [State.putFan_fan, State.putFan_zone, State.putFan_cfg, State.putFan_cooling]
  · split
    · rename_i same
      exact same ▸ duty
    · exact h.duties g
  · split
    · rename_i same
      exact same ▸ fits
    · exact h.fits g

theorem FanRecord.Follows.fits {r r' : FanRecord} (follows : r.Follows r') {absent checking : Bool}
    (h : r.fits absent checking) : r'.fits absent checking := by
  obtain ⟨setting, window, check, low, good⟩ := h
  refine ⟨?_, ?_, ?_, follows.low low, follows.good good⟩
  · rw [follows.state]
    exact setting
  · rw [follows.window, follows.state]
    exact window
  · rw [follows.state]
    exact check

theorem SensorRecord.result_agrees {r : SensorRecord} (h : r.agrees) (result : Option Int) : (r.result result).agrees := by
  obtain ⟨most, failed, -⟩ := h
  cases result with
  | some v => exact ⟨Nat.zero_le _, by simp [SensorRecord.result], fun _ => ⟨rfl, rfl⟩⟩
  | none =>
    simp only [SensorRecord.result, SensorRecord.agrees]
    split <;> simp <;> omega

/-! ## The fans and zones of a reload (R145) -/

/-- Over a list without repetition, where each step makes of its own element what no other step changes. -/
theorem State.foldl_own {ι α : Type} [DecidableEq ι] {v w : State → ι → α} {f : State → ι → State}
    (own : ∀ t i j, v (f t i) j = if i = j then w t i else v t j) (stable : ∀ t i j, i ≠ j → w (f t i) j = w t j)
    (l : List ι) (nodup : l.Nodup) (s : State) (j : ι) : v (l.foldl f s) j = if j ∈ l then w s j else v s j := by
  induction l generalizing s with
  | nil => simp
  | cons i l ih =>
    obtain ⟨notIn, nodup⟩ := List.nodup_cons.mp nodup
    rw [List.foldl_cons, ih nodup, own]
    by_cases same : i = j
    · subst same
      simp [notIn]
    · simp [same, Ne.symm same, stable _ _ _ same]

/-- The record of a fan at the reload, before the zones' duties are raised. -/
def State.reloadedFan (s : State) (f : Fan) : FanRecord :=
  let r := s.fanAfterSetting f (s.cfg.fans.get f).absent
  { r with window := if r.state = .absent then none else some (TachWindow.fresh s.cfg.common.windowMs) }

theorem State.fanReloaded_fan (s : State) (f g : Fan) :
    (s.fanReloaded f).fan g = if f = g then s.reloadedFan f else s.fan g := State.putFan_fan _ _ _ _

theorem State.fanReloaded_reloadedFan (s : State) {f g : Fan} (other : f ≠ g) :
    (s.fanReloaded f).reloadedFan g = s.reloadedFan g := by
  have fan : (s.fanReloaded f).fan g = s.fan g := by rw [State.fanReloaded_fan, if_neg other]
  unfold State.reloadedFan State.fanAfterSetting
  rw [fan]
  rfl

theorem allFans_nodup : allFans.Nodup := by decide

theorem mem_allFans (f : Fan) : f ∈ allFans := by revert f; decide

theorem State.fansReloaded_fan (s : State) (f : Fan) : (allFans.foldl State.fanReloaded s).fan f = s.reloadedFan f := by
  rw [State.foldl_own State.fanReloaded_fan (fun t f g h => t.fanReloaded_reloadedFan h) allFans allFans_nodup,
    if_pos (mem_allFans f)]

theorem State.retargetQuietly_zone (s : State) (y z : Zone) : (s.retargetQuietly y).zone z =
    if y = z then { s.zone z with duty := s.newDuty false z } else s.zone z := by
  unfold State.retargetQuietly
  dsimp only
  rw [foldl_keeps (fun t : State => t.zone z) (fun t f => by split <;> simp)]
  by_cases same : y = z
  · subst same
    simp [State.newDuty]
  · simp [same]

/-- The RUNNING fans of a list are given a duty. -/
theorem State.foldl_runDuty (d : Nat) (fs : List Fan) (s : State) (g : Fan) :
    (fs.foldl (fun t f => if (t.fan f).state = .running then t.putFan f { t.fan f with duty := d } else t) s).fan g =
      if g ∈ fs ∧ (s.fan g).state = .running then { s.fan g with duty := d } else s.fan g := by
  induction fs generalizing s with
  | nil => simp
  | cons f fs ih =>
    rw [List.foldl_cons, ih]
    by_cases running : (s.fan f).state = .running
    · by_cases same : f = g
      · subst same
        simp [running]
      · simp [running, same, Ne.symm same]
    · by_cases same : f = g
      · subst same
        simp [running]
      · simp [running, Ne.symm same]

theorem State.retargetQuietly_fan (s : State) (z : Zone) (f : Fan) : (s.retargetQuietly z).fan f =
    if zoneOfFan f = z ∧ (s.fan f).state = .running then { s.fan f with duty := s.newDuty false z } else s.fan f := by
  unfold State.retargetQuietly
  dsimp only
  rw [State.foldl_runDuty]
  simp only [mem_fans_iff, State.putZone_fan]
  rfl

/-- What changes duties and thermal states alone keeps every target. -/
theorem State.retargetQuietly_zoneTarget (s : State) (y z : Zone) :
    (s.retargetQuietly y).zoneTarget z = s.zoneTarget z := by
  have cooling := s.retargetQuietly_eq y
  refine State.targetWith_congr ?_ ?_ ?_ ?_ (fun f => ?_) z 0
  · rw [cooling, State.putCooling_cfg]
  · rw [cooling, State.putCooling_bays]
  · unfold State.retargetQuietly
    dsimp only
    rw [foldl_keeps (fun t : State => t.cooling.sensors) (fun t f => by split <;> rfl)]
    rfl
  · unfold State.retargetQuietly
    dsimp only
    rw [foldl_keeps (fun t : State => t.cooling.reports) (fun t f => by split <;> rfl)]
    rfl
  · rw [State.retargetQuietly_fan]
    split <;> rfl

theorem State.retargetQuietly_fanCheck (s : State) (z : Zone) :
    (s.retargetQuietly z).cooling.fanCheck = s.cooling.fanCheck := by
  unfold State.retargetQuietly
  dsimp only
  rw [foldl_keeps (fun t : State => t.cooling.fanCheck) (fun t f => by split <;> rfl)]
  rfl

theorem State.retargetQuietly_newDuty (s : State) {y z : Zone} (other : y ≠ z) :
    (s.retargetQuietly y).newDuty false z = s.newDuty false z := by
  rw [State.newDuty, State.retargetQuietly_fanCheck, State.retargetQuietly_zoneTarget, State.retargetQuietly_zone,
    if_neg other, State.newDuty]

theorem allZones_nodup : allZones.Nodup := by decide

theorem State.zonesReloaded_zone (s : State) (z : Zone) :
    (allZones.foldl State.retargetQuietly s).zone z = { s.zone z with duty := s.newDuty false z } := by
  rw [State.foldl_own (v := State.zone) (w := fun t z => { t.zone z with duty := t.newDuty false z })
    (fun t y z => by rw [State.retargetQuietly_zone]; split <;> simp [*]) (fun t y z other => ?_) allZones allZones_nodup,
    if_pos (mem_allZones z)]
  rw [State.retargetQuietly_newDuty t other, State.retargetQuietly_zone, if_neg other]

theorem State.foldl_retargetQuietly_fan (l : List Zone) (nodup : l.Nodup) (s : State) (f : Fan) :
    (l.foldl State.retargetQuietly s).fan f =
      if zoneOfFan f ∈ l ∧ (s.fan f).state = .running then { s.fan f with duty := s.newDuty false (zoneOfFan f) }
      else s.fan f := by
  induction l generalizing s with
  | nil => simp
  | cons z l ih =>
    obtain ⟨notIn, nodup⟩ := List.nodup_cons.mp nodup
    rw [List.foldl_cons, ih nodup, State.retargetQuietly_fan]
    by_cases same : zoneOfFan f = z
    · subst same
      simp [notIn]
    · simp [same, State.retargetQuietly_newDuty s (Ne.symm same)]

theorem State.zonesReloaded_fan (s : State) (f : Fan) : (allZones.foldl State.retargetQuietly s).fan f =
    if (s.fan f).state = .running then { s.fan f with duty := s.newDuty false (zoneOfFan f) } else s.fan f := by
  rw [State.foldl_retargetQuietly_fan allZones allZones_nodup]
  simp [mem_allZones]

/-- What the reload of a fan makes of it for a zone duty (R124, R145). -/
theorem State.reloadedFan_running (s : State) (f : Fan) (d : Nat) :
    (if (s.reloadedFan f).state = .running then { s.reloadedFan f with duty := d } else s.reloadedFan f) =
      (s.fan f).acrossReload (s.cfg.fans.get f).absent s.cooling.fanCheck.isSome d s.cfg.common.windowMs := by
  unfold State.reloadedFan State.fanAfterSetting FanRecord.acrossReload FanRecord.install FanRecord.remove FanRecord.run
    TachWindow.fresh
  dsimp only
  generalize s.fan f = r
  obtain ⟨state, duty, rpm, low, good, judgment, window⟩ := r
  cases (s.cfg.fans.get f).absent <;> cases s.cooling.fanCheck.isSome <;> cases state <;> rfl

theorem State.reload_fan (s : State) (f : Fan) : s.reload.fan f = s.fan f := by rw [State.fan, State.reload_cooling, State.fan]

theorem State.reload_zone (s : State) (z : Zone) : s.reload.zone z = s.zone z := by
  rw [State.zone, State.reload_cooling, State.zone]

theorem State.reload_cfg (s : State) : s.reload.cfg = s.store.image.load := by
  rw [State.reload, State.raiseAll_cfg, State.putStore_cfg, State.putCfg_cfg]

/-- The state of a reload with its fans set and its zones not yet (R145). -/
def State.reloadedSet (s : State) : State := allFans.foldl State.fanReloaded s.reload

theorem State.reloadedSet_eq (s : State) : s.reloadedSet = s.reload.putCooling s.reloadedSet.cooling :=
  State.foldl_putCooling (fun _ _ => rfl) allFans s.reload

theorem State.reloadedSet_fan (s : State) (f : Fan) : s.reloadedSet.fan f = s.reload.reloadedFan f :=
  State.fansReloaded_fan _ f

theorem State.reloadedSet_keeps (s : State) : s.reloadedSet.cooling =
    { s.cooling with fans := s.reloadedSet.cooling.fans } := by
  have kept : ∀ t u : State, u.cooling = { t.cooling with fans := u.cooling.fans } →
      ∀ f, (u.fanReloaded f).cooling = { t.cooling with fans := (u.fanReloaded f).cooling.fans } := fun t u h f => by
    rw [State.fanReloaded, State.putFan_cooling, h]
  have all : ∀ (l : List Fan) (t u : State), u.cooling = { t.cooling with fans := u.cooling.fans } →
      (l.foldl State.fanReloaded u).cooling =
        { t.cooling with fans := (l.foldl State.fanReloaded u).cooling.fans } := fun l => by
    induction l with
    | nil => exact fun t u h => h
    | cons f l ih => exact fun t u h => ih t _ (kept t u h f)
  have := all allFans s.reload s.reload rfl
  rw [State.reload_cooling] at this
  exact this

theorem State.reloadedFans_unfold (s : State) : s.reloadedFans = allZones.foldl State.retargetQuietly s.reloadedSet := rfl

/-- The raising of the zones' duties keeps what of the cooling controller is neither a zone nor a fan. -/
theorem State.retargetQuietly_keeps (s : State) (z : Zone) : (s.retargetQuietly z).cooling =
    { s.cooling with fans := (s.retargetQuietly z).cooling.fans, zones := (s.retargetQuietly z).cooling.zones } := by
  have kept := fun t : State => foldl_keeps
    (fun t : State => (t.cooling.sensors, t.cooling.reports, t.cooling.evaluation, t.cooling.sensorRead, t.cooling.fanCheck))
    (f := fun t f => if (t.fan f).state = .running then t.putFan f { t.fan f with duty := s.newDuty false z } else t)
    (fun t f => by dsimp only; split <;> rfl) z.fans t
  have parts := kept (s.putZone z { s.zone z with duty := s.newDuty false z })
  simp only [Prod.mk.injEq] at parts
  obtain ⟨sensors, reports, evaluation, sensorRead, fanCheck⟩ := parts
  have eta : ∀ x y : Cooling, x.sensors = y.sensors → x.reports = y.reports → x.evaluation = y.evaluation →
      x.sensorRead = y.sensorRead → x.fanCheck = y.fanCheck → x = { y with fans := x.fans, zones := x.zones } :=
    fun x y h1 h2 h3 h4 h5 => by
      obtain ⟨zones, fans, sensors, reports, evaluation, sensorRead, fanCheck⟩ := x
      dsimp only at h1 h2 h3 h4 h5
      subst h1 h2 h3 h4 h5
      rfl
  exact eta _ _ sensors reports evaluation sensorRead fanCheck

theorem State.foldl_retargetQuietly_keeps (x : Cooling) (l : List Zone) (u : State)
    (h : u.cooling = { x with fans := u.cooling.fans, zones := u.cooling.zones }) :
    (l.foldl State.retargetQuietly u).cooling = { x with
      fans := (l.foldl State.retargetQuietly u).cooling.fans
      zones := (l.foldl State.retargetQuietly u).cooling.zones } := by
  induction l generalizing u with
  | nil => exact h
  | cons z l ih => exact ih _ (by rw [State.retargetQuietly_keeps u z, h])

theorem State.reloadedFans_keeps (s : State) : s.reloadedFans.cooling =
    { s.cooling with fans := s.reloadedFans.cooling.fans, zones := s.reloadedFans.cooling.zones } := by
  rw [State.reloadedFans_unfold]
  exact State.foldl_retargetQuietly_keeps s.cooling allZones s.reloadedSet (by rw [State.reloadedSet_keeps])

theorem State.reloadedSet_zone (s : State) (z : Zone) : s.reloadedSet.zone z = s.zone z := by
  rw [State.zone, State.reloadedSet_keeps, State.zone]

theorem State.reloadedFans_zone (s : State) (z : Zone) :
    s.reloadedFans.zone z = { s.zone z with duty := s.reloadedSet.newDuty false z } := by
  rw [State.reloadedFans_unfold, State.zonesReloaded_zone, State.reloadedSet_zone]

theorem State.reloadedSet_fanCheck (s : State) : s.reloadedSet.cooling.fanCheck = s.cooling.fanCheck := by
  rw [State.reloadedSet_keeps]

theorem State.reloadedFans_fanCheck (s : State) : s.reloadedFans.cooling.fanCheck = s.cooling.fanCheck := by
  rw [State.reloadedFans_keeps]

theorem State.reloadedFans_cfg (s : State) : s.reloadedFans.cfg = s.store.image.load := by
  rw [State.reloadedFans_eq, State.putCooling_cfg, State.reload_cfg]

theorem State.reloadedFans_zoneTarget (s : State) (z : Zone) : s.reloadedFans.zoneTarget z = s.reloadedSet.zoneTarget z :=
  foldl_keeps (fun t : State => t.zoneTarget z) (fun t y => t.retargetQuietly_zoneTarget y z) allZones s.reloadedSet

/-- The duty of a zone at the reload (R145). -/
theorem State.reloadedFans_duty (s : State) (z : Zone) : (s.reloadedFans.zone z).duty =
    if s.cooling.fanCheck.isSome = true then (s.zone z).duty else max (s.zone z).duty (s.reloadedFans.zoneTarget z) := by
  rw [State.reloadedFans_zone, State.newDuty_false, State.reloadedSet_fanCheck, State.reloadedSet_zone,
    State.reloadedFans_zoneTarget]

/-- A fan at the reload (R145). -/
theorem State.reloadedFans_fan (s : State) (f : Fan) : s.reloadedFans.fan f =
    (s.fan f).acrossReload (s.store.image.load.fans.get f).absent s.cooling.fanCheck.isSome
      (s.reloadedFans.zone (zoneOfFan f)).duty s.store.image.load.common.windowMs := by
  have fan := s.reload.reloadedFan_running f (s.reloadedSet.newDuty false (zoneOfFan f))
  rw [State.reload_fan, State.reload_cfg, State.reload_cooling] at fan
  rw [State.reloadedFans_zone, ← fan, State.reloadedFans_unfold, State.zonesReloaded_fan, State.reloadedSet_fan]

theorem FanRecord.acrossReload_fits {r : FanRecord} {before absent checking : Bool} (h : r.fits before checking)
    (d w : Nat) : (r.acrossReload absent checking d w).fits absent checking := by
  obtain ⟨-, -, check, low, good⟩ := h
  unfold FanRecord.acrossReload FanRecord.fits
  dsimp only
  cases absent with
  | true =>
    by_cases out : r.state = .absent
    · simp [out, low, good]
    · simp [out]
  | false =>
    by_cases out : r.state = .absent
    · cases checking with
      | true => simp [out, low, good]
      | false => simp [out]
    · by_cases running : r.state = .running
      · simp [running, low, good]
      · simp [out, running, low, good]
        exact check

/-- A fan's duty follows its state at the reload, where it did before. -/
theorem FanRecord.acrossReload_duty {r : FanRecord} {before : Nat} (h : r.duty = r.state.dutyIn before)
    (absent checking : Bool) (d w : Nat) :
    (r.acrossReload absent checking d w).duty = (r.acrossReload absent checking d w).state.dutyIn d := by
  unfold FanRecord.acrossReload
  cases absent <;> cases checking <;> cases state : r.state <;> simp [FanState.dutyIn, h, state]

theorem State.reloadedFans_follow (h : DutiesFollow s) : DutiesFollow s.reloadedFans := fun f => by
  rw [State.reloadedFans_fan]
  exact FanRecord.acrossReload_duty (h f) _ _ _ _

theorem State.reloadedFans_fit (h : FansFit s) : FansFit s.reloadedFans := fun f => by
  rw [State.reloadedFans_fan, State.reloadedFans_cfg, State.reloadedFans_fanCheck]
  exact FanRecord.acrossReload_fits (h f) _ _

end Sys2Proof.Machine
end

section
/-! SUPPORT. The end of the fan check, the fan settings and a cold start, and what every effect keeps of the cooling
controller. -/

namespace Sys2Proof.Machine

variable {s t : State} {b : Bay}

/-! ## The end of the fan check (R142) -/

@[simp] theorem State.fan_raise (s : State) (e : Event) (f : Fan) : (s.raise e).fan f = s.fan f := rfl

@[simp] theorem State.zone_raise (s : State) (e : Event) (z : Zone) : (s.raise e).zone z = s.zone z := rfl

/-- The hold on the duties released. -/
def State.unchecked (s : State) : State := s.putCooling { s.cooling with fanCheck := none }

theorem State.fansJudged_eq (s : State) : s.fansJudged = (allFans.foldl State.checkFan s).unchecked := by
  unfold State.fansJudged State.unchecked
  with_reducible rfl

@[simp] theorem State.unchecked_fan (s : State) (f : Fan) : s.unchecked.fan f = s.fan f := rfl

@[simp] theorem State.unchecked_zone (s : State) (z : Zone) : s.unchecked.zone z = s.zone z := rfl

@[simp] theorem State.unchecked_sensors (s : State) : s.unchecked.cooling.sensors = s.cooling.sensors := rfl

@[simp] theorem State.unchecked_fanCheck (s : State) : s.unchecked.cooling.fanCheck = none := rfl

@[simp] theorem State.unchecked_cfg (s : State) : s.unchecked.cfg = s.cfg := rfl

/-- A fan as the end of the fan check leaves it. -/
def State.checkedFan (s : State) (f : Fan) : FanRecord :=
  if (s.fan f).state = .checking then
    if (s.fan f).judgment = some .low then (s.fan f).fail else (s.fan f).run (s.zone (zoneOfFan f)).duty
  else s.fan f

theorem State.checkFan_fan (s : State) (f g : Fan) :
    (s.checkFan f).fan g = if f = g then s.checkedFan f else s.fan g := by
  unfold State.checkFan State.checkedFan
  dsimp only
  by_cases same : f = g
  · subst same
    split
    · split <;> simp
    · simp
  · rw [if_neg same]
    split
    · split <;> simp [same]
    · rfl

theorem State.checkFan_zone (s : State) (f : Fan) (z : Zone) : (s.checkFan f).zone z = s.zone z := by
  unfold State.checkFan
  dsimp only
  split
  · split <;> simp
  · rfl

theorem State.checkFan_checkedFan (s : State) {f g : Fan} (other : f ≠ g) : (s.checkFan f).checkedFan g = s.checkedFan g := by
  rw [State.checkedFan, State.checkFan_fan, if_neg other, State.checkFan_zone, State.checkedFan]

theorem State.fansJudged_fan (s : State) (f : Fan) : s.fansJudged.fan f = s.checkedFan f := by
  rw [State.fansJudged_eq, State.unchecked_fan,
    State.foldl_own State.checkFan_fan (fun t f g h => t.checkFan_checkedFan h) allFans allFans_nodup,
    if_pos (mem_allFans f)]

theorem State.fansJudged_zone (s : State) (z : Zone) : s.fansJudged.zone z = s.zone z := by
  rw [State.fansJudged_eq, State.unchecked_zone, foldl_keeps (fun t : State => t.zone z) (fun t f => t.checkFan_zone f z)]

theorem State.checkFan_sensors (s : State) (f : Fan) : (s.checkFan f).cooling.sensors = s.cooling.sensors := by
  unfold State.checkFan
  dsimp only
  split
  · split <;> rfl
  · rfl

theorem State.fansJudged_sensors (s : State) : s.fansJudged.cooling.sensors = s.cooling.sensors := by
  rw [State.fansJudged_eq, State.unchecked_sensors,
    foldl_keeps (fun t : State => t.cooling.sensors) State.checkFan_sensors]

theorem State.fansJudged_fanCheck (s : State) : s.fansJudged.cooling.fanCheck = none := by
  rw [State.fansJudged_eq, State.unchecked_fanCheck]

theorem State.fansJudged_cfg (s : State) : s.fansJudged.cfg = s.cfg := by
  rw [State.fansJudged_eq, State.unchecked_cfg, foldl_keeps State.cfg State.checkFan_cfg]

theorem FanRecord.fail_fits {r : FanRecord} {absent checking : Bool} (h : r.fits absent checking) (there : r.state ≠ .absent)
    (check : Bool) : r.fail.fits absent check := by
  obtain ⟨setting, window, -⟩ := h
  exact ⟨by simpa [FanRecord.fail, there] using setting, by simpa [FanRecord.fail, there] using window, nofun,
    by simp [FanRecord.fail], by simp [FanRecord.fail]⟩

theorem FanRecord.run_fits {r : FanRecord} {absent checking : Bool} (h : r.fits absent checking) (there : r.state ≠ .absent)
    (check : Bool) (d : Nat) : (r.run d).fits absent check := by
  obtain ⟨setting, window, -⟩ := h
  exact ⟨by simpa [FanRecord.run, there] using setting, by simpa [FanRecord.run, there] using window, nofun,
    by simp [FanRecord.run], by simp [FanRecord.run]⟩

/-- Once the check has ended no fan is CHECKING. -/
theorem State.checkedFan_fits {f : Fan} {absent checking : Bool} (h : (s.fan f).fits absent checking) (check : Bool) :
    (s.checkedFan f).fits absent check := by
  unfold State.checkedFan
  split
  · rename_i state
    have there : (s.fan f).state ≠ .absent := by simp [state]
    split
    · exact FanRecord.fail_fits h there check
    · exact FanRecord.run_fits h there check _
  · rename_i state
    obtain ⟨setting, window, -, counts⟩ := h
    exact ⟨setting, window, fun k => absurd k state, counts⟩

theorem State.checkedFan_duty {f : Fan} (h : DutiesFollow s) :
    (s.checkedFan f).duty = (s.checkedFan f).state.dutyIn (s.zone (zoneOfFan f)).duty := by
  unfold State.checkedFan
  split
  · split <;> rfl
  · exact h f

theorem State.checkEnds_eq (s : State) : s.checkEnds =
    (((allFans.filter fun f => (s.fan f).state == .checking).foldl State.fanNotice s.fansJudged).retargetAll
      false).holdEnds := rfl

theorem State.fansJudged_follow (h : DutiesFollow s) : DutiesFollow s.fansJudged := fun f => by
  rw [State.fansJudged_fan, State.fansJudged_zone]
  exact State.checkedFan_duty h

theorem DutiesFollow.fanNotices (h : DutiesFollow s) (fs : List Fan) : DutiesFollow (fs.foldl State.fanNotice s) :=
  DutiesFollow.foldl (fun t f k => k.congr (t.fanNotice_cooling f)) fs h

theorem DutiesFollow.holdEnds (h : DutiesFollow s) : DutiesFollow s.holdEnds := h.congr rfl

theorem State.checkEnds_follow (h : DutiesFollow s) : DutiesFollow s.checkEnds := by
  rw [State.checkEnds_eq]
  exact (((State.fansJudged_follow h).fanNotices _).retargetAll false).holdEnds

theorem State.holdEnds_startUpHold (s : State) : s.holdEnds.arbiter.startUpHold = false := by
  rw [State.holdEnds, (State.trigger_settles _).startUpHold, State.putArbiter_arbiter]

theorem State.checkEnds_cooling_agrees (h : CoolingAgrees s) : CoolingAgrees s.checkEnds := by
  obtain ⟨t, settles, ends⟩ := s.checkEnds_settles
  have cooling : s.checkEnds.cooling = t.cooling := by simp [ends, State.holdEnds]
  have follow := State.checkEnds_follow h.duties
  refine .intro follow (fun f => ?_) (fun k => ?_) ?_
  · have fan : s.checkEnds.fan f = { s.checkedFan f with duty := (t.fan f).duty } := by
      rw [State.fan, cooling, ← s.fansJudged_fan]
      exact settles.fans f
    have cfg : s.checkEnds.cfg = s.cfg := by simp
    rw [fan, cfg]
    exact State.checkedFan_fits (h.fits f) _
  · rw [cooling, settles.sensors, State.fansJudged_sensors]
    exact h.sensors k
  · rw [cooling, settles.fanCheck, State.fansJudged_fanCheck, ends, t.holdEnds_startUpHold]
    rfl

/-! ## The fan settings (R124) -/

/-- The fan's setting and record written, before the notices. -/
def State.fanWritten (s : State) (f : Fan) (x : FanSettings) : State :=
  let t := s.putCfg { s.cfg with fans := Table.put s.cfg.fans f x }
  t.putFan f (t.fanAfterSetting f x.absent)

/-- What the written record, a fan notice and a target formed anew keep, a write of fan settings keeps. -/
theorem State.writeFan_keeps {P : State → Prop} (f : Fan) (x : FanSettings) (written : P (s.fanWritten f x))
    (noticed : ∀ t : State, P t → P (t.fanNotice f)) (raised : ∀ t : State, P t → P (t.retarget false (zoneOfFan f))) :
    P (s.writeFan f x) := by
  unfold State.writeFan
  dsimp only
  split <;> split
  · exact written
  · exact noticed _ written
  · exact raised _ written
  · exact raised _ (noticed _ written)

theorem State.fanAfterSetting_fits {f : Fan} {before : Bool} (h : (s.fan f).fits before s.cooling.fanCheck.isSome)
    (absent : Bool) : (s.fanAfterSetting f absent).fits absent s.cooling.fanCheck.isSome := by
  obtain ⟨-, window, check, low, good⟩ := h
  unfold State.fanAfterSetting FanRecord.install
  cases absent with
  | true =>
    by_cases out : (s.fan f).state = .absent
    · rw [if_pos rfl, if_pos out]
      exact ⟨by simp [out], window, check, low, good⟩
    · rw [if_pos rfl, if_neg out]
      exact ⟨by simp [FanRecord.remove], by simp [FanRecord.remove], nofun, by simp [FanRecord.remove],
        by simp [FanRecord.remove]⟩
  | false =>
    by_cases out : (s.fan f).state = .absent
    · rw [if_neg (by simp), if_pos out]
      dsimp only
      split
      · rename_i checking
        exact ⟨by simp, by simp, fun _ => checking, low, good⟩
      · exact ⟨by simp [FanRecord.run], by simp [FanRecord.run], nofun, by simp [FanRecord.run], by simp [FanRecord.run]⟩
    · rw [if_neg (by simp), if_neg out]
      exact ⟨by simp [out], window, check, low, good⟩

theorem State.fanAfterSetting_duty {f : Fan} (h : DutiesFollow s) (absent : Bool) :
    (s.fanAfterSetting f absent).duty = (s.fanAfterSetting f absent).state.dutyIn (s.zone (zoneOfFan f)).duty := by
  unfold State.fanAfterSetting FanRecord.install
  split
  · split
    · exact h f
    · rfl
  · split
    · dsimp only
      split <;> rfl
    · exact h f

theorem State.fanWritten_agrees (h : CoolingAgrees s) (f : Fan) (x : FanSettings) : CoolingAgrees (s.fanWritten f x) := by
  refine .intro (fun g => ?_) (fun g => ?_) h.sensors h.hold
  · rw [State.fanWritten, State.putFan_fan, State.putFan_zone]
    split
    · rename_i same
      exact same ▸ State.fanAfterSetting_duty (s := s.putCfg _) (fun g => h.duties g) x.absent
    · exact h.duties g
  · rw [State.fanWritten, State.putFan_fan, State.putFan_cfg, State.putCfg_cfg]
    by_cases same : f = g
    · subst same
      rw [if_pos rfl, Table.get_put_self]
      exact State.fanAfterSetting_fits (s := s.putCfg _) (h.fits f) x.absent
    · rw [if_neg same, Table.get_put_ne _ same]
      exact h.fits g

/-! ## The effects -/

theorem State.fanNotice_cooling_agrees (h : CoolingAgrees s) (f : Fan) : CoolingAgrees (s.fanNotice f) :=
  (s.fanNotice_settles f).cooling_stands h (s.fanNotice_cooling f)

theorem State.retarget_cooling_agrees (h : CoolingAgrees s) (a : Bool) (z : Zone) : CoolingAgrees (s.retarget a z) :=
  (s.retarget_settles a z).cooling_agrees h (h.duties.retarget a z)

theorem State.reviewZones_cooling_agrees (h : CoolingAgrees s) (zs : List Zone) : CoolingAgrees (s.reviewZones zs) :=
  (s.reviewZones_settles zs).cooling_agrees h (h.duties.reviewZones zs)

theorem State.move_cooling_agrees (h : CoolingAgrees s) (b : Bay) (new : BayState) (timer : Option Nat) (es : List Event) :
    CoolingAgrees (s.move b new timer es) := (s.move_acts b new timer es).cooling_agrees h (h.duties.move b new timer es)

theorem State.trigger_cooling_agrees (h : CoolingAgrees s) : CoolingAgrees s.trigger :=
  s.trigger_settles.cooling_stands h s.trigger_cooling

theorem State.sensorResult_cooling_agrees (h : CoolingAgrees s) (k : Sensor) (result : Option Int) :
    CoolingAgrees (s.sensorResult k result) := by
  have held : CoolingAgrees ((s.putCooling { s.cooling with
      sensors := Table.put s.cooling.sensors k ((s.cooling.sensors.get k).result result) }).raiseAll
      (sensorEvents k (s.cooling.sensors.get k) ((s.cooling.sensors.get k).result result))) := by
    refine h.records (by simp) (by simp) ?_ (by simp) (by simp) (by simp)
    rw [State.raiseAll_cooling, State.putCooling_cooling]
    exact Table.put_all (P := SensorRecord.agrees) h.sensors (SensorRecord.result_agrees (h.sensors k) result)
  unfold State.sensorResult
  dsimp only
  split
  · exact held
  · exact State.reviewZones_cooling_agrees held _

theorem State.grantReached_cooling_agrees (h : CoolingAgrees s) (g : Grant) : CoolingAgrees (s.grantReached g) := by
  unfold State.grantReached State.carryOut
  split
  · cases g.kind with
    | wake => exact State.move_cooling_agrees h _ _ _ _
    | powerOn =>
      unfold State.powerOnGranted
      exact State.move_cooling_agrees (h.congr (by simp) (by simp) (by simp)) _ _ _ _
  · exact h.congr rfl rfl rfl

theorem FanRecord.cold_fits (absent : Bool) (w : Nat) : (FanRecord.cold absent w).fits absent true := by
  cases absent <;> simp [FanRecord.cold, FanRecord.fits]

theorem FanRecord.cold_duty (absent : Bool) (w d : Nat) :
    (FanRecord.cold absent w).duty = (FanRecord.cold absent w).state.dutyIn d := by
  cases absent <;> rfl

theorem State.coldStart_cooling (s : State) (straps : BitVec 3) :
    (s.coldStart straps).cooling = .cold s.store.imageAtStart.load := by
  rw [State.coldStart, foldl_keeps State.cooling State.fanNotice_cooling, State.recompute_cooling, State.raiseAll_cooling,
    State.blocksCold]

theorem State.coldStart_cfg (s : State) (straps : BitVec 3) : (s.coldStart straps).cfg = s.store.imageAtStart.load := by
  rw [(s.coldStart_settles straps).cfg, State.raiseAll_cfg, State.blocksCold]

theorem State.coldStart_cooling_agrees (straps : BitVec 3) : CoolingAgrees (s.coldStart straps) := by
  have fan : ∀ f, (s.coldStart straps).fan f = .cold (s.store.imageAtStart.load.fans.get f).absent
      s.store.imageAtStart.load.common.windowMs := fun f => by
    rw [State.fan, State.coldStart_cooling, Cooling.cold, Table.get_each]
  refine .intro (fun f => ?_) (fun f => ?_) (fun k => ?_) ?_
  · rw [fan]
    exact FanRecord.cold_duty _ _ _
  · rw [fan, State.coldStart_cfg, State.coldStart_cooling]
    exact FanRecord.cold_fits _ _
  · rw [State.coldStart_cooling, Cooling.cold]
    simp [SensorRecord.agrees]
  · rw [(s.coldStart_settles straps).startUpHold, State.coldStart_cooling, State.raiseAll_arbiter]
    rfl

theorem State.tick_cooling_agrees (h : CoolingAgrees s) : CoolingAgrees s.tick := by
  have fan : ∀ f, s.tick.fan f = (s.fan f).tick := fun f => by simp [State.fan, State.tick, Cooling.tick]
  have zone : ∀ z, s.tick.zone z = s.zone z := fun z => rfl
  have check : s.tick.cooling.fanCheck.isSome = s.cooling.fanCheck.isSome := by
    simp [State.tick, Cooling.tick, countDown]
  refine .intro (fun f => ?_) (fun f => ?_) h.sensors (by rw [check]; exact h.hold)
  · rw [fan, zone]
    exact h.duties f
  · obtain ⟨setting, window, rest⟩ := h.fits f
    rw [fan, check]
    exact ⟨setting, by simpa [FanRecord.tick] using window, rest⟩

@[simp] theorem State.trigger_startUpHold (s : State) : s.trigger.arbiter.startUpHold = s.arbiter.startUpHold :=
  s.trigger_settles.startUpHold

@[simp] theorem State.removeEntryIf_startUpHold (s : State) (w : Bool) (b : Bay) :
    (s.removeEntryIf w b).arbiter.startUpHold = s.arbiter.startUpHold := (s.removeEntryIf_acts b w).startUpHold

@[simp] theorem State.move_startUpHold (s : State) (b : Bay) (new : BayState) (timer : Option Nat) (es : List Event) :
    (s.move b new timer es).arbiter.startUpHold = s.arbiter.startUpHold := (s.move_acts b new timer es).startUpHold

@[simp] theorem State.joinAt_startUpHold (s : State) (b : Bay) (k : EntryKind) (time : EventTime) :
    (s.joinAt b k time).arbiter.startUpHold = s.arbiter.startUpHold := by
  rw [State.joinAt, State.trigger_startUpHold, State.putArbiter_arbiter]

@[simp] theorem State.declineTaken_startUpHold (s : State) (d : Decline) :
    (s.declineTaken d).arbiter.startUpHold = s.arbiter.startUpHold := by
  unfold State.declineTaken
  split <;> simp

theorem State.warmAtOnce_arbiter (s : State) : s.warmAtOnce.arbiter =
    { s.arbiter.warm with spinCount := (allBays.foldl State.mapBay s.warmFirst).countSpins } := by
  have kept : ∀ l : List Bay, ∀ t : State, (l.foldl State.mapBay t).arbiter = t.arbiter := fun l =>
    foldl_keeps State.arbiter State.mapBay_arbiter l
  rw [State.warmAtOnce_eq, foldl_keeps State.arbiter State.rearm_arbiter, State.rebuilt, State.putBudget_arbiter,
    State.putArbiter_arbiter, kept, State.warmFirst, State.putArbiter_arbiter, State.raise_arbiter]

theorem State.warmAtOnce_startUpHold (s : State) : s.warmAtOnce.arbiter.startUpHold = s.arbiter.startUpHold := by
  rw [State.warmAtOnce_arbiter]
  rfl

theorem Effect.keeps_cooling {s t : State} (h : Effect s t) (agrees : CoolingAgrees s) : CoolingAgrees t := by
  cases h with
  | move u b new timer es may marked =>
    exact State.move_cooling_agrees (agrees.congr (by cases marked <;> simp) (by cases marked <;> simp)
      (by cases marked <;> simp)) b new timer es
  | spinDown b level => exact State.move_cooling_agrees (agrees.congr (by simp) (by simp) (by simp)) b .standby none []
  | checkedOut b =>
    exact (State.move_cooling_agrees (agrees.congr (t := s.removeEntryIf ((s.bay b).state == .queued) b) (by simp) (by simp)
      (by simp)) b .idleOff none []).congr (by simp) (by simp) (by simp)
  | queues b time => exact (State.move_cooling_agrees agrees b .queued none []).congr (by simp) (by simp) (by simp)
  | wakes b time => exact (State.move_cooling_agrees agrees b .wakeQueued none []).congr (by simp) (by simp) (by simp)
  | empties b => exact (s.enterEmpty_acts b).cooling_agrees agrees (agrees.duties.enterEmpty b)
  | grant b g rest =>
    have taken : CoolingAgrees (s.putArbiter { s.arbiter with grants := rest }) := agrees.congr rfl rfl rfl
    exact State.grantReached_cooling_agrees taken g
  | slotChange k l => exact (State.recomputeForSlot_settles _ k).cooling_stands (agrees.congr rfl rfl rfl) (by simp)
  | supply x => exact (State.recompute_settles _).cooling_stands (agrees.congr rfl rfl rfl) (by simp)
  | fan f r follows =>
    refine agrees.fan ?_ (FanRecord.Follows.fits follows (agrees.fits f))
    rw [follows.duty, follows.state]
    exact agrees.duties f
  | fanMoves f r e there state duty window low good =>
    have present : r.state ≠ .absent := by rcases state with h | h <;> simp [h]
    have setting := (agrees.fits f).1
    have moved : CoolingAgrees ((s.putFan f r).raise e) := (agrees.fan (f := f) duty
      ⟨by simpa [there, present] using setting, by simp [window, present], by rcases state with h | h <;> simp [h],
        low, good⟩).congr rfl rfl rfl
    exact State.retarget_cooling_agrees (State.fanNotice_cooling_agrees moved f) false _
  | readStart =>
    refine agrees.records rfl rfl (fun k => ?_) rfl rfl rfl
    rw [State.putCooling_cooling, Table.get_each]
    exact agrees.sensors k
  | sensor k result => exact State.sensorResult_cooling_agrees agrees k result
  | reports reports zs =>
    have put : CoolingAgrees (s.putCooling { s.cooling with reports := reports }) :=
      agrees.records rfl rfl agrees.sensors rfl rfl rfl
    exact State.reviewZones_cooling_agrees put zs
  | evaluation =>
    have put : CoolingAgrees (s.putCooling { s.cooling with evaluation := 1000 }) :=
      agrees.records rfl rfl agrees.sensors rfl rfl rfl
    exact (State.retargetAll_settles _ true).cooling_agrees put (put.duties.retargetAll true)
  | checkEnds => exact State.checkEnds_cooling_agrees agrees
  | airCurve z c =>
    have put : CoolingAgrees (s.putCfg { s.cfg with airCurves := Table.put s.cfg.airCurves z.number c }) :=
      agrees.congr rfl rfl rfl
    exact State.retarget_cooling_agrees put false z
  | common c =>
    have put : CoolingAgrees (s.putCfg { s.cfg with common := c }) := agrees.congr rfl rfl rfl
    exact State.reviewZones_cooling_agrees put allZones
  | fanSettings f x =>
    exact State.writeFan_keeps f x (State.fanWritten_agrees agrees f x)
      (fun t k => State.fanNotice_cooling_agrees k f) (fun t k => State.retarget_cooling_agrees k false _)
  | policy w b =>
    have put : CoolingAgrees (s.putCfg { s.cfg with bays := Table.put s.cfg.bays b ((s.baySettings b).written w) }) :=
      agrees.congr rfl rfl rfl
    refine (s.setPolicyBay_settles w b).cooling_agrees put ?_
    unfold State.setPolicyBay
    dsimp only
    split
    · exact put.duties
    · exact put.duties.reviewZones _
  | warm => exact agrees.congr (by simp) (by simp) s.warmAtOnce_startUpHold
  | reload x =>
    have stored : CoolingAgrees (s.putStore x) := agrees.congr rfl rfl rfl
    refine CoolingAgrees.intro ((State.reloadedFans_follow stored.duties).congr (by simp [State.reloadedCooling]))
      (fun f => ?_) (fun k => ?_) ?_
    · rw [State.reloadedCooling, State.fan, State.budgetReloaded_cooling, State.budgetReloaded_cfg]
      exact State.reloadedFans_fit stored.fits f
    · rw [State.reloadedCooling, State.budgetReloaded_cooling, State.reloadedFans_keeps]
      exact agrees.sensors k
    · rw [State.reloadedCooling, State.budgetReloaded_cooling, State.reloadedFans_fanCheck,
        (State.budgetReloaded_settles _).startUpHold, State.viewed, State.putBudget_arbiter, State.reloadedFans_eq,
        State.putCooling_arbiter, State.reload, State.raiseAll_arbiter]
      exact agrees.hold
  | judge z => exact (s.judgeZone_settles z).cooling_agrees agrees (agrees.duties.judgeZone z)
  | cold straps => exact State.coldStart_cooling_agrees straps
  | tick => exact State.tick_cooling_agrees agrees
  | cfg c _ _ _ _ _ fans => exact agrees.congr rfl fans rfl
  | _ => exact agrees.congr (by simp) (by simp) (by simp)

end Sys2Proof.Machine
end

section
/-! The statements about what every step keeps, settled: the cooling controller and the lights. -/

namespace Sys2Proof.Machine

/-- Settles O57: every effect keeps the cooling controller and the lights in agreement. -/
theorem stepKeepsTheCoolingAndLights : Obligations.StepKeepsTheCoolingAndLights := fun _ cooling lights =>
  step_keeps (P := fun s => CoolingAgrees s ∧ LightsAgree s)
    (fun _ _ effect h => ⟨effect.keeps_cooling h.1, effect.keeps_lights h.2⟩) ⟨cooling, lights⟩

end Sys2Proof.Machine
end

section
/-! SUPPORT. What the effects keep of the ranges: of the configuration, the link's action, the image and the write, the
snapshots and the duties. -/

namespace Sys2Proof.Machine

variable {s t : State} {b : Bay}

/-- The image, the write in progress and an awaited reload are in range (R195). -/
def Store.legal (x : Store) : Prop :=
  x.image.items.legal ∧ (∀ w, x.writing = some w → w.items.legal ∧ w.left ≤ 200) ∧
    (x.reloadAwaited.isSome = true → x.writing.isSome = true)

/-- A snapshot, if there is one, is in range. -/
def BayRecord.inRange (r : BayRecord) : Prop := ∀ p, r.snapshot = some p → p.legal

/-- Every duty is in range. -/
def DutiesBounded (s : State) : Prop := (∀ z, (s.zone z).duty ≤ 100) ∧ ∀ f, (s.fan f).duty ≤ 100

theorem SettingsInRange.intro (cfg : s.cfg.legal) (link : s.link.legal) (store : s.store.legal)
    (snapshots : ∀ b, (s.bay b).inRange) (duties : DutiesBounded s) : SettingsInRange s :=
  ⟨cfg, link.1, link.2, store.1, store.2.1, store.2.2, snapshots, duties.1, duties.2⟩

theorem SettingsInRange.elim (h : SettingsInRange s) :
    s.cfg.legal ∧ s.link.legal ∧ s.store.legal ∧ (∀ b, (s.bay b).inRange) ∧ DutiesBounded s := by
  obtain ⟨cfg, pending, sending, image, writing, awaited, snapshots, zones, fans⟩ := h
  exact ⟨cfg, ⟨pending, sending⟩, ⟨image, writing, awaited⟩, snapshots, zones, fans⟩

/-! ## The configuration and the store -/

theorem SettingsImage.load_legal {i : SettingsImage} (h : i.items.legal) : i.load.legal := by
  unfold SettingsImage.load
  split
  · exact h
  · exact factorySettings_legal

theorem Store.imageAtStart_legal {x : Store} (h : x.image.items.legal) : x.imageAtStart.items.legal := by
  unfold Store.imageAtStart
  split <;> exact h

/-- The image that a reload leaves is in range. -/
theorem Store.reloaded_image {x y : Store} (h : x.legal)
    (kept : x.image.items.legal → (∀ w, x.writing = some w → w.items.legal) → y.image.items.legal) : y.image.items.legal :=
  kept h.1 fun w writing => (h.2.1 w writing).1

theorem Store.settled_legal {i : SettingsImage} (h : i.items.legal) (d : Bool) : (Store.mk i none d none).legal :=
  ⟨h, fun _ k => absurd k (by simp), fun k => absurd k (by simp)⟩

theorem State.reloadedCooling_cfg (s : State) : s.reloadedCooling.cfg = s.store.image.load := by
  rw [State.reloadedCooling, State.budgetReloaded_cfg, State.reloadedFans_cfg]

theorem State.reloadedCooling_store (s : State) : s.reloadedCooling.store =
    { s.store with defaulted := !s.store.image.ok, reloadAwaited := none } := by
  rw [State.reloadedCooling, State.budgetReloaded_store, State.reloadedFans_eq, State.putCooling_store, State.reload,
    State.raiseAll_store, State.putStore_store]

theorem State.coldStart_store (s : State) (straps : BitVec 3) : (s.coldStart straps).store =
    ⟨s.store.imageAtStart, none, !s.store.imageAtStart.ok, none⟩ := by
  rw [(s.coldStart_settles straps).store, State.raiseAll_store, State.blocksCold]

theorem State.coldStart_link (s : State) (straps : BitVec 3) : (s.coldStart straps).link = .cold straps := by
  rw [(s.coldStart_settles straps).link, State.raiseAll_link, State.blocksCold]

theorem Settings.legal.withBays {c : Settings} (h : c.legal) (x : Table BaySettings 24) : ({ c with bays := x }).legal := h

theorem Effect.keeps_cfg {s t : State} (h : Effect s t) (cfg : s.cfg.legal) (link : s.link.legal) (store : s.store.legal) :
    t.cfg.legal := by
  have kept : t.cfg = s.cfg → t.cfg.legal := fun same => same ▸ cfg
  cases h with
  | supply x legal =>
    obtain ⟨profiles, rules, -, rest⟩ := cfg
    rw [State.recompute_cfg, State.putCfg_cfg]
    exact ⟨profiles, rules, legal, rest⟩
  | airCurve z c legal =>
    obtain ⟨profiles, rules, supply, admission, curves, rest⟩ := cfg
    rw [State.writeAirCurve, State.retarget_cfg, State.putCfg_cfg]
    exact ⟨profiles, rules, supply, admission, Table.put_all curves legal, rest⟩
  | common c legal =>
    obtain ⟨profiles, rules, supply, admission, curves, -, rest⟩ := cfg
    rw [State.reviewZones_cfg, State.putCfg_cfg]
    exact ⟨profiles, rules, supply, admission, curves, legal, rest⟩
  | fanSettings f x legal =>
    obtain ⟨profiles, rules, supply, admission, curves, common, fans, turnaround⟩ := cfg
    have written : (s.writeFan f x).cfg = { s.cfg with fans := Table.put s.cfg.fans f x } :=
      State.writeFan_keeps (P := fun t => t.cfg = { s.cfg with fans := Table.put s.cfg.fans f x }) f x rfl
        (fun t k => by rw [State.fanNotice_cfg, k]) (fun t k => by rw [State.retarget_cfg, k])
    rw [written]
    exact ⟨profiles, rules, supply, admission, curves, common, Table.put_all fans legal, turnaround⟩
  | policy w b =>
    rw [(s.setPolicyBay_settles w b).cfg, State.putCfg_cfg]
    exact Settings.legal.withBays cfg _
  | cfg c legal => exact legal cfg
  | linkChange l speed turnaround _ _ range =>
    obtain ⟨profiles, rules, supply, admission, curves, common, fans, -⟩ := cfg
    exact ⟨profiles, rules, supply, admission, curves, common, fans, range link⟩
  | reload x _ legal =>
    rw [State.reloadedCooling_cfg, State.putStore_store]
    exact SettingsImage.load_legal (Store.reloaded_image store legal)
  | cold straps =>
    rw [State.coldStart_cfg]
    exact SettingsImage.load_legal (Store.imageAtStart_legal store.1)
  | move u b new timer es may marked => exact kept (by rw [(State.move_acts u b new timer es).cfg]; cases marked <;> simp)
  | _ => exact kept (by simp)

theorem ReplyState.tick_legal {l : Link} (h : l.legal) (r : Receiver) :
    ({ l with receiver := r, reply := l.reply.tick }).legal := by
  obtain ⟨pending, sending⟩ := h
  refine ⟨fun p k => ?_, fun frame action k => ?_⟩
  · cases reply : l.reply with
    | pending q =>
      simp only [reply, ReplyState.tick, ReplyState.pending.injEq] at k
      subst k
      exact pending q reply
    | none | sending => simp [reply, ReplyState.tick] at k
  · cases reply : l.reply with
    | sending frame' action' =>
      simp only [reply, ReplyState.tick, ReplyState.sending.injEq] at k
      exact k.2 ▸ sending frame' action' reply
    | none | pending => simp [reply, ReplyState.tick] at k

theorem Effect.keeps_linkLegal {s t : State} (h : Effect s t) (link : s.link.legal) : t.link.legal := by
  have kept : t.link = s.link → t.link.legal := fun same => same ▸ link
  cases h with
  | link l _ legal | linkChange l _ _ _ legal => exact legal link
  | cold straps =>
    rw [State.coldStart_link]
    exact .of_none rfl
  | tick => exact ReplyState.tick_legal link _
  | move u b new timer es may marked => exact kept (by rw [(State.move_acts u b new timer es).link]; cases marked <;> simp)
  | _ => exact kept (by simp)

theorem Effect.keeps_storeLegal {s t : State} (h : Effect s t) (cfg : s.cfg.legal) (store : s.store.legal) :
    t.store.legal := by
  have kept : t.store = s.store → t.store.legal := fun same => same ▸ store
  cases h with
  | save =>
    obtain ⟨image, -, -⟩ := store
    exact ⟨image, fun w writing => by cases writing; exact ⟨cfg, Nat.le_refl _⟩, fun _ => rfl⟩
  | await a writing =>
    obtain ⟨image, written, -⟩ := store
    exact ⟨image, written, fun _ => writing⟩
  | written w writing awaited =>
    obtain ⟨-, legal, -⟩ := store
    exact ⟨(legal w writing).1, fun _ k => absurd k (by simp), fun k => by simp [awaited] at k⟩
  | reload x writing legal =>
    rw [State.reloadedCooling_store, State.putStore_store]
    exact ⟨Store.reloaded_image store legal, fun w k => by simp [writing] at k, nofun⟩
  | cold straps =>
    rw [State.coldStart_store]
    exact Store.settled_legal (Store.imageAtStart_legal store.1) _
  | tick =>
    obtain ⟨image, written, awaited⟩ := store
    refine ⟨image, fun w k => ?_, fun k => ?_⟩
    · obtain ⟨v, writing, rfl⟩ := Option.map_eq_some_iff.mp k
      have := written v writing
      exact ⟨this.1, Nat.le_trans (Nat.sub_le _ _) this.2⟩
    · show (s.store.writing.map SettingsWrite.tick).isSome = true
      rw [Option.isSome_map]
      exact awaited k
  | move u b new timer es may marked => exact kept (by rw [(State.move_acts u b new timer es).store]; cases marked <;> simp)
  | policy w b => exact kept (s.setPolicyBay_settles w b).store
  | _ => exact kept (by simp)

/-! ## The snapshots -/

theorem BayRecord.inRange.of_snapshot {r r' : BayRecord} (h : r.inRange) (same : r'.snapshot = r.snapshot) : r'.inRange := by
  unfold BayRecord.inRange
  rw [same]
  exact h

theorem BayRecord.inRange.enter {r : BayRecord} (h : r.inRange) (new : BayState) (timer : Option Nat) :
    (r.enter new timer).inRange := fun p k => by
  simp only [BayRecord.enter] at k
  split at k
  · exact h p k
  · cases k

theorem BayRecord.inRange.acrossRestart {r : BayRecord} (h : r.inRange) : r.acrossRestart.inRange := by
  unfold BayRecord.acrossRestart
  split
  case h_8 => exact fun p k => by cases k
  all_goals exact h

/-- One bay's record changes to one whose snapshot is in range. -/
theorem snapshots_change (h : ∀ c, (s.bay c).inRange) {r : BayRecord}
    (bay : ∀ c, t.bay c = if b = c then r else s.bay c) (range : r.inRange) (c : Bay) : (t.bay c).inRange := by
  rw [bay]
  split
  · exact range
  · exact h c

theorem snapshots_of_bays (h : ∀ c, (s.bay c).inRange) (bays : t.bays = s.bays) (c : Bay) : (t.bay c).inRange := by
  rw [State.bay, bays]
  exact h c

theorem State.move_inRange (h : ∀ c, (s.bay c).inRange) (b : Bay) (new : BayState) (timer : Option Nat) (es : List Event) :
    ∀ c, ((s.move b new timer es).bay c).inRange :=
  snapshots_change h (fun c => State.bay_move s b c new timer es) (BayRecord.inRange.enter (h b) new timer)

theorem State.grantReached_inRange (cfg : s.cfg.legal) (range : ∀ c, (s.bay c).inRange) (g : Grant) :
    ∀ c, ((s.grantReached g).bay c).inRange := by
  unfold State.grantReached State.carryOut
  split
  · cases g.kind with
    | wake => exact State.move_inRange range g.bay .granted _ _
    | powerOn =>
      refine State.move_inRange (fun c => ?_) g.bay .ramping none []
      rw [State.bay_toChan, State.bay_onBay]
      split
      · intro p k
        cases k
        exact cfg.profile _
      · exact range c
  · exact range

theorem Effect.keeps_snapshots {s t : State} (h : Effect s t) (cfg : s.cfg.legal) (range : ∀ b, (s.bay b).inRange) :
    ∀ b, (t.bay b).inRange := by
  have kept : t.bays = s.bays → ∀ b, (t.bay b).inRange := snapshots_of_bays range
  cases h with
  | record b r follows =>
    exact snapshots_change range (fun c => State.bay_putBay s b c r) ((range b).of_snapshot follows.snapshot)
  | code b code =>
    refine snapshots_change (b := b) (r := (s.onBay b (fun r => { r with code := some code })).selectedRecord b) range
      (fun c => ?_) ?_
    · rw [State.bay_select, State.bay_onBay]
      by_cases same : b = c <;> simp [same]
    · exact (range b).of_snapshot (by simp [State.selectedRecord])
  | select b => exact snapshots_change range (fun c => State.bay_select s b c) ((range b).of_snapshot rfl)
  | settling b =>
    exact snapshots_change (b := b) (r := { s.bay b with timer := some 2000, settling := true }) range
      (fun c => by simp [State.beginSettling]) ((range b).of_snapshot rfl)
  | removal b v => exact snapshots_change range (fun c => s.setRemoval_bay b c v) ((range b).of_snapshot rfl)
  | move u b new timer es may marked =>
    refine State.move_inRange (fun c => ?_) b new timer es
    rw [marked.bay]
    split
    · exact (range b).of_snapshot (by simp [State.bay])
    · rw [State.bay, State.removeEntryIf_bays]
      exact range c
  | spinDown b level =>
    have armed : ∀ c, ((s.toChan b (fun c => c.armRise level)).bay c).inRange := snapshots_of_bays range rfl
    exact State.move_inRange armed b .standby none []
  | checkedOut b =>
    have moved := State.move_inRange (s := s.removeEntryIf ((s.bay b).state == .queued) b)
      (fun c => by rw [State.bay, State.removeEntryIf_bays]; exact range c) b .idleOff none []
    exact fun c => by rw [State.bay, State.quarantineBay_bays]; exact moved c
  | queues b time => exact snapshots_of_bays (State.move_inRange range b .queued none []) (by simp)
  | wakes b time => exact snapshots_of_bays (State.move_inRange range b .wakeQueued none []) (by simp)
  | empties b =>
    have emptied : (s.bay b).emptied.inRange := nofun
    exact snapshots_change range (s.enterEmpty_bay b) emptied
  | grant b g rest =>
    have taken : ∀ c, ((s.putArbiter { s.arbiter with grants := rest }).bay c).inRange := snapshots_of_bays range rfl
    exact State.grantReached_inRange (s := s.putArbiter { s.arbiter with grants := rest }) cfg taken g
  | policy w b => exact kept (s.setPolicyBay_settles w b).bays
  | warm => exact fun c => by rw [State.warmAtOnce_bay]; exact BayRecord.inRange.acrossRestart (range c)
  | cold straps =>
    intro c
    rw [State.bay, (s.coldStart_settles straps).bays, State.raiseAll_bays, State.blocksCold]
    simp [BayRecord.inRange, BayRecord.cold]
  | tick =>
    intro c
    rw [State.bay, State.tick, Table.get_each]
    exact (range c).of_snapshot rfl
  | _ => exact kept (by simp)

end Sys2Proof.Machine
end

section
/-! SUPPORT. What the effects keep of the duties: within 100, and no zone cooled short of its target. -/

namespace Sys2Proof.Machine

variable {s t : State} {b : Bay}

/-! ## Targets (R135) -/

theorem State.targetWith_le (legal : s.cfg.common.legal) (z : Zone) (heat : Nat) : s.targetWith z heat ≤ 100 := by
  obtain ⟨-, floor, -, failover, -⟩ := legal
  unfold State.targetWith
  dsimp only
  split
  · exact Nat.le_refl _
  · split <;> omega

theorem State.zoneTarget_le (legal : s.cfg.common.legal) (z : Zone) : s.zoneTarget z ≤ 100 := s.targetWith_le legal z 0

/-- A bay adds as much to its zone's target as before: its heat and its switch are those they were (R133, R134). -/
def BayRecord.SameHeat (r r' : BayRecord) : Prop := r'.heat = r.heat ∧ r'.state.closedSwitch = r.state.closedSwitch

theorem BayRecord.sameHeat_of {r r' : BayRecord} (state : r'.state = r.state) (snapshot : r'.snapshot = r.snapshot) :
    r.SameHeat r' := by
  simp only [BayRecord.SameHeat, BayRecord.heat, BayRecord.snap, state, snapshot, and_self]

/-- A zone's target stands while what it is formed from does. -/
theorem State.zoneTarget_stands (z : Zone) (common : t.cfg.common = s.cfg.common)
    (zones : ∀ c, t.zoneOf c = z ↔ s.zoneOf c = z) (bays : ∀ c, s.zoneOf c = z → (s.bay c).SameHeat (t.bay c))
    (fresh : ∀ c, s.zoneOf c = z → t.freshTemp c = s.freshTemp c) (air : t.airTerm z = s.airTerm z)
    (sensor : (t.cooling.sensors.get z.sensor).state = (s.cooling.sensors.get z.sensor).state)
    (failed : t.zoneFanFailed z = s.zoneFanFailed z) : t.zoneTarget z = s.zoneTarget z := by
  have list : t.baysOf z = s.baysOf z := by
    refine List.filter_congr fun c _ => ?_
    rw [Bool.eq_iff_iff, beq_iff_eq, beq_iff_eq]
    exact zones c
  have mem : ∀ c ∈ s.baysOf z, s.zoneOf c = z := fun c h => by simpa using (List.mem_filter.mp h).2
  have heat : t.heatAdder z = s.heatAdder z := by
    unfold State.heatAdder
    rw [list]
    exact congrArg List.sum (List.map_congr_left fun c h => (bays c (mem c h)).1)
  have closed : (s.baysOf z).any (fun c => (t.bay c).state.closedSwitch) =
      (s.baysOf z).any (fun c => (s.bay c).state.closedSwitch) := by
    rw [Bool.eq_iff_iff, List.any_eq_true, List.any_eq_true]
    exact exists_congr fun c => and_congr_right fun h => by rw [(bays c (mem c h)).2]
  have highest : t.highestFresh z = s.highestFresh z := by
    unfold State.highestFresh
    rw [list]
    exact List.foldl_ext _ _ _ fun h c k => by rw [fresh c (mem c k)]
  unfold State.zoneTarget State.targetWith State.driveTerm
  rw [air, highest, list, closed, heat, common, failed, sensor]

/-! ## Duties within 100 -/

theorem dutyAfter_le {checking a : Bool} {target duty : Nat} (ht : target ≤ 100) (hd : duty ≤ 100) :
    dutyAfter checking a target duty ≤ 100 := by
  unfold dutyAfter
  repeat' split
  all_goals omega

/-- The common settings are in range and every duty is: what the cooling controller's operations keep. -/
def DutiesLegal (s : State) : Prop := s.cfg.common.legal ∧ DutiesBounded s

theorem DutiesLegal.records (h : DutiesLegal s) (common : t.cfg.common = s.cfg.common)
    (fans : t.cooling.fans = s.cooling.fans) (zones : t.cooling.zones = s.cooling.zones) : DutiesLegal t := by
  refine ⟨common ▸ h.1, fun z => ?_, fun f => ?_⟩
  · rw [State.zone, zones]
    exact h.2.1 z
  · rw [State.fan, fans]
    exact h.2.2 f

theorem DutiesLegal.congr (h : DutiesLegal s) (common : t.cfg.common = s.cfg.common) (cooling : t.cooling = s.cooling) :
    DutiesLegal t := h.records common (by rw [cooling]) (by rw [cooling])

theorem DutiesLegal.newDuty (h : DutiesLegal s) (a : Bool) (z : Zone) : s.newDuty a z ≤ 100 :=
  dutyAfter_le (s.zoneTarget_le h.1 z) (h.2.1 z)

theorem DutiesLegal.retarget (h : DutiesLegal s) (a : Bool) (z : Zone) : DutiesLegal (s.retarget a z) := by
  refine ⟨by rw [State.retarget_cfg]; exact h.1, fun y => ?_, fun f => ?_⟩
  · rw [State.retarget_zone]
    split
    · exact h.newDuty a y
    · exact h.2.1 y
  · rw [State.retarget_fan]
    split
    · exact h.newDuty a z
    · exact h.2.2 f

theorem State.judgeZone_duty (s : State) (y z : Zone) : ((s.judgeZone y).zone z).duty = (s.zone z).duty := by
  by_cases same : y = z
  · rw [same, State.judgeZone_thermal]
  · rw [State.judgeZone_zone_other s (Ne.symm same)]

theorem DutiesLegal.judgeZone (h : DutiesLegal s) (z : Zone) : DutiesLegal (s.judgeZone z) := by
  refine ⟨by rw [State.judgeZone_cfg]; exact h.1, fun y => ?_, fun f => ?_⟩
  · rw [State.judgeZone_duty]
    exact h.2.1 y
  · rw [State.judgeZone_fan]
    exact h.2.2 f

theorem DutiesLegal.foldl {α : Type} {f : State → α → State} (keeps : ∀ t a, DutiesLegal t → DutiesLegal (f t a))
    (l : List α) {s : State} (h : DutiesLegal s) : DutiesLegal (l.foldl f s) := by
  induction l generalizing s with
  | nil => exact h
  | cons a l ih => exact ih (keeps s a h)

theorem DutiesLegal.reviewZone (h : DutiesLegal s) (z : Zone) : DutiesLegal (s.reviewZone z) :=
  (h.retarget false z).judgeZone z

theorem DutiesLegal.reviewZones (h : DutiesLegal s) (zs : List Zone) : DutiesLegal (s.reviewZones zs) :=
  DutiesLegal.foldl (fun _ z k => k.reviewZone z) zs h

theorem DutiesLegal.retargetAll (h : DutiesLegal s) (a : Bool) : DutiesLegal (s.retargetAll a) :=
  DutiesLegal.foldl (fun _ z k => k.retarget a z) allZones h

theorem DutiesLegal.fan (h : DutiesLegal s) {f : Fan} {r : FanRecord} (duty : r.duty ≤ 100) :
    DutiesLegal (s.putFan f r) := by
  refine ⟨h.1, h.2.1, fun g => ?_⟩
  rw [State.putFan_fan]
  split
  · exact duty
  · exact h.2.2 g

/-- The state of a bay's move before the cooling controller takes the notice. -/
def State.budgeted (s : State) (b : Bay) (new : BayState) (timer : Option Nat) (es : List Event) : State :=
  ((s.onBay b (fun r => r.enter new timer)).raiseAll es).budgetNotice b (s.bay b).state new

theorem State.move_cooled (s : State) (b : Bay) (new : BayState) (timer : Option Nat) (es : List Event) :
    s.move b new timer es = ((s.budgeted b new timer es).coolingNotice b).lightNotice b := rfl

theorem State.budgeted_cooling (s : State) (b : Bay) (new : BayState) (timer : Option Nat) (es : List Event) :
    (s.budgeted b new timer es).cooling = s.cooling := by
  simp [State.budgeted]

theorem State.budgeted_cfg (s : State) (b : Bay) (new : BayState) (timer : Option Nat) (es : List Event) :
    (s.budgeted b new timer es).cfg = s.cfg := by
  simp [State.budgeted]

theorem DutiesLegal.move (h : DutiesLegal s) (b : Bay) (new : BayState) (timer : Option Nat) (es : List Event) :
    DutiesLegal (s.move b new timer es) := by
  have moved : DutiesLegal (s.budgeted b new timer es) :=
    h.congr (by rw [State.budgeted_cfg]) (State.budgeted_cooling s b new timer es)
  rw [State.move_cooled]
  exact (moved.retarget false _).congr (by rw [State.lightNotice_cfg]; rfl) (State.lightNotice_cooling _ b)

theorem DutiesLegal.discardReport (h : DutiesLegal s) (b : Bay) : DutiesLegal (s.discardReport b) := by
  unfold State.discardReport
  split
  · exact h
  · have discarded : DutiesLegal (s.putCooling { s.cooling with reports := Table.put s.cooling.reports b none }) :=
      h.records rfl rfl rfl
    exact discarded.reviewZone _

theorem State.emptying_cooling (s : State) (b : Bay) :
    (s.emptying b).cooling = (s.move b .empty none (removedEvents (s.bay b) b)).cooling := by
  rw [State.emptying, State.unquarantine_cooling, State.onBay_cooling]

theorem State.emptying_cfg (s : State) (b : Bay) : (s.emptying b).cfg = s.cfg := by
  rw [State.emptying, State.unquarantine_cfg, State.onBay_cfg, State.move_cfg]

theorem DutiesLegal.enterEmpty (h : DutiesLegal s) (b : Bay) : DutiesLegal (s.enterEmpty b) := by
  rw [State.enterEmpty_eq]
  refine DutiesLegal.discardReport (DutiesLegal.congr (h.move b .empty none (removedEvents (s.bay b) b)) ?_ ?_) b
  · rw [foldl_keeps State.cfg (fun t k => t.setCond_cfg b k false), State.emptying_cfg, State.move_cfg]
  · rw [foldl_keeps State.cooling (fun t k => t.setCond_cooling b k false), State.emptying_cooling]

theorem FanRecord.acrossReload_le {r : FanRecord} (h : r.duty ≤ 100) (absent checking : Bool) {d : Nat} (hd : d ≤ 100)
    (w : Nat) : (r.acrossReload absent checking d w).duty ≤ 100 := by
  unfold FanRecord.acrossReload
  cases absent <;> cases checking <;> cases state : r.state <;> simp [h, hd]

theorem State.fanAfterSetting_le {f : Fan} (h : DutiesBounded s) (absent : Bool) :
    (s.fanAfterSetting f absent).duty ≤ 100 := by
  have zone := h.1 (zoneOfFan f)
  have fan := h.2 f
  unfold State.fanAfterSetting FanRecord.install FanRecord.remove FanRecord.run
  dsimp only
  split_ifs <;> first | exact fan | exact zone | exact Nat.zero_le _ | exact Nat.le_refl _

theorem State.checkedFan_le {f : Fan} (h : DutiesBounded s) : (s.checkedFan f).duty ≤ 100 := by
  have zone := h.1 (zoneOfFan f)
  have fan := h.2 f
  unfold State.checkedFan FanRecord.fail FanRecord.run
  split
  · split
    · exact Nat.le_refl _
    · exact zone
  · exact fan

theorem State.checkEnds_dutiesLegal (h : DutiesLegal s) : DutiesLegal s.checkEnds := by
  have judged : DutiesLegal s.fansJudged := by
    refine ⟨by rw [State.fansJudged_cfg]; exact h.1, fun z => ?_, fun f => ?_⟩
    · rw [State.fansJudged_zone]
      exact h.2.1 z
    · rw [State.fansJudged_fan]
      exact State.checkedFan_le h.2
  rw [State.checkEnds_eq]
  have noticed := DutiesLegal.foldl (f := State.fanNotice)
    (fun t f k => k.congr (by rw [State.fanNotice_cfg]) (t.fanNotice_cooling f))
    (allFans.filter fun f => (s.fan f).state == .checking) judged
  exact (noticed.retargetAll false).congr (by rw [State.holdEnds, State.trigger_cfg, State.putArbiter_cfg])
    (by rw [State.holdEnds, State.trigger_cooling, State.putArbiter_cooling])

theorem State.writeFan_dutiesLegal (h : DutiesLegal s) (f : Fan) (x : FanSettings) : DutiesLegal (s.writeFan f x) := by
  refine State.writeFan_keeps f x ?_ (fun t k => k.congr (by rw [State.fanNotice_cfg]) (t.fanNotice_cooling f))
    (fun t k => k.retarget false _)
  have put : DutiesLegal (s.putCfg { s.cfg with fans := Table.put s.cfg.fans f x }) := h.congr rfl rfl
  exact put.fan (State.fanAfterSetting_le put.2 x.absent)

theorem State.grantReached_dutiesLegal (h : DutiesLegal s) (g : Grant) : DutiesLegal (s.grantReached g) := by
  unfold State.grantReached State.carryOut
  split
  · cases g.kind with
    | wake => exact h.move _ _ _ _
    | powerOn =>
      have closed : DutiesLegal ((s.onBay g.bay (fun r => { r with snapshot := some (s.profileOf g.bay) })).toChan g.bay
          (fun c => c.closeSwitch (s.profileOf g.bay).trip)) := h.congr (by simp) (by simp)
      exact closed.move _ _ _ _
  · exact h.congr rfl rfl

theorem State.reloadedCooling_cooling (s : State) : s.reloadedCooling.cooling = s.reloadedFans.cooling := by
  rw [State.reloadedCooling, State.budgetReloaded_cooling]

theorem State.reloadedCooling_bounded (legal : s.reloadedCooling.cfg.common.legal) (h : DutiesBounded s) :
    DutiesBounded s.reloadedCooling := by
  rw [State.reloadedCooling_cfg, ← State.reloadedFans_cfg] at legal
  have zone : ∀ z, (s.reloadedFans.zone z).duty ≤ 100 := fun z => by
    rw [State.reloadedFans_duty]
    have := s.reloadedFans.zoneTarget_le legal z
    have := h.1 z
    split <;> omega
  refine ⟨fun z => ?_, fun f => ?_⟩
  · rw [State.zone, State.reloadedCooling_cooling]
    exact zone z
  · rw [State.fan, State.reloadedCooling_cooling]
    show (s.reloadedFans.fan f).duty ≤ 100
    rw [State.reloadedFans_fan]
    exact FanRecord.acrossReload_le (h.2 f) _ _ (zone _) _

theorem State.coldStart_duties (straps : BitVec 3) : DutiesBounded (s.coldStart straps) := by
  refine ⟨fun z => ?_, fun f => ?_⟩
  · rw [State.zone, State.coldStart_cooling, Cooling.cold]
    simp
  · rw [State.fan, State.coldStart_cooling, Cooling.cold, Table.get_each, FanRecord.cold]
    dsimp only
    split <;> omega

/-- Every effect keeps the duties within 100. -/
theorem Effect.keeps_duties {s t : State} (h : Effect s t) (legal : t.cfg.common.legal) (before : DutiesLegal s) :
    DutiesBounded t := by
  have kept : t.cooling = s.cooling → DutiesBounded t := fun same => by
    refine ⟨fun z => ?_, fun f => ?_⟩
    · rw [State.zone, same]
      exact before.2.1 z
    · rw [State.fan, same]
      exact before.2.2 f
  cases h with
  | move u b new timer es may marked =>
    have marked' : DutiesLegal u := before.congr (by cases marked <;> simp) (by cases marked <;> simp)
    exact (marked'.move b new timer es).2
  | spinDown b level => exact ((before.congr (t := s.toChan b (fun c => c.armRise level)) rfl rfl).move b .standby none []).2
  | checkedOut b =>
    have removed : DutiesLegal (s.removeEntryIf ((s.bay b).state == .queued) b) := before.congr (by simp) (by simp)
    exact ((removed.move b .idleOff none []).congr (by simp) (by simp)).2
  | queues b time => exact ((before.move b .queued none []).congr (by simp) (by simp)).2
  | wakes b time => exact ((before.move b .wakeQueued none []).congr (by simp) (by simp)).2
  | empties b => exact (before.enterEmpty b).2
  | grant b g rest =>
    have taken : DutiesLegal (s.putArbiter { s.arbiter with grants := rest }) := before.congr rfl rfl
    exact (State.grantReached_dutiesLegal taken g).2
  | fan f r follows => exact (before.fan (by rw [follows.duty]; exact before.2.2 f)).2
  | fanMoves f r e there state duty =>
    have within : r.duty ≤ 100 := by
      rw [duty]
      rcases state with k | k <;> rw [k]
      · exact Nat.le_refl _
      · exact before.2.1 _
    have moved : DutiesLegal (((s.putFan f r).raise e).fanNotice f) :=
      (before.fan (f := f) within).congr (by simp) (by simp)
    exact (moved.retarget false _).2
  | readStart => exact (before.records (t := s.putCooling _) rfl rfl rfl).2
  | sensor k result =>
    unfold State.sensorResult
    dsimp only
    have held : DutiesLegal ((s.putCooling { s.cooling with
        sensors := Table.put s.cooling.sensors k ((s.cooling.sensors.get k).result result) }).raiseAll
        (sensorEvents k (s.cooling.sensors.get k) ((s.cooling.sensors.get k).result result))) :=
      before.records (by simp) (by simp) (by simp)
    split
    · exact held.2
    · exact (held.reviewZones _).2
  | reports reports zs =>
    have put : DutiesLegal (s.putCooling { s.cooling with reports := reports }) := before.records rfl rfl rfl
    exact (put.reviewZones zs).2
  | evaluation =>
    have put : DutiesLegal (s.putCooling { s.cooling with evaluation := 1000 }) := before.records rfl rfl rfl
    exact (put.retargetAll true).2
  | checkEnds => exact (State.checkEnds_dutiesLegal before).2
  | airCurve z c =>
    have put : DutiesLegal (s.putCfg { s.cfg with airCurves := Table.put s.cfg.airCurves z.number c }) :=
      before.congr rfl rfl
    exact (put.retarget false z).2
  | common c new =>
    have put : DutiesLegal (s.putCfg { s.cfg with common := c }) := ⟨new, before.2⟩
    exact (put.reviewZones allZones).2
  | fanSettings f x => exact (State.writeFan_dutiesLegal before f x).2
  | policy w b =>
    have put : DutiesLegal (s.putCfg { s.cfg with bays := Table.put s.cfg.bays b ((s.baySettings b).written w) }) :=
      before.congr rfl rfl
    unfold State.setPolicyBay
    dsimp only
    split
    · exact put.2
    · exact (put.reviewZones _).2
  | reload x => exact State.reloadedCooling_bounded legal before.2
  | judge z => exact (before.judgeZone z).2
  | cold straps => exact State.coldStart_duties straps
  | tick =>
    refine ⟨before.2.1, fun f => ?_⟩
    simpa [State.fan, State.tick, Cooling.tick, FanRecord.tick] using before.2.2 f
  | _ => exact kept (by simp)

end Sys2Proof.Machine
end

section
/-! SUPPORT. What the effects keep of the cooling: no zone cooled short of its target. -/

namespace Sys2Proof.Machine

variable {s t : State} {b : Bay} {p q : Zone → Prop}

/-- No zone is cooled short of its target but those marked, whose target is yet to be formed anew; and every duty is 100 while
the fan check runs. -/
def CooledBut (p : Zone → Prop) (s : State) : Prop :=
  (∀ z, ¬ p z → s.zoneTarget z ≤ (s.zone z).duty) ∧
    (s.cooling.fanCheck.isSome = true → ∀ z, (s.zone z).duty = 100)

theorem CooledEnough.but (h : CooledEnough s) : CooledBut p s := ⟨fun z _ => h.1 z, h.2⟩

theorem CooledBut.enough (h : CooledBut p s) (none : ∀ z, ¬ p z) : CooledEnough s := ⟨fun z => h.1 z (none z), h.2⟩

theorem CooledBut.mono (h : CooledBut p s) (weaker : ∀ z, p z → q z) : CooledBut q s :=
  ⟨fun z out => h.1 z fun k => out (weaker z k), h.2⟩

/-- The duties stand, and the targets of the zones that are not marked. -/
theorem CooledBut.stands (h : CooledBut p s) (check : t.cooling.fanCheck.isSome = s.cooling.fanCheck.isSome)
    (duty : ∀ z, (t.zone z).duty = (s.zone z).duty) (target : ∀ z, ¬ q z → ¬ p z ∧ t.zoneTarget z = s.zoneTarget z) :
    CooledBut q t := by
  refine ⟨fun z out => ?_, fun k z => ?_⟩
  · obtain ⟨stood, same⟩ := target z out
    rw [same, duty]
    exact h.1 z stood
  · rw [duty]
    exact h.2 (check ▸ k) z

/-- What reads the same to the cooling controller. -/
theorem CooledBut.congr (h : CooledBut p s) (cooling : t.cooling = s.cooling) (bays : t.bays = s.bays)
    (settings : t.cfg.bays = s.cfg.bays) (curves : t.cfg.airCurves = s.cfg.airCurves)
    (common : t.cfg.common = s.cfg.common) : CooledBut p t := by
  refine h.stands (by rw [cooling]) (fun z => by rw [State.zone, cooling, State.zone]) fun z out => ⟨out, ?_⟩
  refine State.zoneTarget_stands z common (fun c => ?_) (fun c _ => ?_) (fun c _ => ?_) ?_ ?_ ?_
  · rw [State.zoneOf, State.baySettings, settings, State.zoneOf, State.baySettings]
  · rw [State.bay, State.bay, bays]
    exact ⟨rfl, rfl⟩
  · rw [State.freshTemp, cooling, State.freshTemp]
  · rw [State.airTerm, State.airInput, cooling, curves, State.airTerm, State.airInput]
  · rw [cooling]
  · rw [State.zoneFanFailed, cooling, State.zoneFanFailed]

/-- Records of bays that give the heat they gave. -/
theorem CooledEnough.records (h : CooledEnough s) (cooling : t.cooling = s.cooling) (cfg : t.cfg = s.cfg)
    (bays : ∀ c, (s.bay c).SameHeat (t.bay c)) : CooledEnough t := by
  refine (h.but.stands (q := fun _ => False) (p := fun _ => False) (by rw [cooling])
    (fun z => by rw [State.zone, cooling, State.zone]) fun z out => ⟨out, ?_⟩).enough fun _ => id
  refine State.zoneTarget_stands z (by rw [cfg]) (fun c => ?_) (fun c _ => bays c) (fun c _ => ?_) ?_ ?_ ?_
  · rw [State.zoneOf, State.baySettings, cfg, State.zoneOf, State.baySettings]
  · rw [State.freshTemp, cooling, State.freshTemp]
  · rw [State.airTerm, State.airInput, cooling, cfg, State.airTerm, State.airInput]
  · rw [cooling]
  · rw [State.zoneFanFailed, cooling, State.zoneFanFailed]

/-- One bay's record changes, and the target of its zone may. -/
theorem CooledBut.bay (h : CooledEnough s) (cooling : t.cooling = s.cooling) (cfg : t.cfg = s.cfg)
    (bays : ∀ c, c ≠ b → t.bay c = s.bay c) : CooledBut (fun z => z = s.zoneOf b) t := by
  refine h.but.stands (p := fun _ => False) (by rw [cooling]) (fun z => by rw [State.zone, cooling, State.zone])
    fun z out => ⟨id, ?_⟩
  refine State.zoneTarget_stands z (by rw [cfg]) (fun c => ?_) (fun c own => ?_) (fun c _ => ?_) ?_ ?_ ?_
  · rw [State.zoneOf, State.baySettings, cfg, State.zoneOf, State.baySettings]
  · rw [bays c (fun same => out (by rw [← own, same]))]
    exact ⟨rfl, rfl⟩
  · rw [State.freshTemp, cooling, State.freshTemp]
  · rw [State.airTerm, State.airInput, cooling, cfg, State.airTerm, State.airInput]
  · rw [cooling]
  · rw [State.zoneFanFailed, cooling, State.zoneFanFailed]

/-! ## Targets formed anew -/

theorem State.retarget_zoneTarget (s : State) (a : Bool) (y z : Zone) : (s.retarget a y).zoneTarget z = s.zoneTarget z :=
  (s.retarget_settles a y).zoneTarget z

/-- A zone whose target is formed anew is cooled to it (R137). -/
theorem CooledBut.retarget (h : CooledBut p s) (legal : s.cfg.common.legal) (a : Bool) (y : Zone) :
    CooledBut (fun z => p z ∧ z ≠ y) (s.retarget a y) := by
  have check := (s.retarget_settles a y).fanCheck
  refine ⟨fun z out => ?_, fun k z => ?_⟩
  · rw [State.retarget_zoneTarget, State.retarget_zone]
    split
    · rename_i same
      subst same
      by_cases running : s.cooling.fanCheck.isSome = true
      · have held : s.newDuty a y = (s.zone y).duty := by simp [State.newDuty, dutyAfter, running]
        show s.zoneTarget y ≤ s.newDuty a y
        rw [held, h.2 running y]
        exact s.zoneTarget_le legal y
      · show s.zoneTarget y ≤ s.newDuty a y
        cases a
        · rw [State.newDuty_false, if_neg running]
          exact Nat.le_max_right _ _
        · rw [State.newDuty_true, if_neg running]
          exact Nat.le_max_left _ _
    · rename_i other
      exact h.1 z fun k => out ⟨k, Ne.symm other⟩
  · rw [check] at k
    rw [State.retarget_zone]
    split
    · show s.newDuty a z = 100
      simp [State.newDuty, dutyAfter, k, h.2 k z]
    · exact h.2 k z

theorem CooledBut.judgeZone (h : CooledBut p s) (y : Zone) : CooledBut p (s.judgeZone y) :=
  h.stands (by rw [(s.judgeZone_settles y).fanCheck]) (s.judgeZone_duty y)
    fun z out => ⟨out, (s.judgeZone_settles y).zoneTarget z⟩

theorem CooledBut.reviewZone (h : CooledBut p s) (legal : s.cfg.common.legal) (y : Zone) :
    CooledBut (fun z => p z ∧ z ≠ y) (s.reviewZone y) := (h.retarget legal false y).judgeZone y

theorem CooledBut.reviewZones (zs : List Zone) (h : CooledBut p s) (legal : s.cfg.common.legal) :
    CooledBut (fun z => p z ∧ z ∉ zs) (s.reviewZones zs) := by
  induction zs generalizing s p with
  | nil => exact h.mono fun z k => ⟨k, by simp⟩
  | cons y zs ih =>
    have first := ih (h.reviewZone legal y) (by rw [State.reviewZone_cfg]; exact legal)
    refine first.mono fun z k => ⟨k.1.1, ?_⟩
    rw [List.mem_cons]
    exact fun mem => mem.elim k.1.2 k.2

theorem CooledBut.foldl_retarget (a : Bool) (zs : List Zone) (h : CooledBut p s) (legal : s.cfg.common.legal) :
    CooledBut (fun z => p z ∧ z ∉ zs) (zs.foldl (fun t z => t.retarget a z) s) := by
  induction zs generalizing s p with
  | nil => exact h.mono fun z k => ⟨k, by simp⟩
  | cons y zs ih =>
    have first := ih (h.retarget legal a y) (by rw [State.retarget_cfg]; exact legal)
    refine first.mono fun z k => ⟨k.1.1, ?_⟩
    rw [List.mem_cons]
    exact fun mem => mem.elim k.1.2 k.2

theorem CooledBut.retargetAll (h : CooledBut p s) (legal : s.cfg.common.legal) (a : Bool) :
    CooledEnough (s.retargetAll a) :=
  (CooledBut.foldl_retarget a allZones h legal).enough fun z k => k.2 (mem_allZones z)

/-- Every marked zone is among those reviewed. -/
theorem CooledBut.reviewed {zs : List Zone} (h : CooledBut p s) (legal : s.cfg.common.legal) (all : ∀ z, p z → z ∈ zs) :
    CooledEnough (s.reviewZones zs) := (CooledBut.reviewZones zs h legal).enough fun z k => k.2 (all z k.1)

/-- The one marked zone's target is formed anew. -/
theorem CooledBut.retargeted {y : Zone} (h : CooledBut (fun z => z = y) s) (legal : s.cfg.common.legal) (a : Bool) :
    CooledEnough (s.retarget a y) := (h.retarget legal a y).enough fun _ k => k.2 k.1

/-! ## The operations -/

theorem CooledEnough.congr (h : CooledEnough s) (cooling : t.cooling = s.cooling) (bays : t.bays = s.bays)
    (settings : t.cfg.bays = s.cfg.bays) (curves : t.cfg.airCurves = s.cfg.airCurves)
    (common : t.cfg.common = s.cfg.common) : CooledEnough t :=
  ((h.but (p := fun _ => False)).congr cooling bays settings curves common).enough fun _ => id

/-- What leaves the bays, the cooling controller and the configuration. -/
theorem CooledEnough.frame (h : CooledEnough s) (cooling : t.cooling = s.cooling) (bays : t.bays = s.bays)
    (cfg : t.cfg = s.cfg) : CooledEnough t := h.congr cooling bays (by rw [cfg]) (by rw [cfg]) (by rw [cfg])

theorem State.budgeted_bay (s : State) (b c : Bay) (new : BayState) (timer : Option Nat) (es : List Event) :
    (s.budgeted b new timer es).bay c = if b = c then (s.bay b).enter new timer else s.bay c := by
  rw [State.budgeted, State.bay, State.budgetNotice_bays, State.raiseAll_bays]
  exact State.bay_onBay s b c _

/-- A bay that moves from another record of its own: the target of its zone is formed anew after it. -/
theorem CooledEnough.moveAfter (h : CooledEnough s) (legal : s.cfg.common.legal) {u : State}
    (cooling : u.cooling = s.cooling) (cfg : u.cfg = s.cfg) (bays : ∀ c, c ≠ b → u.bay c = s.bay c) (new : BayState)
    (timer : Option Nat) (es : List Event) : CooledEnough (u.move b new timer es) := by
  have moved : CooledBut (fun z => z = s.zoneOf b) (u.budgeted b new timer es) :=
    .bay h ((State.budgeted_cooling u b new timer es).trans cooling) ((State.budgeted_cfg u b new timer es).trans cfg)
      fun c other => by rw [State.budgeted_bay, if_neg (Ne.symm other), bays c other]
  have zone : (u.budgeted b new timer es).zoneOf b = s.zoneOf b := by
    rw [State.zoneOf, State.baySettings, State.budgeted_cfg, cfg, State.zoneOf, State.baySettings]
  rw [State.move_cooled, State.coolingNotice, zone]
  exact (moved.retargeted (by rw [State.budgeted_cfg, cfg]; exact legal) false).frame (State.lightNotice_cooling _ b)
    (State.lightNotice_bays _ b) (State.lightNotice_cfg _ b)

theorem CooledEnough.move (h : CooledEnough s) (legal : s.cfg.common.legal) (b : Bay) (new : BayState)
    (timer : Option Nat) (es : List Event) : CooledEnough (s.move b new timer es) :=
  h.moveAfter legal rfl rfl (fun _ _ => rfl) new timer es

/-- Drive reports change, and the targets of the zones of their bays may. -/
theorem CooledBut.reports (h : CooledEnough s) (reports : Table (Option DriveReport) 24)
    (zones : ∀ b, reports.get b ≠ s.cooling.reports.get b → p (s.zoneOf b)) :
    CooledBut p (s.putCooling { s.cooling with reports := reports }) := by
  refine h.but.stands (p := fun _ => False) rfl (fun z => rfl) fun z out => ⟨id, ?_⟩
  refine State.zoneTarget_stands z rfl (fun c => Iff.rfl) (fun c _ => ⟨rfl, rfl⟩) (fun c own => ?_) rfl rfl rfl
  have same : reports.get c = s.cooling.reports.get c := by
    by_contra differs
    exact out (own ▸ zones c differs)
  rw [State.freshTemp, State.putCooling_cooling, same, State.freshTemp]

theorem CooledEnough.discardReport (h : CooledEnough s) (legal : s.cfg.common.legal) (b : Bay) :
    CooledEnough (s.discardReport b) := by
  unfold State.discardReport
  split
  · exact h
  · have discarded : CooledBut (fun z => z = s.zoneOf b)
        (s.putCooling { s.cooling with reports := Table.put s.cooling.reports b none }) := .reports h _ fun c differs => by
      by_cases same : b = c
      · rw [same]
      · rw [Table.get_put_ne _ same] at differs
        exact absurd rfl differs
    exact (discarded.reviewZone legal _).enough fun _ k => k.2 k.1

theorem State.emptying_bay (s : State) (b c : Bay) : (s.emptying b).bay c =
    if b = c then (s.bay b).emptied else s.bay c := by
  rw [State.emptying, State.unquarantine_bay, State.bay_onBay, State.bay_move]
  by_cases same : b = c
  · subst same
    simp [BayRecord.emptied]
  · simp [same, State.bay_move]

theorem CooledEnough.enterEmpty (h : CooledEnough s) (legal : s.cfg.common.legal) (b : Bay) :
    CooledEnough (s.enterEmpty b) := by
  have moved := h.move legal b .empty none (removedEvents (s.bay b) b)
  have emptying : CooledEnough (s.emptying b) := by
    refine moved.records (State.emptying_cooling s b) (by rw [State.emptying_cfg, State.move_cfg]) fun c => ?_
    rw [State.emptying_bay, State.bay_move]
    split
    · exact BayRecord.sameHeat_of rfl rfl
    · exact ⟨rfl, rfl⟩
  rw [State.enterEmpty_eq]
  have cfg : (clearedAtEmpty.foldl (fun t c => t.setCond b c false) (s.emptying b)).cfg = s.cfg := by
    rw [foldl_keeps State.cfg (fun t k => t.setCond_cfg b k false), State.emptying_cfg]
  refine CooledEnough.discardReport (emptying.frame (t := clearedAtEmpty.foldl (fun t c => t.setCond b c false) (s.emptying b))
    ?_ ?_ ?_) (by rw [cfg]; exact legal) b
  · rw [foldl_keeps State.cooling (fun t k => t.setCond_cooling b k false)]
  · rw [foldl_keeps State.bays (fun t k => t.setCond_bays b k false)]
  · rw [cfg, State.emptying_cfg]

theorem State.grantReached_cooled (h : CooledEnough s) (legal : s.cfg.common.legal) (g : Grant) :
    CooledEnough (s.grantReached g) := by
  unfold State.grantReached State.carryOut
  split
  · cases g.kind with
    | wake => exact h.move legal _ _ _ _
    | powerOn =>
      exact h.moveAfter legal (by simp) (by simp) (fun c other => by simp [Ne.symm other]) .ramping none []
  · exact h.frame rfl rfl rfl

/-! ## Fans and sensors -/

theorem State.zoneFanFailed_congr {z : Zone} (states : ∀ f, zoneOfFan f = z → (t.fan f).state = (s.fan f).state) :
    t.zoneFanFailed z = s.zoneFanFailed z := by
  unfold State.zoneFanFailed
  rw [Bool.eq_iff_iff, List.any_eq_true, List.any_eq_true]
  refine exists_congr fun f => and_congr_right fun mem => ?_
  have same := states f (mem_fans_iff.mp mem)
  rw [State.fan, State.fan] at same
  rw [same]

/-- Fan records and fan settings change, and the targets of the zones whose fans change state may. -/
theorem CooledBut.fans (h : CooledEnough s) (cooling : t.cooling = { s.cooling with fans := t.cooling.fans })
    (bays : t.bays = s.bays) (settings : t.cfg.bays = s.cfg.bays) (curves : t.cfg.airCurves = s.cfg.airCurves)
    (common : t.cfg.common = s.cfg.common)
    (states : ∀ f, ¬ p (zoneOfFan f) → (t.fan f).state = (s.fan f).state) : CooledBut p t := by
  refine h.but.stands (p := fun _ => False) (by rw [cooling]) (fun z => by rw [State.zone, cooling, State.zone])
    fun z out => ⟨id, ?_⟩
  refine State.zoneTarget_stands z common (fun c => ?_) (fun c _ => ?_) (fun c _ => ?_) ?_ ?_ ?_
  · rw [State.zoneOf, State.baySettings, settings, State.zoneOf, State.baySettings]
  · rw [State.bay, State.bay, bays]
    exact ⟨rfl, rfl⟩
  · rw [State.freshTemp, cooling, State.freshTemp]
  · rw [State.airTerm, State.airInput, cooling, curves, State.airTerm, State.airInput]
  · rw [cooling]
  · exact State.zoneFanFailed_congr fun f own => states f (own ▸ out)

/-- One fan's record is replaced. -/
theorem CooledBut.fan (h : CooledEnough s) (f : Fan) (r : FanRecord) :
    CooledBut (fun z => z = zoneOfFan f) (s.putFan f r) := by
  refine .fans h rfl rfl rfl rfl rfl fun g out => ?_
  rw [State.putFan_fan, if_neg (fun same => out (by rw [same]))]

theorem CooledEnough.fan (h : CooledEnough s) {f : Fan} {r : FanRecord} (state : r.state = (s.fan f).state) :
    CooledEnough (s.putFan f r) := by
  refine CooledBut.enough (p := fun _ => False) (.fans h rfl rfl rfl rfl rfl fun g _ => ?_) fun _ => id
  rw [State.putFan_fan]
  split
  · rename_i same
    exact same ▸ state
  · rfl

/-- Sensor records change, and the targets of the zones that read a changed one may. -/
theorem CooledBut.sensors (h : CooledEnough s) (sensors : Table SensorRecord 4) (x : Nat)
    (states : ∀ z, ¬ p z → ∀ k, k = z.sensor ∨ k = inletSensor → (sensors.get k).state = (s.cooling.sensors.get k).state ∧
      (sensors.get k).held = (s.cooling.sensors.get k).held) :
    CooledBut p (s.putCooling { s.cooling with sensors := sensors, sensorRead := x }) := by
  refine h.but.stands (p := fun _ => False) rfl (fun z => rfl) fun z out => ⟨id, ?_⟩
  have counted : ∀ k, k = z.sensor ∨ k = inletSensor →
      (sensors.get k).counted = (s.cooling.sensors.get k).counted := fun k reads => by
    obtain ⟨state, held⟩ := states z out k reads
    rw [SensorRecord.counted, state, held, SensorRecord.counted]
  refine State.zoneTarget_stands z rfl (fun c => Iff.rfl) (fun c _ => ⟨rfl, rfl⟩) (fun c _ => rfl) ?_ ?_ rfl
  · rw [State.airTerm, State.airInput, State.putCooling_cooling, counted _ (.inl rfl), counted _ (.inr rfl), State.airTerm,
      State.airInput, State.putCooling_cfg]
  · exact (states z out _ (.inl rfl)).1

theorem mem_zonesReading (k : Sensor) (z : Zone) : z ∈ zonesReading k ↔ z.sensor = k ∨ k = inletSensor := by
  simp [zonesReading, mem_allZones]

theorem State.sensorResult_cooled (h : CooledEnough s) (legal : s.cfg.common.legal) (k : Sensor) (result : Option Int) :
    CooledEnough (s.sensorResult k result) := by
  unfold State.sensorResult
  dsimp only
  split
  · rename_i same
    refine (CooledBut.sensors (p := fun _ => False) h (Table.put s.cooling.sensors k
      ((s.cooling.sensors.get k).result result)) s.cooling.sensorRead fun z _ j _ => ?_).enough (fun _ => id)
        |>.frame (by simp) (by simp) (by simp)
    rw [Table.get_put]
    split
    · rename_i at_k
      exact at_k ▸ same
    · exact ⟨rfl, rfl⟩
  · have held : CooledBut (fun z => z ∈ zonesReading k) ((s.putCooling { s.cooling with
        sensors := Table.put s.cooling.sensors k ((s.cooling.sensors.get k).result result) }).raiseAll
        (sensorEvents k (s.cooling.sensors.get k) ((s.cooling.sensors.get k).result result))) := by
      refine CooledBut.congr (.sensors h (Table.put s.cooling.sensors k ((s.cooling.sensors.get k).result result))
        s.cooling.sensorRead fun z out j reads => ?_) (by simp) (by simp) (by simp) (by simp) (by simp)
      rw [mem_zonesReading, not_or] at out
      have other : k ≠ j := by
        rintro rfl
        exact reads.elim (fun e => out.1 e.symm) out.2
      rw [Table.get_put_ne _ other]
      exact ⟨rfl, rfl⟩
    exact held.reviewed (by simpa using legal) fun _ => id

/-! ## The end of the fan check, the settings and the restarts -/

/-- At the end of the fan check the targets of all zones are formed anew (R142). -/
theorem State.checkEnds_cooled (legal : s.cfg.common.legal) : CooledEnough s.checkEnds := by
  have judged : CooledBut (fun _ => True) s.fansJudged :=
    ⟨fun z out => absurd trivial out, fun k => by rw [State.fansJudged_fanCheck] at k; cases k⟩
  have noticed : ∀ fs : List Fan, CooledBut (fun _ => True) (fs.foldl State.fanNotice s.fansJudged) := fun fs => by
    have settles := Settles.foldl (fun t f => t.fanNotice_settles f) fs s.fansJudged
    refine judged.congr ?_ settles.bays (by rw [settles.cfg]) (by rw [settles.cfg]) (by rw [settles.cfg])
    exact foldl_keeps State.cooling State.fanNotice_cooling fs s.fansJudged
  have raised := (noticed (allFans.filter fun f => (s.fan f).state == .checking)).retargetAll (by
    rw [foldl_keeps State.cfg State.fanNotice_cfg, State.fansJudged_cfg]
    exact legal) false
  rw [State.checkEnds_eq]
  refine raised.frame ?_ ?_ ?_
  · rw [State.holdEnds, State.trigger_cooling, State.putArbiter_cooling]
  · rw [State.holdEnds, State.trigger_bays, State.putArbiter_bays]
  · rw [State.holdEnds, State.trigger_cfg, State.putArbiter_cfg]

theorem State.fanWritten_cfg (s : State) (f : Fan) (x : FanSettings) :
    (s.fanWritten f x).cfg = { s.cfg with fans := Table.put s.cfg.fans f x } := rfl

theorem State.fanNotice_cooledBut (h : CooledBut p s) (f : Fan) : CooledBut p (s.fanNotice f) :=
  h.congr (s.fanNotice_cooling f) (s.fanNotice_bays f) (by rw [s.fanNotice_cfg]) (by rw [s.fanNotice_cfg])
    (by rw [s.fanNotice_cfg])

theorem State.writeFan_cooled (h : CooledEnough s) (legal : s.cfg.common.legal) (f : Fan) (x : FanSettings) :
    CooledEnough (s.writeFan f x) := by
  have put : CooledEnough (s.putCfg { s.cfg with fans := Table.put s.cfg.fans f x }) := h.congr rfl rfl rfl rfl rfl
  have written : CooledBut (fun z => z = zoneOfFan f) (s.fanWritten f x) := .fan put f _
  have noticed := State.fanNotice_cooledBut written f
  have common : (s.fanWritten f x).cfg.common.legal := legal
  unfold State.writeFan
  dsimp only
  split
  · rename_i same
    have stands : CooledEnough (s.fanWritten f x) := put.fan same
    split
    · exact stands
    · exact (State.fanNotice_cooledBut (p := fun _ => False) stands.but f).enough fun _ => id
  · split
    · exact written.retargeted common false
    · exact noticed.retargeted (by rw [State.fanNotice_cfg]; exact common) false

theorem State.policy_cooled (h : CooledEnough s) (legal : s.cfg.common.legal) (w : PolicyWrite) (b : Bay) :
    CooledEnough (s.setPolicyBay w b).1 := by
  have zone : ∀ c, (s.putCfg { s.cfg with bays := Table.put s.cfg.bays b ((s.baySettings b).written w) }).zoneOf c =
      if b = c then w.zone.getD (s.zoneOf b) else s.zoneOf c := fun c => by
    rw [State.zoneOf, State.baySettings, State.putCfg_cfg, Table.get_put]
    split <;> rfl
  have written : CooledBut (fun z => w.zone.isSome = true ∧ (z = s.zoneOf b ∨ z = w.zone.getD (s.zoneOf b)))
      (s.putCfg { s.cfg with bays := Table.put s.cfg.bays b ((s.baySettings b).written w) }) := by
    refine h.but.stands (p := fun _ => False) rfl (fun z => rfl) fun z out => ⟨id, ?_⟩
    refine State.zoneTarget_stands z rfl (fun c => ?_) (fun c _ => ⟨rfl, rfl⟩) (fun c _ => rfl) rfl rfl rfl
    rw [zone]
    by_cases same : b = c
    · subst same
      rw [if_pos rfl]
      cases new : w.zone with
      | none => rfl
      | some y =>
        simp only [new, Option.isSome_some, Option.getD_some, true_and, not_or] at out
        exact ⟨fun e => absurd e.symm out.2, fun e => absurd e.symm out.1⟩
    · rw [if_neg same]
  unfold State.setPolicyBay
  dsimp only
  split
  · rename_i none
    exact written.enough fun z k => by simp [none] at k
  · rename_i z new
    refine written.reviewed legal fun y k => ?_
    rw [new] at k
    simpa using k.2

theorem State.viewed_zoneTarget (s : State) (z : Zone) : s.viewed.zoneTarget z = s.zoneTarget z :=
  State.targetWith_congr rfl rfl rfl rfl (fun _ => rfl) z 0

theorem State.reload_cooled (h : CooledEnough s) (legal : s.reloadedCooling.cfg.common.legal) :
    CooledEnough s.reloadedCooling := by
  have settles := State.budgetReloaded_settles s.reloadedFans
  have target : ∀ z, s.reloadedCooling.zoneTarget z = s.reloadedFans.zoneTarget z := fun z =>
    (settles.zoneTarget z).trans (State.viewed_zoneTarget _ z)
  have duty : ∀ z, (s.reloadedCooling.zone z).duty = (s.reloadedFans.zone z).duty := fun z => by
    rw [State.zone, State.reloadedCooling_cooling, State.zone]
  have check : s.reloadedCooling.cooling.fanCheck = s.cooling.fanCheck := by
    rw [State.reloadedCooling_cooling, State.reloadedFans_fanCheck]
  refine ⟨fun z => ?_, fun k z => ?_⟩
  · rw [duty, State.reloadedFans_duty]
    split
    · rename_i running
      rw [h.2 running z]
      exact State.zoneTarget_le legal z
    · rw [target]
      exact Nat.le_max_right _ _
  · rw [check] at k
    rw [duty, State.reloadedFans_duty, if_pos k]
    exact h.2 k z

theorem State.coldStart_cooled (straps : BitVec 3) (legal : (s.coldStart straps).cfg.common.legal) :
    CooledEnough (s.coldStart straps) := by
  have duty : ∀ z, ((s.coldStart straps).zone z).duty = 100 := fun z => by
    rw [State.zone, State.coldStart_cooling, Cooling.cold]
    simp
  exact ⟨fun z => by rw [duty]; exact State.zoneTarget_le legal z, fun _ => duty⟩

theorem State.tick_cooled (h : CooledEnough s) : CooledEnough s.tick := by
  have none : CooledBut (fun _ => False) s := h.but
  refine CooledBut.enough (p := fun _ => False) (s := s.tick) (none.stands ?_ (fun z => rfl) fun z out => ⟨out, ?_⟩)
    fun _ => id
  · simp [State.tick, Cooling.tick, countDown]
  refine State.zoneTarget_stands z rfl (fun c => Iff.rfl) (fun c _ => ?_) (fun c _ => ?_) rfl rfl ?_
  · have bay : s.tick.bay c = (s.bay c).tick := by simp [State.bay, State.tick]
    rw [bay]
    exact BayRecord.sameHeat_of rfl rfl
  · have report : s.tick.cooling.reports.get c = (s.cooling.reports.get c).map DriveReport.tick := by
      simp [State.tick, Cooling.tick]
    rw [State.freshTemp, report, State.freshTemp]
    cases s.cooling.reports.get c with
    | none => rfl
    | some r => simp [DriveReport.tick, countDown]
  · refine State.zoneFanFailed_congr fun f _ => ?_
    simp [State.fan, State.tick, Cooling.tick, FanRecord.tick]

theorem BayRecord.acrossRestart_sameHeat (r : BayRecord) : r.SameHeat r.acrossRestart := by
  unfold BayRecord.acrossRestart
  split
  all_goals rename_i state
  case h_1 | h_2 | h_3 | h_4 | h_5 | h_6 => exact ⟨rfl, rfl⟩
  case h_7 | h_13 => exact BayRecord.sameHeat_of rfl rfl
  case h_8 => simp [BayRecord.SameHeat, BayRecord.heat, BayRecord.openIn, state, BayState.drawsInrush, BayState.closedSwitch]
  all_goals
    simp [BayRecord.SameHeat, BayRecord.heat, BayRecord.closedIn, BayRecord.snap, state, BayState.drawsInrush,
      BayState.closedSwitch]

/-- Every effect leaves every zone cooled to its target. -/
theorem Effect.keeps_cooled {s t : State} (h : Effect s t) (before : s.cfg.common.legal) (after : t.cfg.common.legal)
    (cooled : CooledEnough s) : CooledEnough t := by
  cases h with
  | record b r follows =>
    refine cooled.records rfl rfl fun c => ?_
    rw [State.bay_putBay]
    split
    · rename_i same
      exact same ▸ BayRecord.sameHeat_of follows.state follows.snapshot
    · exact ⟨rfl, rfl⟩
  | code b code =>
    refine cooled.records (by simp) (by simp) fun c => ?_
    rw [State.bay_select, State.bay_onBay, State.selectedRecord, State.bay_onBay, if_pos rfl]
    by_cases same : b = c
    · subst same
      exact BayRecord.sameHeat_of (by simp) (by simp)
    · simp only [if_neg same]
      exact ⟨rfl, rfl⟩
  | select b =>
    refine cooled.records (by simp) (by simp) fun c => ?_
    rw [State.bay_select]
    split
    · rename_i same
      exact same ▸ BayRecord.sameHeat_of rfl rfl
    · exact ⟨rfl, rfl⟩
  | settling b =>
    refine cooled.records (by simp) (by simp) fun c => ?_
    rw [State.beginSettling, State.bay_onBay, State.bay_toChan, State.bay_toChan]
    split
    · rename_i same
      exact same ▸ BayRecord.sameHeat_of rfl rfl
    · exact ⟨rfl, rfl⟩
  | removal b v =>
    refine cooled.records (by simp) (by simp) fun c => ?_
    rw [State.setRemoval_bay]
    split
    · rename_i same
      exact same ▸ BayRecord.sameHeat_of rfl rfl
    · exact ⟨rfl, rfl⟩
  | move u b new timer es may marked =>
    refine cooled.moveAfter before (by cases marked <;> simp) (by cases marked <;> simp) (fun c other => ?_) new timer es
    rw [marked.bay, if_neg (Ne.symm other), State.bay, State.removeEntryIf_bays, State.bay]
  | spinDown b level => exact cooled.moveAfter before (by simp) (by simp) (fun c _ => by simp) .standby none []
  | checkedOut b =>
    have moved : CooledEnough ((s.removeEntryIf ((s.bay b).state == .queued) b).move b .idleOff none []) :=
      cooled.moveAfter before (by simp) (by simp) (fun c _ => by simp [State.bay]) .idleOff none []
    exact moved.frame (by simp) (by simp) (by simp)
  | queues b time => exact (cooled.move before b .queued none []).frame (by simp) (by simp) (by simp)
  | wakes b time => exact (cooled.move before b .wakeQueued none []).frame (by simp) (by simp) (by simp)
  | empties b => exact cooled.enterEmpty before b
  | grant b g rest =>
    have taken : CooledEnough (s.putArbiter { s.arbiter with grants := rest }) := cooled.frame rfl rfl rfl
    exact State.grantReached_cooled taken before g
  | supply x => exact cooled.congr (by simp) (by simp) (by simp) (by simp) (by simp)
  | fan f r follows => exact cooled.fan follows.state
  | fanMoves f r e =>
    have moved : CooledBut (fun z => z = zoneOfFan f) ((s.putFan f r).raise e) :=
      (CooledBut.fan cooled f r).congr rfl rfl rfl rfl rfl
    exact (State.fanNotice_cooledBut moved f).retargeted (by simpa using before) false
  | readStart =>
    refine (CooledBut.sensors (p := fun _ => False) cooled (Table.each (fun k => { k with reading := true })
      s.cooling.sensors) 1000 fun z _ k _ => ?_).enough fun _ => id
    rw [Table.get_each]
    exact ⟨rfl, rfl⟩
  | sensor k result => exact State.sensorResult_cooled cooled before k result
  | reports reports zs zones =>
    have changed : CooledBut (fun z => z ∈ zs) (s.putCooling { s.cooling with reports := reports }) :=
      .reports cooled reports zones
    exact changed.reviewed before fun _ => id
  | evaluation =>
    have put : CooledBut (fun _ => False) (s.putCooling { s.cooling with evaluation := 1000 }) :=
      cooled.but.stands (p := fun _ => False) rfl (fun z => rfl) fun z _ => ⟨id, rfl⟩
    exact put.retargetAll before true
  | checkEnds => exact State.checkEnds_cooled before
  | airCurve z c =>
    have put : CooledBut (fun y => y = z) (s.putCfg { s.cfg with airCurves := Table.put s.cfg.airCurves z.number c }) := by
      refine cooled.but.stands (p := fun _ => False) rfl (fun z => rfl) fun y out => ⟨id, ?_⟩
      refine State.zoneTarget_stands y rfl (fun c => Iff.rfl) (fun c _ => ⟨rfl, rfl⟩) (fun c _ => rfl) ?_ rfl rfl
      have other : z.number ≠ y.number := fun same => out (by cases z <;> cases y <;> first | rfl | cases same)
      rw [State.airTerm, State.putCfg_cfg, Table.get_put_ne _ other]
      rfl
    exact put.retargeted before false
  | common c legal =>
    have put : CooledBut (fun _ => True) (s.putCfg { s.cfg with common := c }) :=
      ⟨fun z out => absurd trivial out, cooled.2⟩
    exact put.reviewed legal fun z _ => mem_allZones z
  | fanSettings f x => exact State.writeFan_cooled cooled before f x
  | policy w b => exact State.policy_cooled cooled before w b
  | cfg c _ bays _ curves common => exact cooled.congr rfl rfl bays curves common
  | linkChange l speed turnaround => exact cooled.congr rfl rfl rfl rfl rfl
  | warm =>
    refine cooled.records (by simp) (by simp) fun c => ?_
    rw [State.warmAtOnce_bay]
    exact BayRecord.acrossRestart_sameHeat _
  | reload x =>
    have stored : CooledEnough (s.putStore x) := cooled.frame rfl rfl rfl
    exact State.reload_cooled stored after
  | judge z => exact ((cooled.but (p := fun _ => False)).judgeZone z).enough fun _ => id
  | cold straps => exact State.coldStart_cooled straps after
  | tick => exact State.tick_cooled cooled
  | _ => exact cooled.frame (by simp) (by simp) (by simp)

/-- Every effect keeps the ranges, and with them the cooling. -/
theorem Effect.keeps_settings {s t : State} (h : Effect s t) (range : SettingsInRange s) (cooled : CooledEnough s) :
    SettingsInRange t ∧ CooledEnough t := by
  obtain ⟨cfg, link, store, snapshots, duties⟩ := range.elim
  have common : ∀ c : Settings, c.legal → c.common.legal := fun _ ⟨_, _, _, _, _, k, _⟩ => k
  have cfg' := h.keeps_cfg cfg link store
  exact ⟨.intro cfg' (h.keeps_linkLegal link) (h.keeps_storeLegal cfg store) (h.keeps_snapshots cfg snapshots)
    (h.keeps_duties (common _ cfg') ⟨common _ cfg, duties⟩), h.keeps_cooled (common _ cfg) (common _ cfg') cooled⟩

end Sys2Proof.Machine
end

section
/-! The statements about what every step keeps, settled: the ranges and the cooling. -/

namespace Sys2Proof.Machine

/-- Settles O53: every effect keeps the ranges of the settings and leaves no zone cooled short of its target. -/
theorem stepKeepsSettingsInRange : Obligations.StepKeepsSettingsInRange := fun _ range cooled =>
  step_keeps (P := fun s => SettingsInRange s ∧ CooledEnough s) (fun _ _ effect h => effect.keeps_settings h.1 h.2)
    ⟨range, cooled⟩

end Sys2Proof.Machine
end

section
/-! SUPPORT. What the spin queue is kept sound by: joins, removals, answers, passes and the notices behind which passes
run. -/

namespace Sys2Proof.Machine

variable {s t : State} {b : Bay} {p : Bay → Prop}

/-! ## What the notices keep -/

/-- A fact that holds behind every notice: kept by a trigger, by any change of the cooling controller and the event queue, and
by what a recomputation does to the budget unit. -/
structure Behind (P : State → Prop) : Prop where
  trigger : ∀ s, P s → P s.trigger
  figures : ∀ s x, P s → P (s.putBudget { s.budget with figures := x })
  state : ∀ s v, P s → P (s.putBudget { s.budget with overcommitted := v })
  views : ∀ s v, P s → P (s.putBudget { s.budget with fanViews := v })
  revoke : ∀ s b xs, b ∈ s.budget.grantOrder → P s →
    P (s.putBudget { s.budget with outstanding := some b, revocations := xs })
  cooling : ∀ s x, P s → P (s.putCooling x)
  raise : ∀ s e, P s → P (s.raise e)

/-- A fact that is not about the budget unit. -/
theorem Behind.of_budget {P : State → Prop} (trigger : ∀ s, P s → P s.trigger) (budget : ∀ s x, P s → P (s.putBudget x))
    (cooling : ∀ s x, P s → P (s.putCooling x)) (raise : ∀ s e, P s → P (s.raise e)) : Behind P :=
  ⟨trigger, fun _ _ => budget _ _, fun _ _ => budget _ _, fun _ _ => budget _ _, fun _ _ _ _ => budget _ _, cooling, raise⟩

namespace Behind

variable {P : State → Prop}

theorem triggerIf (k : Behind P) (c : Bool) (h : P s) : P (s.triggerIf c) := by
  unfold State.triggerIf
  split
  · exact k.trigger s h
  · exact h

theorem raiseAll (k : Behind P) (es : List Event) (h : P s) : P (s.raiseAll es) := by
  induction es generalizing s with
  | nil => exact h
  | cons e es ih => exact ih (k.raise s e h)

theorem foldl (_ : Behind P) {α : Type} {f : State → α → State} (keeps : ∀ t a, P t → P (f t a)) (l : List α) {s : State}
    (h : P s) : P (l.foldl f s) := by
  induction l generalizing s with
  | nil => exact h
  | cons a l ih => exact ih (keeps s a h)

theorem budgetState (k : Behind P) (h : P s) : P s.budgetState := by
  unfold State.budgetState
  dsimp only
  split
  · exact k.raise _ _ (k.state _ _ h)
  · split
    · exact k.raise _ _ (k.state _ _ h)
    · exact h

theorem revocationStep (k : Behind P) (h : P s) : P s.revocationStep := by
  unfold State.revocationStep
  split
  · split
    · exact h
    · rename_i b newest
      exact k.revoke s b _ (List.mem_of_getLast? newest) h
  · exact h

theorem budgetTriggers (k : Behind P) (x : Figures) (h : P s) : P (s.budgetTriggers x) :=
  k.triggerIf _ (k.triggerIf _ h)

theorem recompute (k : Behind P) (h : P s) : P s.recompute :=
  k.budgetTriggers _ (k.revocationStep (k.budgetState (k.figures _ _ h)))

theorem recomputeForSlot (k : Behind P) (i : Slot) (h : P s) : P (s.recomputeForSlot i) :=
  k.budgetTriggers _ (k.revocationStep (k.budgetState (k.raise _ _ (k.figures _ _ h))))

theorem fanNotice (k : Behind P) (f : Fan) (h : P s) : P (s.fanNotice f) := k.recompute (k.views _ _ h)

theorem commandFan (k : Behind P) (d : Nat) (f : Fan) (h : P s) : P (s.commandFan d f) := by
  unfold State.commandFan
  split
  · exact k.fanNotice f (k.cooling _ _ h)
  · exact h

theorem retarget (k : Behind P) (a : Bool) (z : Zone) (h : P s) : P (s.retarget a z) := by
  unfold State.retarget
  dsimp only
  split
  · exact h
  · exact k.foldl (fun t f => k.commandFan _ f) _ (k.cooling _ _ h)

theorem judgeZone (k : Behind P) (z : Zone) (h : P s) : P (s.judgeZone z) := by
  unfold State.judgeZone
  dsimp only
  split
  · exact h
  · exact k.triggerIf _ (k.raise _ _ (k.cooling _ _ h))

theorem reviewZone (k : Behind P) (z : Zone) (h : P s) : P (s.reviewZone z) := k.judgeZone z (k.retarget false z h)

theorem reviewZones (k : Behind P) (zs : List Zone) (h : P s) : P (s.reviewZones zs) :=
  k.foldl (fun _ z => k.reviewZone z) zs h

theorem retargetAll (k : Behind P) (a : Bool) (h : P s) : P (s.retargetAll a) :=
  k.foldl (fun _ z => k.retarget a z) allZones h

theorem discardReport (k : Behind P) (b : Bay) (h : P s) : P (s.discardReport b) := by
  unfold State.discardReport
  split
  · exact h
  · exact k.reviewZone _ (k.cooling _ _ h)

end Behind

/-! ## The arbiter alone -/

/-- The queue holds no bay twice and is in class order, one answer is on its way while a grant awaits it, and the record fits
the grant sent and the queue (R74, R75, R86 to R89, R92). -/
structure Arbiter.Sound (a : Arbiter) : Prop where
  nodup : (a.queue.map QueueEntry.bay).Nodup
  sorted : a.queue.Pairwise (fun x y => x.cls ≤ y.cls)
  answers : a.answersOnWay = a.grantRecord.toList.length
  sent : ∀ g ∈ a.grants, g.stale = false → ∃ r, a.grantRecord = some r ∧ r.bay = g.bay ∧ r.kind = g.kind
  stands : ∀ r, a.grantRecord = some r → r.removed = false → ∃ e ∈ a.queue, e.bay = r.bay ∧ e.kind = r.kind
  bypassed : ∀ r, a.grantRecord = some r → ∀ h, r.bypassed = some h → ∃ e ∈ a.queue, e.bay = h

theorem Arbiter.Sound.congr {a a' : Arbiter} (h : a.Sound) (queue : a'.queue = a.queue)
    (record : a'.grantRecord = a.grantRecord) (grants : a'.grants = a.grants) (declines : a'.declines = a.declines) :
    a'.Sound := by
  obtain ⟨nodup, sorted, answers, sent, stands, bypassed⟩ := h
  refine ⟨by rwa [queue], by rwa [queue], ?_, by rwa [grants, record], by rwa [record, queue], by rwa [record, queue]⟩
  rwa [Arbiter.answersOnWay, grants, declines, record]

theorem Arbiter.answersOnWay_eq_zero {a : Arbiter} : a.answersOnWay = 0 ↔
    (∀ g ∈ a.grants, g.stale = true) ∧ ∀ d ∈ a.declines, d.stale = true := by
  simp [Arbiter.answersOnWay]

/-- A pass that grants names an entry of the queue, and as the bypassed head another (R84). -/
theorem State.passDecision_mem (s : State) :
    (∀ e, s.passDecision.granted = some e → e ∈ s.arbiter.queue) ∧
      ∀ e, s.passDecision.head = some e → e ∈ s.arbiter.queue := by
  have inFiltered : ∀ {e head : QueueEntry} {rest : List QueueEntry},
      s.arbiter.queue.filter (fun e => !s.skipped e) = head :: rest → e ∈ head :: rest → e ∈ s.arbiter.queue :=
    fun filtered mem => (List.mem_filter.mp (filtered ▸ mem)).1
  unfold State.passDecision
  split
  · exact ⟨nofun, nofun⟩
  · split
    · exact ⟨nofun, nofun⟩
    · split
      · exact ⟨nofun, nofun⟩
      · rename_i head rest filtered
        have first : head ∈ s.arbiter.queue := inFiltered filtered List.mem_cons_self
        split
        · exact ⟨fun e k => Option.some.inj k ▸ first, fun e k => Option.some.inj k ▸ first⟩
        · split
          · split
            · rename_i e found
              have later : e ∈ s.arbiter.queue :=
                inFiltered filtered (List.mem_cons_of_mem _ (List.mem_of_find?_eq_some found))
              exact ⟨fun e k => Option.some.inj k ▸ later, fun e k => Option.some.inj k ▸ first⟩
            · exact ⟨nofun, fun e k => Option.some.inj k ▸ first⟩
          · exact ⟨nofun, fun e k => Option.some.inj k ▸ first⟩

/-- A trigger keeps the arbiter sound (R82, R86). -/
theorem State.trigger_sound (h : s.arbiter.Sound) : s.trigger.arbiter.Sound := by
  unfold State.trigger
  rw [State.putArbiter_arbiter]
  split
  · exact h.congr rfl rfl rfl rfl
  · rename_i unblocked
    have record : s.arbiter.grantRecord = none := by
      by_contra some
      exact unblocked ((s.passBlocked_iff).mpr (.inr (.inr (.inr (Option.isSome_iff_ne_none.mpr some)))))
    obtain ⟨nodup, sorted, answers, sent, stands, bypassed⟩ := h
    have quiet : s.arbiter.answersOnWay = 0 := by rw [answers, record]; rfl
    obtain ⟨grants, declines⟩ := Arbiter.answersOnWay_eq_zero.mp quiet
    unfold State.passed
    dsimp only
    split
    · exact ⟨nodup, sorted, answers, sent, stands, bypassed⟩
    · rename_i e granted
      obtain ⟨inQueue, headIn⟩ := s.passDecision_mem
      have made : s.passDecision.record = some ⟨e.bay, e.kind,
          if s.passDecision.result = .grantBypass then s.passDecision.head.map QueueEntry.bay else none, false⟩ := by
        rw [PassDecision.record, granted]
        rfl
      refine ⟨nodup, sorted, ?_, fun g mem fresh => ?_, fun r k _ => ?_, fun r k h bypass => ?_⟩
      · have sentOne : (s.grantOf e).stale = false := rfl
        have unsent : s.arbiter.grants.filter (fun g => !g.stale) = [] := by simpa using grants
        have undeclined : s.arbiter.declines.filter (fun d => !d.stale) = [] := by simpa using declines
        simp [Arbiter.answersOnWay, List.filter_append, unsent, undeclined, sentOne, made]
      · rcases List.mem_append.mp mem with old | new
        · exact absurd (grants g old) (by simp [fresh])
        · rw [List.mem_singleton.mp new]
          exact ⟨_, made, rfl, rfl⟩
      · dsimp only at k
        rw [made] at k
        cases k
        exact ⟨e, inQueue e granted, rfl, rfl⟩
      · dsimp only at k
        rw [made] at k
        cases k
        dsimp only at bypass
        split at bypass
        · obtain ⟨x, head, rfl⟩ := Option.map_eq_some_iff.mp bypass
          exact ⟨x, headIn x head, rfl⟩
        · cases bypass

/-- A removal request keeps the arbiter sound (R75, R89, R92). -/
theorem Arbiter.Sound.without {a : Arbiter} (h : a.Sound) (b : Bay) : (a.without b).Sound := by
  obtain ⟨nodup, sorted, answers, sent, stands, bypassed⟩ := h
  have kept : ∀ {c : Bay}, c ≠ b → ∀ {e}, e ∈ a.queue → e.bay = c → e ∈ (a.without b).queue := fun other e mem same =>
    List.mem_filter.mpr ⟨mem, by simpa [same] using other⟩
  refine ⟨nodup.sublist (List.filter_sublist.map _), sorted.sublist List.filter_sublist, ?_, fun g mem fresh => ?_,
    fun r k present => ?_, fun r k h bypass => ?_⟩
  · rw [show (a.without b).answersOnWay = a.answersOnWay from rfl, answers, Arbiter.without]
    cases a.grantRecord <;> rfl
  · obtain ⟨r, record, bay, kind⟩ := sent g mem fresh
    exact ⟨r.without b, by simp [Arbiter.without, record], bay, kind⟩
  · obtain ⟨r', record, rfl⟩ := Option.map_eq_some_iff.mp k
    simp only [GrantRecord.without, Bool.or_eq_false_iff, beq_eq_false_iff_ne] at present
    obtain ⟨e, mem, bay, kind⟩ := stands r' record present.1
    exact ⟨e, kept present.2 mem bay, bay, kind⟩
  · obtain ⟨r', record, rfl⟩ := Option.map_eq_some_iff.mp k
    rw [GrantRecord.without, Option.filter_eq_some_iff] at bypass
    obtain ⟨e, mem, bay⟩ := bypassed r' record h bypass.1
    exact ⟨e, kept (by simpa using bypass.2) mem bay, bay⟩

theorem mem_placeEntry {q : List QueueEntry} {e x : QueueEntry} : x ∈ placeEntry q e ↔ x = e ∨ x ∈ q := by
  unfold placeEntry
  rw [List.mem_append, List.mem_cons]
  conv_rhs => rw [← List.takeWhile_append_dropWhile (p := fun x => decide (x.cls ≤ e.cls)) (l := q), List.mem_append]
  tauto

theorem placeEntry_perm (q : List QueueEntry) (e : QueueEntry) : (placeEntry q e).Perm (e :: q) := by
  unfold placeEntry
  refine List.perm_middle.trans (List.Perm.cons e ?_)
  rw [List.takeWhile_append_dropWhile]

/-- Where the queue is in class order, every entry behind the first of a higher class is of a higher class. -/
theorem placeEntry_sorted {q : List QueueEntry} (h : q.Pairwise (fun x y => x.cls ≤ y.cls)) (e : QueueEntry) :
    (placeEntry q e).Pairwise (fun x y => x.cls ≤ y.cls) := by
  induction q with
  | nil => simp [placeEntry]
  | cons x q ih =>
    obtain ⟨first, rest⟩ := List.pairwise_cons.mp h
    by_cases before : x.cls ≤ e.cls
    · have step : placeEntry (x :: q) e = x :: placeEntry q e := by simp [placeEntry, before]
      rw [step, List.pairwise_cons]
      refine ⟨fun y mem => ?_, ih rest⟩
      rcases mem_placeEntry.mp mem with rfl | old
      · exact before
      · exact first y old
    · have step : placeEntry (x :: q) e = e :: x :: q := by simp [placeEntry, before]
      rw [step, List.pairwise_cons]
      refine ⟨fun y mem => ?_, h⟩
      have above := le_of_not_ge before
      rcases List.mem_cons.mp mem with rfl | old
      · exact above
      · exact above.trans (first y old)

theorem Arbiter.Sound.join {a : Arbiter} (h : a.Sound) (e : QueueEntry) (new : ∀ x ∈ a.queue, x.bay ≠ e.bay) :
    ({ a with queue := placeEntry a.queue e }).Sound := by
  obtain ⟨nodup, sorted, answers, sent, stands, bypassed⟩ := h
  refine ⟨?_, placeEntry_sorted sorted e, answers, sent, fun r k present => ?_, fun r k h bypass => ?_⟩
  · refine ((placeEntry_perm a.queue e).map QueueEntry.bay).nodup_iff.mpr ?_
    rw [List.map_cons, List.nodup_cons]
    refine ⟨fun mem => ?_, nodup⟩
    obtain ⟨x, old, same⟩ := List.mem_map.mp mem
    exact new x old same
  · obtain ⟨x, mem, same⟩ := stands r k present
    exact ⟨x, mem_placeEntry.mpr (.inr mem), same⟩
  · obtain ⟨x, mem, same⟩ := bypassed r k h bypass
    exact ⟨x, mem_placeEntry.mpr (.inr mem), same⟩

end Sys2Proof.Machine
end

section
/-! SUPPORT. What the effects keep of the spin queue: its entries stand for the bays that wait. -/

namespace Sys2Proof.Machine

variable {s t : State} {b : Bay} {p : Bay → Prop}

/-- The spin queue agrees with the bays but those marked, which have no entry. -/
structure QueueHolds (p : Bay → Prop) (s : State) : Prop where
  sound : s.arbiter.Sound
  entries : ∀ e ∈ s.arbiter.queue, ¬ p e.bay ∧ (s.bay e.bay).state = e.kind.waitsIn
  waiting : ∀ c, ¬ p c → (s.bay c).state.waits = true → ∃ e ∈ s.arbiter.queue, e.bay = c
  awaited : ∀ a, s.store.reloadAwaited = some a → a.queued.Pairwise (fun x y => x < y)

theorem BayState.waits_iff (st : BayState) : st.waits = true ↔ st = .queued ∨ st = .wakeQueued := by
  cases st <;> simp [BayState.waits]

theorem EntryKind.waitsIn_waits (k : EntryKind) : k.waitsIn.waits = true := by cases k <;> rfl

theorem queueAgrees_iff : QueueAgrees s ↔ QueueHolds (fun _ => False) s := by
  constructor
  · rintro ⟨nodup, entries, waiting, sorted, answers, sent, record, awaited⟩
    exact ⟨⟨nodup, sorted, answers, sent, fun r k => (record r k).1, fun r k => (record r k).2⟩,
      fun e mem => ⟨id, entries e mem⟩, fun c _ waits => waiting c ((BayState.waits_iff _).mp waits), awaited⟩
  · rintro ⟨⟨nodup, sorted, answers, sent, stands, bypassed⟩, entries, waiting, awaited⟩
    exact ⟨nodup, fun e mem => (entries e mem).2, fun c waits => waiting c id ((BayState.waits_iff _).mpr waits), sorted,
      answers, sent, fun r k => ⟨stands r k, bypassed r k⟩, awaited⟩

theorem QueueHolds.congr (h : QueueHolds p s) (sound : t.arbiter.Sound) (queue : t.arbiter.queue = s.arbiter.queue)
    (states : ∀ c, ¬ p c → (t.bay c).state = (s.bay c).state)
    (awaited : t.store.reloadAwaited = s.store.reloadAwaited) : QueueHolds p t := by
  refine ⟨sound, fun e mem => ?_, fun c out waits => ?_, awaited ▸ h.awaited⟩
  · rw [queue] at mem
    obtain ⟨out, state⟩ := h.entries e mem
    exact ⟨out, by rw [states _ out, state]⟩
  · rw [queue]
    exact h.waiting c out (states c out ▸ waits)

/-- What leaves the arbiter, the states of the bays and the awaited reload. -/
theorem QueueHolds.frame (h : QueueHolds p s) (arbiter : t.arbiter = s.arbiter)
    (states : ∀ c, ¬ p c → (t.bay c).state = (s.bay c).state)
    (awaited : t.store.reloadAwaited = s.store.reloadAwaited) : QueueHolds p t :=
  h.congr (arbiter ▸ h.sound) (by rw [arbiter]) states awaited

theorem QueueHolds.trigger (h : QueueHolds p s) : QueueHolds p s.trigger :=
  h.congr (State.trigger_sound h.sound) s.trigger_settles.queue (fun _ _ => rfl) rfl

theorem QueueHolds.behind (p : Bay → Prop) : Behind (QueueHolds p) :=
  .of_budget (fun _ h => h.trigger) (fun _ _ h => h.frame rfl (fun _ _ => rfl) rfl)
    (fun _ _ h => h.frame rfl (fun _ _ => rfl) rfl) (fun _ _ h => h.frame rfl (fun _ _ => rfl) rfl)

/-! ## Entries that leave and join -/

/-- A bay without an entry can be marked. -/
theorem QueueHolds.mark (h : QueueHolds (fun _ => False) s) (none : ∀ e ∈ s.arbiter.queue, e.bay ≠ b) :
    QueueHolds (fun c => c = b) s :=
  ⟨h.sound, fun e mem => ⟨none e mem, (h.entries e mem).2⟩, fun c _ => h.waiting c id, h.awaited⟩

/-- Once a bay's entry is out the bay may move (R75). -/
theorem State.removeEntryIf_holds (h : QueueHolds (fun _ => False) s) :
    QueueHolds (fun c => c = b) (s.removeEntryIf (s.bay b).state.waits b) := by
  unfold State.removeEntryIf State.removeEntry
  have gone : ∀ e ∈ (s.arbiter.without b).queue, e.bay ≠ b := fun e mem => by
    simpa using (List.mem_filter.mp mem).2
  have without : QueueHolds (fun c => c = b) (s.putArbiter (s.arbiter.without b)) :=
    ⟨h.sound.without b, fun e mem => ⟨gone e mem, (h.entries e (List.mem_filter.mp mem).1).2⟩, fun c other waits => by
      obtain ⟨e, mem, same⟩ := h.waiting c id waits
      exact ⟨e, List.mem_filter.mpr ⟨mem, by simpa [same] using other⟩, same⟩, h.awaited⟩
  split
  · rename_i waits
    split
    · exact without.trigger
    · rename_i none
      refine h.mark fun e mem same => none ?_
      rw [Arbiter.holds, List.any_eq_true]
      exact ⟨e, mem, by simpa using same⟩
  · rename_i still
    refine h.mark fun e mem same => still ?_
    rw [← same, (h.entries e mem).2]
    exact EntryKind.waitsIn_waits _

/-- A bay that does not wait needs no entry. -/
theorem QueueHolds.vacant (h : QueueHolds (fun c => c = b) s) (still : (s.bay b).state.waits = false) :
    QueueHolds (fun _ => False) s := by
  refine ⟨h.sound, fun e mem => ⟨id, (h.entries e mem).2⟩, fun c _ waits => h.waiting c (fun same => ?_) waits, h.awaited⟩
  rw [same, still] at waits
  cases waits

/-- A bay that has come to wait joins (R22, R74). -/
theorem QueueHolds.joinAt (h : QueueHolds (fun c => c = b) s) {k : EntryKind} (state : (s.bay b).state = k.waitsIn)
    (time : EventTime) : QueueHolds (fun _ => False) (s.joinAt b k time) := by
  refine QueueHolds.trigger ⟨h.sound.join _ fun e mem => (h.entries e mem).1, fun e mem => ⟨id, ?_⟩, fun c _ waits => ?_,
    h.awaited⟩
  · rcases mem_placeEntry.mp mem with rfl | old
    · exact state
    · exact (h.entries e old).2
  · by_cases same : c = b
    · exact ⟨_, mem_placeEntry.mpr (.inl rfl), same.symm⟩
    · obtain ⟨e, mem, bay⟩ := h.waiting c same waits
      exact ⟨e, mem_placeEntry.mpr (.inr mem), bay⟩

theorem State.budgetNotice_eq (s : State) (b : Bay) (old new : BayState) : s.budgetNotice b old new =
    ((s.noticed b old new).recompute.answerGrant b new).triggerIf (old.drawsInrush && decide (old ≠ new)) := rfl

/-- The state of a bay's move as its notice reaches the budget unit. -/
def State.entered (s : State) (b : Bay) (new : BayState) (timer : Option Nat) (es : List Event) : State :=
  (s.onBay b (fun r => r.enter new timer)).raiseAll es

theorem State.budgeted_eq (s : State) (b : Bay) (new : BayState) (timer : Option Nat) (es : List Event) :
    s.budgeted b new timer es = (((s.entered b new timer es).noticed b (s.bay b).state new).recompute.answerGrant b
      new).triggerIf ((s.bay b).state.drawsInrush && decide ((s.bay b).state ≠ new)) := rfl

@[simp] theorem State.entered_arbiter (s : State) (b : Bay) (new : BayState) (timer : Option Nat) (es : List Event) :
    (s.entered b new timer es).arbiter = s.arbiter := by
  rw [State.entered, State.raiseAll_arbiter, State.onBay_arbiter]

theorem State.entered_bay (s : State) (b c : Bay) (new : BayState) (timer : Option Nat) (es : List Event) :
    (s.entered b new timer es).bay c = if b = c then (s.bay b).enter new timer else s.bay c := by
  rw [State.entered, State.bay, State.raiseAll_bays]
  exact State.bay_onBay s b c _

@[simp] theorem State.entered_store (s : State) (b : Bay) (new : BayState) (timer : Option Nat) (es : List Event) :
    (s.entered b new timer es).store = s.store := by
  rw [State.entered, State.raiseAll_store, State.onBay_store]

/-- The cooling controller and the light controller take a bay's notice. -/
theorem QueueHolds.noticed (h : QueueHolds p s) (b : Bay) : QueueHolds p ((s.coolingNotice b).lightNotice b) :=
  ((QueueHolds.behind p).retarget false (s.zoneOf b) h).frame (State.lightNotice_arbiter _ b)
    (fun c _ => by rw [State.bay, State.lightNotice_bays, State.coolingNotice, State.bay])
    (by rw [State.lightNotice_store, State.coolingNotice])

/-- A marked bay moves, and answers no grant. -/
theorem QueueHolds.move (h : QueueHolds (fun c => c = b) s) {new : BayState} (h1 : new ≠ .ramping) (h2 : new ≠ .granted)
    (timer : Option Nat) (es : List Event) : QueueHolds (fun c => c = b) (s.move b new timer es) := by
  have behind := QueueHolds.behind (fun c => c = b)
  have noticed : QueueHolds (fun c => c = b) ((s.entered b new timer es).noticed b (s.bay b).state new) := by
    refine h.congr (h.sound.congr ?_ ?_ ?_ ?_) ?_ (fun c other => ?_) ?_
    all_goals simp [State.noticed]
    rw [State.entered_bay, if_neg (Ne.symm other)]
  rw [State.move_cooled, State.budgeted_eq, State.answerGrant_other _ _ h1 h2]
  exact (behind.triggerIf _ (behind.recompute noticed)).noticed b

/-! ## Grants carried out (R87) -/

/-- A grant has been taken by its bay, whose entry stands until the arbiter takes the answer. -/
structure GrantTaken (r : GrantRecord) (s : State) : Prop where
  record : s.arbiter.grantRecord = some r
  quiet : s.arbiter.answersOnWay = 0
  nodup : (s.arbiter.queue.map QueueEntry.bay).Nodup
  sorted : s.arbiter.queue.Pairwise (fun x y => x.cls ≤ y.cls)
  entries : ∀ e ∈ s.arbiter.queue, e.bay ≠ r.bay → (s.bay e.bay).state = e.kind.waitsIn
  waiting : ∀ c, c ≠ r.bay → (s.bay c).state.waits = true → ∃ e ∈ s.arbiter.queue, e.bay = c
  awaited : ∀ a, s.store.reloadAwaited = some a → a.queued.Pairwise (fun x y => x < y)

variable {r : GrantRecord}

theorem GrantTaken.congr (h : GrantTaken r s) (record : t.arbiter.grantRecord = s.arbiter.grantRecord)
    (grants : t.arbiter.grants = s.arbiter.grants) (declines : t.arbiter.declines = s.arbiter.declines)
    (queue : t.arbiter.queue = s.arbiter.queue) (states : ∀ c, c ≠ r.bay → (t.bay c).state = (s.bay c).state)
    (awaited : t.store.reloadAwaited = s.store.reloadAwaited) : GrantTaken r t := by
  refine ⟨record.trans h.record, ?_, queue ▸ h.nodup, queue ▸ h.sorted, fun e mem other => ?_, fun c other waits => ?_,
    awaited ▸ h.awaited⟩
  · rw [Arbiter.answersOnWay, grants, declines]
    exact h.quiet
  · rw [states _ other]
    exact h.entries e (queue ▸ mem) other
  · rw [queue]
    exact h.waiting c other (states c other ▸ waits)

/-- While a grant awaits its answer no pass runs (R82). -/
theorem GrantTaken.trigger (h : GrantTaken r s) : GrantTaken r s.trigger := by
  have blocked : Blocked s := .inr (.inr (.inr (by rw [h.record]; rfl)))
  have settles := s.trigger_settles
  obtain ⟨record, grants, -⟩ := settles.blocked blocked
  exact h.congr record grants settles.declines settles.queue (fun _ _ => rfl) rfl

theorem GrantTaken.behind (r : GrantRecord) : Behind (GrantTaken r) :=
  .of_budget (fun _ h => h.trigger) (fun _ _ h => h.congr rfl rfl rfl rfl (fun _ _ => rfl) rfl)
    (fun _ _ h => h.congr rfl rfl rfl rfl (fun _ _ => rfl) rfl) (fun _ _ h => h.congr rfl rfl rfl rfl (fun _ _ => rfl) rfl)

/-- The bypassed head's count is raised and nothing else of the queue. -/
theorem chargeBypass_eq_map (q : List QueueEntry) (head : Option Bay) :
    ∃ f : QueueEntry → QueueEntry, chargeBypass q head = q.map f ∧
      ∀ e, (f e).bay = e.bay ∧ (f e).kind = e.kind ∧ (f e).cls = e.cls := by
  unfold chargeBypass
  split
  · exact ⟨id, by simp, fun e => ⟨rfl, rfl, rfl⟩⟩
  · exact ⟨_, rfl, fun e => by split <;> exact ⟨rfl, rfl, rfl⟩⟩

/-- The arbiter takes a grant as carried out (R87). -/
theorem State.grantCarriedOut_holds (h : GrantTaken r s) : QueueHolds (fun c => c = r.bay) (s.grantCarriedOut r) := by
  obtain ⟨f, charged, same⟩ := chargeBypass_eq_map (withoutEntry s.arbiter.queue r.bay) r.bypassed
  have mem : ∀ {e}, e ∈ chargeBypass (withoutEntry s.arbiter.queue r.bay) r.bypassed ↔
      ∃ x ∈ s.arbiter.queue, x.bay ≠ r.bay ∧ f x = e := fun {e} => by
    rw [charged, List.mem_map]
    simp [withoutEntry, and_assoc]
  have bays : (chargeBypass (withoutEntry s.arbiter.queue r.bay) r.bypassed).map QueueEntry.bay =
      (withoutEntry s.arbiter.queue r.bay).map QueueEntry.bay := by
    rw [charged, List.map_map]
    exact List.map_congr_left fun e _ => (same e).1
  refine QueueHolds.trigger ⟨⟨?_, ?_, h.quiet, ?_, nofun, nofun⟩, fun e inQueue => ?_, fun c other waits => ?_, h.awaited⟩
  · show ((chargeBypass (withoutEntry s.arbiter.queue r.bay) r.bypassed).map QueueEntry.bay).Nodup
    rw [bays]
    exact h.nodup.sublist (List.filter_sublist.map _)
  · show (chargeBypass (withoutEntry s.arbiter.queue r.bay) r.bypassed).Pairwise _
    rw [charged, List.pairwise_map]
    refine (h.sorted.sublist List.filter_sublist).imp fun {x y} le => ?_
    rw [(same x).2.2, (same y).2.2]
    exact le
  · intro g sent fresh
    have stale := (Arbiter.answersOnWay_eq_zero.mp h.quiet).1 g sent
    rw [fresh] at stale
    cases stale
  · obtain ⟨x, old, other, rfl⟩ := mem.mp inQueue
    rw [(same x).1, (same x).2.1]
    exact ⟨other, h.entries x old other⟩
  · obtain ⟨x, old, bay⟩ := h.waiting c other waits
    exact ⟨f x, mem.mpr ⟨x, old, bay ▸ other, rfl⟩, ((same x).1).trans bay⟩

/-- The granted bay moves as its grant says, and the arbiter takes that as the answer (R87). -/
theorem GrantTaken.move (h : GrantTaken r s) {new : BayState} (answered : grantAnswered r r.bay new = true)
    (timer : Option Nat) (es : List Event) : QueueHolds (fun c => c = r.bay) (s.move r.bay new timer es) := by
  have behind := GrantTaken.behind r
  have noticed : GrantTaken r ((s.entered r.bay new timer es).noticed r.bay (s.bay r.bay).state new) := by
    refine h.congr ?_ ?_ ?_ ?_ (fun c other => ?_) ?_
    all_goals simp [State.noticed]
    rw [State.entered_bay, if_neg (Ne.symm other)]
  have recomputed := behind.recompute noticed
  rw [State.move_cooled, State.budgeted_eq, State.answerGrant, recomputed.record]
  dsimp only
  rw [if_pos answered]
  exact ((QueueHolds.behind _).triggerIf _ (State.grantCarriedOut_holds recomputed)).noticed r.bay

/-! ## Messages taken (R24, R88) -/

theorem takeFirst_eq_some {α : Type} {f : α → Bool} {l : List α} {x : α} {rest : List α}
    (h : takeFirst f l = some (x, rest)) : f x = true ∧ ∃ pre post, l = pre ++ x :: post ∧ rest = pre ++ post := by
  induction l generalizing rest with
  | nil => cases h
  | cons y l ih =>
    rw [takeFirst] at h
    split at h
    · rename_i found
      cases h
      exact ⟨found, [], l, rfl, rfl⟩
    · split at h
      · cases h
      · rename_i later
        cases h
        obtain ⟨found, pre, post, rfl, rfl⟩ := ih later
        exact ⟨found, y :: pre, post, rfl, rfl⟩

/-- A list without its taken message holds one fewer of those that pass a test the message passes. -/
theorem takeFirst_filter {α : Type} {f : α → Bool} {l : List α} {x : α} {rest : List α}
    (h : takeFirst f l = some (x, rest)) (q : α → Bool) :
    (l.filter q).length = (rest.filter q).length + (q x).toNat := by
  obtain ⟨-, pre, post, rfl, rfl⟩ := takeFirst_eq_some h
  simp only [List.filter_append, List.filter_cons, List.length_append]
  split
  · rename_i passes
    simp only [passes, List.length_cons, Bool.toNat_true]
    omega
  · rename_i fails
    simp only [fails, Bool.toNat_false]
    rfl

theorem takeFirst_sub {α : Type} {f : α → Bool} {l : List α} {x : α} {rest : List α}
    (h : takeFirst f l = some (x, rest)) : x ∈ l ∧ ∀ y ∈ rest, y ∈ l := by
  obtain ⟨-, pre, post, rfl, rfl⟩ := takeFirst_eq_some h
  simp only [List.mem_append, List.mem_cons]
  exact ⟨.inr (.inl trivial), fun y mem => mem.elim .inl (fun k => .inr (.inr k))⟩

theorem Option.toList_length_le {α : Type} (o : Option α) : o.toList.length ≤ 1 := by cases o <;> simp

/-- A grant taken and declined: its answer is on its way instead (R24). -/
theorem State.declineGrant_holds (h : QueueHolds (fun _ => False) s) {g : Grant} {rest : List Grant}
    (taken : takeFirst (fun g : Grant => g.bay == b) s.arbiter.grants = some (g, rest)) :
    QueueHolds (fun _ => False) ((s.putArbiter { s.arbiter with grants := rest }).declineGrant g) := by
  obtain ⟨nodup, sorted, answers, sent, stands, bypassed⟩ := h.sound
  refine h.congr ⟨nodup, sorted, ?_, fun x mem => sent x ((takeFirst_sub taken).2 x mem), stands, bypassed⟩ rfl
    (fun _ _ => rfl) rfl
  have count := takeFirst_filter taken (fun g => !g.stale)
  have split : s.arbiter.answersOnWay = (s.arbiter.grants.filter fun g => !g.stale).length +
    (s.arbiter.declines.filter fun d => !d.stale).length := rfl
  have after : ((s.putArbiter { s.arbiter with grants := rest }).declineGrant g).arbiter.answersOnWay =
      (rest.filter fun g => !g.stale).length +
        ((s.arbiter.declines ++ [Decline.mk g.bay g.stale]).filter fun d => !d.stale).length := rfl
  rw [after, List.filter_append, List.length_append]
  have one : (([⟨g.bay, g.stale⟩] : List Decline).filter fun d => !d.stale).length = (!g.stale).toNat := by
    cases g.stale <;> rfl
  show _ = s.arbiter.grantRecord.toList.length
  omega

theorem State.grantReached_holds (h : QueueHolds (fun _ => False) s) {g : Grant} {rest : List Grant}
    (taken : takeFirst (fun g : Grant => g.bay == b) s.arbiter.grants = some (g, rest)) :
    QueueHolds (fun _ => False) ((s.putArbiter { s.arbiter with grants := rest }).grantReached g) := by
  unfold State.grantReached
  split
  · rename_i takes
    have fresh : g.stale = false := by
      unfold State.takesGrant at takes
      cases stale : g.stale with
      | false => rfl
      | true => simp [stale] at takes
    obtain ⟨nodup, sorted, answers, sent, -, -⟩ := h.sound
    obtain ⟨r, record, bay, kind⟩ := sent g (takeFirst_sub taken).1 fresh
    have quiet : ({ s.arbiter with grants := rest } : Arbiter).answersOnWay = 0 := by
      have count := takeFirst_filter taken (fun g => !g.stale)
      rw [fresh, Bool.not_false, Bool.toNat_true] at count
      rw [record] at answers
      have split : s.arbiter.answersOnWay = (s.arbiter.grants.filter fun g => !g.stale).length +
        (s.arbiter.declines.filter fun d => !d.stale).length := rfl
      show (rest.filter fun g => !g.stale).length + (s.arbiter.declines.filter fun d => !d.stale).length = 0
      simp only [Option.toList_some, List.length_singleton] at answers
      omega
    have base : GrantTaken r (s.putArbiter { s.arbiter with grants := rest }) :=
      ⟨record, quiet, nodup, sorted, fun e mem _ => (h.entries e mem).2, fun c _ => h.waiting c id, h.awaited⟩
    unfold State.carryOut
    rw [← bay]
    cases k : g.kind with
    | powerOn =>
      have snapped : GrantTaken r (((s.putArbiter { s.arbiter with grants := rest }).onBay r.bay (fun x => { x with
          snapshot := some ((s.putArbiter { s.arbiter with grants := rest }).profileOf r.bay) })).toChan r.bay
          (fun c => c.closeSwitch ((s.putArbiter { s.arbiter with grants := rest }).profileOf r.bay).trip)) :=
        base.congr rfl rfl rfl rfl (fun c other => by simp [Ne.symm other]) rfl
      have answered : grantAnswered r r.bay .ramping = true := by simp [grantAnswered, kind, k]
      exact (snapped.move answered none []).vacant (by rw [State.bay_move, if_pos rfl]; rfl)
    | wake =>
      have answered : grantAnswered r r.bay .granted = true := by simp [grantAnswered, kind, k]
      exact (base.move answered _ _).vacant (by rw [State.bay_move, if_pos rfl]; rfl)
  · exact State.declineGrant_holds h taken

/-- A decline ends the grant, unless it was sent before a warm restart (R88). -/
theorem State.declineTaken_holds (h : QueueHolds (fun _ => False) s) {d : Decline} {rest : List Decline}
    (taken : takeFirst (fun d : Decline => d.bay == b) s.arbiter.declines = some (d, rest)) :
    QueueHolds (fun _ => False) ((s.putArbiter { s.arbiter with declines := rest }).declineTaken d) := by
  obtain ⟨nodup, sorted, answers, sent, stands, bypassed⟩ := h.sound
  have count := takeFirst_filter taken (fun d => !d.stale)
  have split : s.arbiter.answersOnWay = (s.arbiter.grants.filter fun g => !g.stale).length +
    (s.arbiter.declines.filter fun d => !d.stale).length := rfl
  unfold State.declineTaken
  split
  · rename_i stale
    refine h.congr ⟨nodup, sorted, ?_, sent, stands, bypassed⟩ rfl (fun _ _ => rfl) rfl
    rw [stale, Bool.not_true, Bool.toNat_false] at count
    show (s.arbiter.grants.filter fun g => !g.stale).length + (rest.filter fun d => !d.stale).length =
      s.arbiter.grantRecord.toList.length
    omega
  · rename_i fresh
    have most := Option.toList_length_le s.arbiter.grantRecord
    rw [Bool.not_eq_true] at fresh
    rw [fresh, Bool.not_false, Bool.toNat_true] at count
    have quiet : (s.arbiter.grants.filter fun g => !g.stale).length + (rest.filter fun d => !d.stale).length = 0 := by
      omega
    have none : (s.arbiter.grants.filter fun g => !g.stale) = [] := List.length_eq_zero_iff.mp (by omega)
    refine QueueHolds.trigger (h.congr ⟨nodup, sorted, quiet, fun g mem fresh => ?_, nofun, nofun⟩ rfl (fun _ _ => rfl)
      rfl)
    have := List.filter_eq_nil_iff.mp none g mem
    simp [fresh] at this

end Sys2Proof.Machine
end

section
/-! SUPPORT. Every effect keeps the spin queue in agreement with the bays. -/

namespace Sys2Proof.Machine

variable {s t : State} {b : Bay} {p : Bay → Prop}

theorem QueueHolds.still (h : QueueHolds (fun _ => False) s) (still : (s.bay b).state.waits = false) :
    QueueHolds (fun c => c = b) s := by
  have removed := State.removeEntryIf_holds (b := b) h
  rw [still] at removed
  exact removed

theorem BayState.plain_spec {new : BayState} (h : new.plain = true) :
    new ≠ .ramping ∧ new ≠ .granted ∧ new.waits = false := by
  cases new <;> simp_all [BayState.plain, BayState.waits]

/-- A bay whose entry is out moves to a state that needs none. -/
theorem QueueHolds.moved (h : QueueHolds (fun c => c = b) s) {new : BayState} (plain : new.plain = true)
    (timer : Option Nat) (es : List Event) : QueueHolds (fun _ => False) (s.move b new timer es) := by
  obtain ⟨h1, h2, still⟩ := BayState.plain_spec plain
  refine (h.move h1 h2 timer es).vacant ?_
  rw [State.bay_move, if_pos rfl]
  exact still

theorem Marked.holds {u : State} (marked : Marked b s u) (h : QueueHolds (fun c => c = b) s) :
    QueueHolds (fun c => c = b) u :=
  h.frame (by cases marked <;> simp) (fun c other => by rw [marked.bay, if_neg (Ne.symm other)])
    (by cases marked <;> simp)

/-- The records of the bays in the states they were in. -/
theorem QueueHolds.records (h : QueueHolds p s) (arbiter : t.arbiter = s.arbiter) (store : t.store = s.store)
    (states : ∀ c, (t.bay c).state = (s.bay c).state) : QueueHolds p t :=
  h.frame arbiter (fun c _ => states c) (by rw [store])

theorem State.enterEmpty_holds (h : QueueHolds (fun c => c = b) s) : QueueHolds (fun _ => False) (s.enterEmpty b) := by
  have moved := h.move (new := .empty) nofun nofun none (removedEvents (s.bay b) b)
  have emptying : QueueHolds (fun c => c = b) (s.emptying b) := by
    refine moved.frame ?_ (fun c other => ?_) ?_
    · rw [State.emptying, State.unquarantine_arbiter, State.onBay_arbiter]
    · rw [State.emptying_bay, State.bay_move, if_neg (Ne.symm other), if_neg (Ne.symm other)]
    · rw [State.emptying, State.unquarantine_store, State.onBay_store]
  have cleared : QueueHolds (fun c => c = b) (clearedAtEmpty.foldl (fun t c => t.setCond b c false) (s.emptying b)) := by
    refine emptying.records ?_ ?_ fun c => ?_
    · rw [foldl_keeps State.arbiter (fun t k => t.setCond_arbiter b k false)]
    · rw [foldl_keeps State.store (fun t k => t.setCond_store b k false)]
    · rw [State.bay, foldl_keeps State.bays (fun t k => t.setCond_bays b k false), State.bay]
  have entered : QueueHolds (fun c => c = b) (s.enterEmpty b) := by
    rw [State.enterEmpty_eq]
    exact (QueueHolds.behind _).discardReport b cleared
  refine entered.vacant ?_
  rw [State.enterEmpty_bay, if_pos rfl]
  rfl

theorem BayRecord.acrossRestart_still (r : BayRecord) : r.acrossRestart.state.waits = false := by
  unfold BayRecord.acrossRestart
  split
  all_goals rename_i state
  case h_1 | h_2 | h_3 | h_4 | h_5 | h_6 | h_7 | h_13 => simp [state, BayState.waits]
  all_goals rfl

/-- A warm restart empties the queue, and no bay waits after it (R39, R99). -/
theorem State.warmAtOnce_holds (h : QueueHolds p s) : QueueHolds (fun _ => False) s.warmAtOnce := by
  have queue : s.warmAtOnce.arbiter.queue = [] := by rw [State.warmAtOnce_arbiter]; rfl
  have record : s.warmAtOnce.arbiter.grantRecord = none := by rw [State.warmAtOnce_arbiter]; rfl
  have grants : s.warmAtOnce.arbiter.grants = s.arbiter.grants.map (fun g => { g with stale := true }) := by
    rw [State.warmAtOnce_arbiter]
    rfl
  have declines : s.warmAtOnce.arbiter.declines = s.arbiter.declines.map (fun d => { d with stale := true }) := by
    rw [State.warmAtOnce_arbiter]
    rfl
  have quiet : s.warmAtOnce.arbiter.answersOnWay = 0 := by
    rw [Arbiter.answersOnWay_eq_zero, grants, declines]
    simp
  refine ⟨⟨by simp [queue], by simp [queue], by rw [quiet, record]; rfl, fun g mem fresh => ?_, fun r k => ?_, fun r k => ?_⟩,
    by simp [queue], fun c _ waits => ?_, ?_⟩
  · have := (Arbiter.answersOnWay_eq_zero.mp quiet).1 g mem
    rw [fresh] at this
    cases this
  · rw [record] at k
    cases k
  · rw [record] at k
    cases k
  · rw [State.warmAtOnce_bay, BayRecord.acrossRestart_still] at waits
    cases waits
  · rw [State.warmAtOnce_store]
    exact h.awaited

/-- The end of the start-up hold is a trigger and nothing to the queue (R96). -/
theorem QueueHolds.holdEnds (h : QueueHolds p s) : QueueHolds p s.holdEnds :=
  QueueHolds.trigger (h.congr (h.sound.congr rfl rfl rfl rfl) rfl (fun _ _ => rfl) rfl)

theorem State.bay_quarantineBay (s : State) (b c : Bay) : (s.quarantineBay b).bay c = s.bay c := by
  rw [State.bay, State.quarantineBay_bays, State.bay]

theorem State.checkEnds_holds (h : QueueHolds p s) : QueueHolds p s.checkEnds := by
  have behind := QueueHolds.behind p
  have judged : QueueHolds p s.fansJudged := by
    refine h.records ?_ ?_ fun c => ?_
    · rw [State.fansJudged_eq, State.unchecked, State.putCooling_arbiter, foldl_keeps State.arbiter State.checkFan_arbiter]
    · rw [State.fansJudged_eq, State.unchecked, State.putCooling_store, foldl_keeps State.store State.checkFan_store]
    · rw [State.bay, State.fansJudged_eq, State.unchecked, State.putCooling_bays,
        foldl_keeps State.bays State.checkFan_bays, State.bay]
  have noticed := behind.foldl (f := State.fanNotice) (fun t f => behind.fanNotice f)
    (allFans.filter fun f => (s.fan f).state == .checking) judged
  have raised := behind.retargetAll false noticed
  rw [State.checkEnds_eq]
  exact raised.holdEnds

theorem State.sensorResult_holds (h : QueueHolds p s) (k : Sensor) (result : Option Int) :
    QueueHolds p (s.sensorResult k result) := by
  have behind := QueueHolds.behind p
  have raised := behind.raiseAll (sensorEvents k (s.cooling.sensors.get k) ((s.cooling.sensors.get k).result result))
    (behind.cooling s { s.cooling with
      sensors := Table.put s.cooling.sensors k ((s.cooling.sensors.get k).result result) } h)
  unfold State.sensorResult
  dsimp only
  split
  · exact raised
  · exact behind.reviewZones _ raised

theorem Behind.budgetReloaded {P : State → Prop} (k : Behind P) (h : P s) : P s.budgetReloaded :=
  k.recompute (k.views _ _ h)

theorem Behind.coldStart {P : State → Prop} (k : Behind P) {straps : BitVec 3} (h : P (s.blocksCold straps)) :
    P (s.coldStart straps) :=
  k.foldl (fun _ f => k.fanNotice f) allFans (k.recompute (k.raiseAll _ h))

/-- The reload ends the wait for it, and moves no bay yet (R145). -/
theorem State.reloadedFans_holds (h : QueueHolds p s) (x : Store) : QueueHolds p (s.putStore x).reloadedFans := by
  obtain ⟨sound, entries, waiting, -⟩ := h
  have arbiter : (s.putStore x).reloadedFans.arbiter = s.arbiter := by rw [State.reloadedFans_eq]; simp
  have bay : ∀ c, (s.putStore x).reloadedFans.bay c = s.bay c := fun c => by
    rw [State.bay, State.reloadedFans_eq, State.putCooling_bays, State.reload_bays, State.putStore_bays, State.bay]
  have store : (s.putStore x).reloadedFans.store.reloadAwaited = none := by
    rw [State.reloadedFans_eq, State.putCooling_store, State.reload, State.raiseAll_store, State.putStore_store]
  refine ⟨by rw [arbiter]; exact sound, ?_, ?_, fun a k => ?_⟩
  · simpa only [arbiter, bay] using entries
  · simpa only [arbiter, bay] using waiting
  · rw [store] at k
    cases k

/-- Every effect keeps the spin queue in agreement with the bays. -/
theorem Effect.keeps_queue {s t : State} (h : Effect s t) (agrees : QueueHolds (fun _ => False) s) :
    QueueHolds (fun _ => False) t := by
  have behind := QueueHolds.behind (fun _ => False)
  have configured : ∀ c, QueueHolds (fun _ => False) (s.putCfg c) := fun c => agrees.records rfl rfl fun _ => rfl
  cases h with
  | record b r follows =>
    refine agrees.records rfl rfl fun c => ?_
    rw [State.bay_putBay]
    split
    · rename_i same
      exact same ▸ follows.state
    · rfl
  | code b code =>
    refine agrees.records (by simp) (by simp) fun c => ?_
    rw [State.bay_select, State.bay_onBay, State.selectedRecord, State.bay_onBay, if_pos rfl]
    by_cases same : b = c <;> simp [same]
  | select b =>
    refine agrees.records (by simp) (by simp) fun c => ?_
    rw [State.bay_select]
    split
    · rename_i same
      exact same ▸ rfl
    · rfl
  | settling b =>
    refine agrees.records (by simp) (by simp) fun c => ?_
    rw [State.beginSettling, State.bay_onBay, State.bay_toChan, State.bay_toChan]
    split
    · rename_i same
      exact same ▸ rfl
    · rfl
  | removal b v =>
    refine agrees.records (by simp) (by simp) fun c => ?_
    rw [State.setRemoval_bay]
    split
    · rename_i same
      exact same ▸ rfl
    · rfl
  | move u b new timer es may marked =>
    exact (marked.holds (State.removeEntryIf_holds agrees)).moved may.plain timer es
  | spinDown b level state =>
    have armed : QueueHolds (fun _ => False) (s.toChan b (fun c => c.armRise level)) := agrees.records rfl rfl fun _ => rfl
    exact (armed.still (b := b) (by rw [State.bay_toChan, state]; rfl)).moved rfl none []
  | checkedOut b checkable =>
    have waits : ((s.bay b).state == .queued) = (s.bay b).state.waits := by
      revert checkable
      cases (s.bay b).state <;> decide
    rw [waits]
    have moved : QueueHolds (fun _ => False) ((s.removeEntryIf (s.bay b).state.waits b).move b .idleOff none []) :=
      (State.removeEntryIf_holds agrees).moved rfl none []
    exact moved.records (by simp) (by simp) fun c => by rw [State.bay_quarantineBay]
  | queues b time state =>
    have still : (s.bay b).state.waits = false := by rcases state with k | k <;> rw [k] <;> rfl
    have moved := (agrees.still still).move (new := .queued) nofun nofun none []
    exact moved.joinAt (k := .powerOn) (by rw [State.bay_move, if_pos rfl]; rfl) time
  | wakes b time state =>
    have moved := (agrees.still (b := b) (by rw [state]; rfl)).move (new := .wakeQueued) nofun nofun none []
    exact moved.joinAt (k := .wake) (by rw [State.bay_move, if_pos rfl]; rfl) time
  | empties b state =>
    have still : (s.bay b).state.waits = false := by rcases state with k | k <;> rw [k] <;> rfl
    exact State.enterEmpty_holds (agrees.still still)
  | grant b g rest taken => exact State.grantReached_holds agrees taken
  | decline b d rest taken => exact State.declineTaken_holds agrees taken
  | stagger =>
    exact QueueHolds.trigger (agrees.congr (agrees.sound.congr rfl rfl rfl rfl) rfl (fun _ _ => rfl) rfl)
  | trigger => exact agrees.trigger
  | slotChange k l =>
    have put : QueueHolds (fun _ => False) (s.putSlot k l) := agrees.records rfl rfl fun _ => rfl
    exact behind.recomputeForSlot k put
  | supply x => exact behind.recompute (configured _)
  | fanMoves f r e =>
    have moved : QueueHolds (fun _ => False) (s.putFan f r) := behind.cooling _ _ agrees
    exact behind.retarget false _ (behind.fanNotice f (behind.raise _ e moved))
  | sensor k result => exact State.sensorResult_holds agrees k result
  | reports reports zs => exact behind.reviewZones zs (behind.cooling _ _ agrees)
  | evaluation => exact behind.retargetAll true (behind.cooling _ _ agrees)
  | checkEnds => exact State.checkEnds_holds agrees
  | airCurve z c => exact behind.retarget false z (configured _)
  | common c => exact behind.reviewZones allZones (configured _)
  | fanSettings f x =>
    refine State.writeFan_keeps f x ?_ (fun t => behind.fanNotice f) (fun t => behind.retarget false _)
    exact behind.cooling _ _ (configured _)
  | policy w b =>
    unfold State.setPolicyBay
    dsimp only
    split
    · exact configured _
    · exact behind.reviewZones _ (configured _)
  | warm => exact State.warmAtOnce_holds agrees
  | save => exact agrees.frame rfl (fun _ _ => rfl) rfl
  | await a _ sorted =>
    obtain ⟨sound, entries, waiting, -⟩ := agrees
    exact ⟨sound, entries, waiting, fun a' k => Option.some.inj k ▸ sorted⟩
  | written w _ awaited =>
    obtain ⟨sound, entries, waiting, -⟩ := agrees
    exact ⟨sound, entries, waiting, fun a' k => by rw [State.putStore_store, awaited] at k; cases k⟩
  | reload x =>
    rw [State.reloadedCooling]
    exact behind.budgetReloaded (State.reloadedFans_holds agrees x)
  | judge z => exact behind.judgeZone z agrees
  | cold straps =>
    have started : QueueHolds (fun _ => False) (s.blocksCold straps) :=
      ⟨⟨List.nodup_nil, List.Pairwise.nil, rfl, nofun, nofun, nofun⟩, nofun, fun c _ waits => by
        simp [State.blocksCold, State.bay, BayRecord.cold, BayState.waits] at waits, nofun⟩
    exact behind.coldStart started
  | tick =>
    refine agrees.congr (agrees.sound.congr rfl rfl rfl rfl) rfl (fun c _ => ?_) rfl
    simp [State.bay, State.tick, BayRecord.tick]
  | _ => exact agrees.records (by simp) (by simp) fun c => by simp [State.bay]

end Sys2Proof.Machine
end

section
/-! The statements about what every step keeps, settled: the spin queue. -/

namespace Sys2Proof.Machine

/-- Settles O59: every effect keeps the spin queue and the grant in agreement with the bays. -/
theorem stepKeepsTheQueue : Obligations.StepKeepsTheQueue := fun _ =>
  step_keeps fun _ _ effect h => queueAgrees_iff.mpr (effect.keeps_queue (queueAgrees_iff.mp h))

end Sys2Proof.Machine
end

section
/-! SUPPORT. What the effects keep of the spin count, the grant order and the outstanding revocation. -/

namespace Sys2Proof.Machine

variable {s t : State} {b : Bay}

/-! ## One bay's part of a count -/

/-- The lengths of two filters that differ at one member of a list without repetition. -/
theorem length_filter_change {α : Type} {p q : α → Bool} {l : List α} {b : α} (nodup : l.Nodup) (mem : b ∈ l)
    (others : ∀ c, c ≠ b → q c = p c) :
    (l.filter q).length + (p b).toNat = (l.filter p).length + (q b).toNat := by
  obtain ⟨pre, post, rfl⟩ := List.append_of_mem mem
  obtain ⟨notPre, notPost⟩ : b ∉ pre ∧ b ∉ post := by
    rw [List.nodup_append] at nodup
    obtain ⟨-, rest, disjoint⟩ := nodup
    exact ⟨fun k => disjoint b k b List.mem_cons_self rfl, (List.nodup_cons.mp rest).1⟩
  have same : ∀ l' : List α, b ∉ l' → l'.filter q = l'.filter p := fun l' out =>
    List.filter_congr fun c k => others c fun e => out (e ▸ k)
  simp only [List.filter_append, List.filter_cons, List.length_append, same pre notPre, same post notPost]
  cases p b <;> cases q b <;> simp <;> omega

/-- One bay enters another state, and the spin count follows (R91). -/
theorem spinCount_follows {new : BayState} (bays : ∀ c, c ≠ b → (t.bay c).state = (s.bay c).state)
    (own : (t.bay b).state = new) : t.countSpins = spinCountAfter s.countSpins (s.bay b).state new := by
  have change := length_filter_change (p := fun c => (s.bay c).state.drawsInrush)
    (q := fun c => (t.bay c).state.drawsInrush) allBays_nodup (mem_allBays b) fun c other => by rw [bays c other]
  rw [own] at change
  unfold spinCountAfter State.countSpins
  cases old : (s.bay b).state.drawsInrush <;> cases after : new.drawsInrush <;>
    simp only [old, after, Bool.toNat_true, Bool.toNat_false, Bool.false_eq_true, and_false, and_true,
      not_true_eq_false, not_false_eq_true, if_true, if_false] at change ⊢ <;>
    omega

/-! ## The grant order and the revocation -/

/-- The grant order list holds exactly the GRANTED bays, each once, and an outstanding revocation names one (R63, R69). -/
structure Budget.Orders (x : Budget) (granted : Bay → Prop) : Prop where
  nodup : x.grantOrder.Nodup
  mem : ∀ b, b ∈ x.grantOrder ↔ granted b
  outstanding : ∀ b, x.outstanding = some b → b ∈ x.grantOrder

theorem countsAgree_iff : CountsAgree s ↔
    s.arbiter.spinCount = s.countSpins ∧ s.budget.Orders (fun b => (s.bay b).state = .granted) :=
  ⟨fun ⟨spins, nodup, mem, outstanding⟩ => ⟨spins, nodup, mem, outstanding⟩,
    fun ⟨spins, nodup, mem, outstanding⟩ => ⟨spins, nodup, mem, outstanding⟩⟩

theorem Budget.Orders.congr {x y : Budget} {p q : Bay → Prop} (h : x.Orders p) (order : y.grantOrder = x.grantOrder)
    (outstanding : y.outstanding = x.outstanding) (granted : ∀ b, q b ↔ p b) : y.Orders q :=
  ⟨order ▸ h.nodup, fun b => by rw [order, h.mem, granted], by rw [order, outstanding]; exact h.outstanding⟩

/-- What leaves the spin count, the lists and the states of the bays. -/
theorem CountsAgree.frame (h : CountsAgree s) (spins : t.arbiter.spinCount = s.arbiter.spinCount)
    (order : t.budget.grantOrder = s.budget.grantOrder) (outstanding : t.budget.outstanding = s.budget.outstanding)
    (states : ∀ c, (t.bay c).state = (s.bay c).state) : CountsAgree t := by
  obtain ⟨count, orders⟩ := countsAgree_iff.mp h
  refine countsAgree_iff.mpr ⟨?_, orders.congr order outstanding fun b => by rw [states]⟩
  rw [spins, count, State.countSpins, State.countSpins]
  simp only [states]

theorem CountsAgree.records (h : CountsAgree s) (arbiter : t.arbiter = s.arbiter) (budget : t.budget = s.budget)
    (states : ∀ c, (t.bay c).state = (s.bay c).state) : CountsAgree t :=
  h.frame (by rw [arbiter]) (by rw [budget]) (by rw [budget]) states

theorem State.trigger_counts (h : CountsAgree s) : CountsAgree s.trigger :=
  h.frame s.trigger_settles.spinCount (by rw [State.trigger_budget]) (by rw [State.trigger_budget]) fun _ => rfl

theorem CountsAgree.behind : Behind CountsAgree where
  trigger _ h := State.trigger_counts h
  figures _ _ h := h.frame rfl rfl rfl fun _ => rfl
  state _ _ h := h.frame rfl rfl rfl fun _ => rfl
  views _ _ h := h.frame rfl rfl rfl fun _ => rfl
  revoke s b xs newest h := by
    obtain ⟨count, orders⟩ := countsAgree_iff.mp h
    exact countsAgree_iff.mpr ⟨count, orders.nodup, orders.mem, fun c named => Option.some.inj named ▸ newest⟩
  cooling _ _ h := h.frame rfl rfl rfl fun _ => rfl
  raise _ _ h := h.frame rfl rfl rfl fun _ => rfl

/-- The lists take a bay's notice (R63, R69). -/
theorem Budget.Orders.noticed {x : Budget} {old new : BayState} {p q : Bay → Prop} (h : x.Orders p) (was : p b ↔ old = .granted)
    (is : q b ↔ new = .granted) (others : ∀ c, c ≠ b → (q c ↔ p c)) (n : Nat) : (x.noticed b old new n).Orders q := by
  have mem : ∀ c, c ∈ (x.noticed b old new n).grantOrder ↔ q c := fun c => by
    unfold Budget.noticed
    dsimp only
    by_cases same : c = b
    · subst same
      split
      · rename_i k
        simp [is, k.1]
      · split
        · rename_i k
          simp [is, k.2]
        · rename_i k1 k2
          rw [h.mem, was, is]
          tauto
    · rw [others c same, ← h.mem]
      split
      · simp [same]
      · split
        · simp [same]
        · rfl
  refine ⟨?_, mem, fun c named => (mem c).mpr ?_⟩
  · unfold Budget.noticed
    dsimp only
    split
    · rename_i k
      refine List.nodup_append.mpr ⟨h.nodup, List.nodup_singleton b, fun c listed d one => ?_⟩
      rw [List.mem_singleton.mp one]
      rintro rfl
      exact k.2 (was.mp ((h.mem c).mp listed))
    · split
      · exact h.nodup.sublist List.filter_sublist
      · exact h.nodup
  · unfold Budget.noticed at named
    dsimp only at named
    split at named
    · cases named
    · rename_i k
      have granted := (h.mem c).mp (h.outstanding c named)
      by_cases same : c = b
      · subst same
        rw [is]
        by_contra left
        exact k ⟨was.mp granted, left, named⟩
      · exact (others c same).mpr granted

theorem State.grantCarriedOut_counts (h : CountsAgree s) (r : GrantRecord) : CountsAgree (s.grantCarriedOut r) :=
  State.trigger_counts (h.frame rfl rfl rfl fun _ => rfl)

theorem State.answerGrant_counts (h : CountsAgree s) (b : Bay) (new : BayState) : CountsAgree (s.answerGrant b new) := by
  unfold State.answerGrant
  split
  · exact h
  · split
    · exact State.grantCarriedOut_counts h _
    · exact h

/-- A bay moves (R62, R63, R91). -/
theorem CountsAgree.move (h : CountsAgree s) (b : Bay) (new : BayState) (timer : Option Nat) (es : List Event) :
    CountsAgree (s.move b new timer es) := by
  obtain ⟨count, orders⟩ := countsAgree_iff.mp h
  have behind := CountsAgree.behind
  have bay : ∀ c, ((s.entered b new timer es).noticed b (s.bay b).state new).bay c =
      if b = c then (s.bay b).enter new timer else s.bay c := fun c => State.entered_bay s b c new timer es
  have budget : (s.entered b new timer es).budget = s.budget := by rw [State.entered]; simp
  have noticed : CountsAgree ((s.entered b new timer es).noticed b (s.bay b).state new) := by
    refine countsAgree_iff.mpr ⟨?_, ?_⟩
    · rw [spinCount_follows (s := s) (b := b) (new := new) (fun c other => by rw [bay, if_neg (Ne.symm other)])
        (by rw [bay, if_pos rfl]; rfl), ← count]
      show spinCountAfter (s.entered b new timer es).arbiter.spinCount (s.bay b).state new = _
      rw [State.entered_arbiter]
    · show ((s.entered b new timer es).budget.noticed b (s.bay b).state new _).Orders _
      rw [budget]
      refine orders.noticed (b := b) Iff.rfl ?_ (fun c other => ?_) _
      · rw [bay, if_pos rfl]
        rfl
      · rw [bay, if_neg (Ne.symm other)]
  have answered : CountsAgree (s.budgeted b new timer es) := by
    rw [State.budgeted_eq]
    exact behind.triggerIf _ (State.answerGrant_counts (behind.recompute noticed) b new)
  rw [State.move_cooled]
  exact (behind.retarget false _ answered).records (State.lightNotice_arbiter _ b) (State.lightNotice_budget _ b)
    fun c => by rw [State.bay, State.lightNotice_bays, State.coolingNotice, State.bay]

/-! ## The effects -/

theorem State.removeEntryIf_counts (h : CountsAgree s) (w : Bool) (b : Bay) : CountsAgree (s.removeEntryIf w b) := by
  unfold State.removeEntryIf State.removeEntry
  split
  · split
    · exact State.trigger_counts (h.frame rfl rfl rfl fun _ => rfl)
    · exact h
  · exact h

theorem State.joinAt_counts (h : CountsAgree s) (b : Bay) (k : EntryKind) (time : EventTime) :
    CountsAgree (s.joinAt b k time) := State.trigger_counts (h.frame rfl rfl rfl fun _ => rfl)

theorem State.enterEmpty_counts (h : CountsAgree s) (b : Bay) : CountsAgree (s.enterEmpty b) := by
  have moved := h.move b .empty none (removedEvents (s.bay b) b)
  have emptying : CountsAgree (s.emptying b) := by
    refine moved.records ?_ ?_ fun c => ?_
    · rw [State.emptying, State.unquarantine_arbiter, State.onBay_arbiter]
    · rw [State.emptying, State.unquarantine_budget, State.onBay_budget]
    · rw [State.emptying_bay, State.bay_move]
      split <;> rfl
  rw [State.enterEmpty_eq]
  refine CountsAgree.behind.discardReport b (emptying.records ?_ ?_ fun c => ?_)
  · rw [foldl_keeps State.arbiter (fun t k => t.setCond_arbiter b k false)]
  · rw [foldl_keeps State.budget (fun t k => t.setCond_budget b k false)]
  · rw [State.bay, foldl_keeps State.bays (fun t k => t.setCond_bays b k false), State.bay]

theorem State.grantReached_counts (h : CountsAgree s) (g : Grant) : CountsAgree (s.grantReached g) := by
  unfold State.grantReached State.carryOut
  split
  · cases g.kind with
    | wake => exact h.move _ _ _ _
    | powerOn =>
      have snapped : CountsAgree ((s.onBay g.bay (fun r => { r with snapshot := some (s.profileOf g.bay) })).toChan g.bay
          (fun c => c.closeSwitch (s.profileOf g.bay).trip)) := by
        refine h.records rfl rfl fun c => ?_
        rw [State.bay_toChan, State.bay_onBay]
        split
        · rename_i same
          exact same ▸ rfl
        · rfl
      exact snapped.move _ _ _ _
  · exact h.frame rfl rfl rfl fun _ => rfl

theorem State.rebuilt_budget (s : State) : s.rebuilt.budget = s.budget.warm s.rebuiltCommitments := rfl

theorem State.warmFirst_budget (s : State) : s.warmFirst.budget = s.budget := rfl

theorem State.warmAtOnce_budget (s : State) : s.warmAtOnce.budget =
    s.budget.warm (allBays.foldl State.mapBay s.warmFirst).rebuiltCommitments := by
  have kept : ∀ l : List Bay, ∀ t : State, (l.foldl State.mapBay t).budget = t.budget := fun l =>
    foldl_keeps State.budget State.mapBay_budget l
  rw [State.warmAtOnce_eq, foldl_keeps State.budget State.rearm_budget, State.rebuilt_budget, kept, State.warmFirst_budget]

theorem State.mapped_bay (s : State) (b : Bay) :
    (allBays.foldl State.mapBay s.warmFirst).bay b = (s.bay b).acrossRestart := by
  rw [State.foldl_each State.mapBay_bay allBays allBays_nodup, if_pos (mem_allBays b), State.warmFirst_bay]

theorem BayRecord.acrossRestart_not_granted (r : BayRecord) : r.acrossRestart.state ≠ .granted := by
  unfold BayRecord.acrossRestart
  split
  all_goals rename_i state
  case h_1 | h_2 | h_3 | h_4 | h_5 | h_6 | h_7 | h_13 => simp [state]
  all_goals nofun

theorem State.warmAtOnce_counts (s : State) : CountsAgree s.warmAtOnce := by
  refine countsAgree_iff.mpr ⟨?_, ?_⟩
  · rw [State.warmAtOnce_arbiter]
    dsimp only
    unfold State.countSpins
    simp only [State.mapped_bay, State.warmAtOnce_bay]
  · rw [State.warmAtOnce_budget]
    refine ⟨List.nodup_nil, fun b => ⟨nofun, fun granted => ?_⟩, nofun⟩
    rw [State.warmAtOnce_bay] at granted
    exact absurd granted (BayRecord.acrossRestart_not_granted _)

theorem State.coldStart_counts (s : State) (straps : BitVec 3) : CountsAgree (s.coldStart straps) := by
  have cold : ∀ c, (s.blocksCold straps).bay c = .cold := fun c => by simp [State.blocksCold, State.bay]
  refine CountsAgree.behind.coldStart (countsAgree_iff.mpr ⟨?_, List.nodup_nil, fun b => ⟨nofun, fun granted => ?_⟩, nofun⟩)
  · have none : (s.blocksCold straps).countSpins = 0 := by
      simp [State.countSpins, cold, BayRecord.cold, BayState.drawsInrush]
    rw [none]
    rfl
  · rw [cold] at granted
    cases granted

theorem CountsAgree.holdEnds (h : CountsAgree s) : CountsAgree s.holdEnds :=
  State.trigger_counts (h.frame rfl rfl rfl fun _ => rfl)

theorem State.checkEnds_counts (h : CountsAgree s) : CountsAgree s.checkEnds := by
  have behind := CountsAgree.behind
  have judged : CountsAgree s.fansJudged := by
    refine h.records ?_ s.fansJudged_budget fun c => ?_
    · rw [State.fansJudged_eq, State.unchecked, State.putCooling_arbiter, foldl_keeps State.arbiter State.checkFan_arbiter]
    · rw [State.bay, State.fansJudged_eq, State.unchecked, State.putCooling_bays,
        foldl_keeps State.bays State.checkFan_bays, State.bay]
  have noticed := behind.foldl (f := State.fanNotice) (fun t f => behind.fanNotice f)
    (allFans.filter fun f => (s.fan f).state == .checking) judged
  rw [State.checkEnds_eq]
  exact (behind.retargetAll false noticed).holdEnds

theorem State.sensorResult_counts (h : CountsAgree s) (k : Sensor) (result : Option Int) :
    CountsAgree (s.sensorResult k result) := by
  have behind := CountsAgree.behind
  have raised := behind.raiseAll (sensorEvents k (s.cooling.sensors.get k) ((s.cooling.sensors.get k).result result))
    (behind.cooling s { s.cooling with
      sensors := Table.put s.cooling.sensors k ((s.cooling.sensors.get k).result result) } h)
  unfold State.sensorResult
  dsimp only
  split
  · exact raised
  · exact behind.reviewZones _ raised

theorem Effect.keeps_counts {s t : State} (h : Effect s t) (agrees : CountsAgree s) : CountsAgree t := by
  have behind := CountsAgree.behind
  have configured : ∀ c, CountsAgree (s.putCfg c) := fun c => agrees.records rfl rfl fun _ => rfl
  cases h with
  | record b r follows =>
    refine agrees.records rfl rfl fun c => ?_
    rw [State.bay_putBay]
    split
    · rename_i same
      exact same ▸ follows.state
    · rfl
  | code b code =>
    refine agrees.records (by simp) (by simp) fun c => ?_
    rw [State.bay_select, State.bay_onBay, State.selectedRecord, State.bay_onBay, if_pos rfl]
    by_cases same : b = c <;> simp [same]
  | select b =>
    refine agrees.records (by simp) (by simp) fun c => ?_
    rw [State.bay_select]
    split
    · rename_i same
      exact same ▸ rfl
    · rfl
  | settling b =>
    refine agrees.records (by simp) (by simp) fun c => ?_
    rw [State.beginSettling, State.bay_onBay, State.bay_toChan, State.bay_toChan]
    split
    · rename_i same
      exact same ▸ rfl
    · rfl
  | removal b v =>
    refine agrees.records (by simp) (by simp) fun c => ?_
    rw [State.setRemoval_bay]
    split
    · rename_i same
      exact same ▸ rfl
    · rfl
  | move u b new timer es may marked =>
    have removed := State.removeEntryIf_counts agrees (s.bay b).state.waits b
    refine CountsAgree.move (removed.records (by cases marked <;> simp) (by cases marked <;> simp) fun c => ?_) b new timer es
    rw [marked.bay]
    split
    · rename_i same
      exact same ▸ rfl
    · rfl
  | spinDown b level =>
    have armed : CountsAgree (s.toChan b (fun c => c.armRise level)) := agrees.records rfl rfl fun _ => rfl
    exact armed.move b .standby none []
  | checkedOut b =>
    exact ((State.removeEntryIf_counts agrees ((s.bay b).state == .queued) b).move b .idleOff none []).records (by simp) (by simp)
      fun c => by rw [State.bay_quarantineBay]
  | queues b time => exact State.joinAt_counts (agrees.move b .queued none []) b _ time
  | wakes b time => exact State.joinAt_counts (agrees.move b .wakeQueued none []) b _ time
  | empties b => exact State.enterEmpty_counts agrees b
  | grant b g rest =>
    have taken : CountsAgree (s.putArbiter { s.arbiter with grants := rest }) := agrees.frame rfl rfl rfl fun _ => rfl
    exact State.grantReached_counts taken g
  | decline b d rest =>
    unfold State.declineTaken
    split
    · exact agrees.frame rfl rfl rfl fun _ => rfl
    · exact State.trigger_counts (agrees.frame rfl rfl rfl fun _ => rfl)
  | revocations xs => exact agrees.frame rfl rfl rfl fun _ => rfl
  | stagger => exact State.trigger_counts (agrees.frame rfl rfl rfl fun _ => rfl)
  | trigger => exact State.trigger_counts agrees
  | slot k l => exact agrees.frame rfl rfl rfl fun _ => rfl
  | slotChange k l =>
    have put : CountsAgree (s.putSlot k l) := agrees.frame rfl rfl rfl fun _ => rfl
    exact behind.recomputeForSlot k put
  | supply x => exact behind.recompute (configured _)
  | fanMoves f r e =>
    have moved : CountsAgree (s.putFan f r) := behind.cooling _ _ agrees
    exact behind.retarget false _ (behind.fanNotice f (behind.raise _ e moved))
  | sensor k result => exact State.sensorResult_counts agrees k result
  | reports reports zs => exact behind.reviewZones zs (behind.cooling _ _ agrees)
  | evaluation => exact behind.retargetAll true (behind.cooling _ _ agrees)
  | checkEnds => exact State.checkEnds_counts agrees
  | airCurve z c => exact behind.retarget false z (configured _)
  | common c => exact behind.reviewZones allZones (configured _)
  | fanSettings f x =>
    refine State.writeFan_keeps f x ?_ (fun t => behind.fanNotice f) (fun t => behind.retarget false _)
    exact behind.cooling _ _ (configured _)
  | policy w b =>
    unfold State.setPolicyBay
    dsimp only
    split
    · exact configured _
    · exact behind.reviewZones _ (configured _)
  | warm => exact s.warmAtOnce_counts
  | reload x =>
    rw [State.reloadedCooling]
    refine behind.budgetReloaded (agrees.records ?_ ?_ fun c => ?_)
    · rw [State.reloadedFans_eq]
      simp
    · rw [State.reloadedFans_eq]
      simp
    · rw [State.bay, State.reloadedFans_eq, State.putCooling_bays, State.reload_bays, State.putStore_bays, State.bay]
  | judge z => exact behind.judgeZone z agrees
  | cold straps => exact s.coldStart_counts straps
  | tick =>
    refine agrees.frame rfl rfl rfl fun c => ?_
    simp [State.bay, State.tick, BayRecord.tick]
  | _ => exact agrees.records (by simp) (by simp) fun c => by simp [State.bay]

end Sys2Proof.Machine
end

section
/-! SUPPORT. What the effects keep of the budget: commitments, fan views, figures and budget state. -/

namespace Sys2Proof.Machine

variable {s t : State} {b : Bay}

/-! ## Figures and budget state (R64 to R66) -/

/-- The figures are those formed from what stands, and the budget state follows the headroom (R64, R66). -/
def Priced (s : State) : Prop :=
  s.budget.figures = s.formFigures ∧ (s.budget.overcommitted = true ↔ s.budget.figures.headroom < 0)

def CommitmentsAgree (s : State) : Prop := ∀ b, s.budget.commitments.get b = (s.bay b).commitment

def ViewsAgree (s : State) : Prop := ∀ f, s.budget.fanViews.get f = s.fanView f

theorem BudgetAgrees.intro (commitments : CommitmentsAgree s) (views : ViewsAgree s) (priced : Priced s) : BudgetAgrees s :=
  ⟨commitments, views, priced⟩

theorem BudgetAgrees.commitments (h : BudgetAgrees s) : CommitmentsAgree s := h.1

theorem BudgetAgrees.views (h : BudgetAgrees s) : ViewsAgree s := h.2.1

theorem BudgetAgrees.priced (h : BudgetAgrees s) : Priced s := h.2.2

/-- Figures are formed from the conditions of the slots, the parameters, the fan views and the commitments (R64). -/
theorem State.formFigures_congr (conditions : ∀ k, (t.budget.slots.get k).condition = (s.budget.slots.get k).condition)
    (supply : t.cfg.supply = s.cfg.supply) (views : t.budget.fanViews = s.budget.fanViews)
    (commitments : ∀ b, t.budget.commitments.get b = s.budget.commitments.get b) : t.formFigures = s.formFigures := by
  have contributing : t.contributing = s.contributing := by
    simp only [State.contributing, conditions, supply]
  have committed : t.budget.committed = s.budget.committed := by
    unfold Budget.committed
    exact congrArg List.sum (List.map_congr_left fun b _ => commitments b)
  simp only [State.formFigures, contributing, supply, Budget.fanLoad, views, committed]

theorem Priced.congr (h : Priced s) (conditions : ∀ k, (t.budget.slots.get k).condition = (s.budget.slots.get k).condition)
    (supply : t.cfg.supply = s.cfg.supply) (views : t.budget.fanViews = s.budget.fanViews)
    (commitments : ∀ b, t.budget.commitments.get b = s.budget.commitments.get b) (figures : t.budget.figures = s.budget.figures)
    (state : t.budget.overcommitted = s.budget.overcommitted) : Priced t := by
  unfold Priced
  rw [figures, state, State.formFigures_congr conditions supply views commitments]
  exact h

theorem State.withFigures_formed (s : State) : s.withFigures.budget.figures = s.withFigures.formFigures := rfl

/-- The budget state follows the headroom, whatever it was (R66). -/
theorem State.budgetState_follows (s : State) :
    (s.budgetState.budget.overcommitted = true ↔ s.budgetState.budget.figures.headroom < 0) ∧
      s.budgetState.budget.figures = s.budget.figures ∧ s.budgetState.formFigures = s.formFigures := by
  unfold State.budgetState
  dsimp only
  split
  · rename_i h
    exact ⟨⟨fun _ => h.1, fun _ => rfl⟩, rfl, rfl⟩
  · rename_i h
    split
    · rename_i k
      exact ⟨⟨nofun, fun low => absurd k.1 (Int.not_le.mpr low)⟩, rfl, rfl⟩
    · rename_i k
      refine ⟨?_, rfl, rfl⟩
      cases now : s.budget.overcommitted <;> simp only [now, and_true, not_lt, not_le, Bool.true_eq_false, and_false,
        not_false_eq_true, Bool.false_eq_true] at h k
      · simpa using h
      · simpa using k

theorem Priced.of_budget (h : Priced s) (budget : t.budget = s.budget) (supply : t.cfg.supply = s.cfg.supply) : Priced t :=
  h.congr (by simp [budget]) supply (by rw [budget]) (by simp [budget]) (by rw [budget]) (by rw [budget])

theorem Priced.trigger (h : Priced s) : Priced s.trigger := h.of_budget (State.trigger_budget s) rfl

theorem Priced.triggerIf (h : Priced s) (c : Bool) : Priced (s.triggerIf c) := by
  unfold State.triggerIf
  split
  · exact h.trigger
  · exact h

theorem Priced.revocationStep (h : Priced s) : Priced s.revocationStep := by
  unfold State.revocationStep
  split
  · split
    · exact h
    · exact h.congr (fun _ => rfl) rfl rfl (fun _ => rfl) rfl rfl
  · exact h

theorem State.budgetState_priced (formed : s.budget.figures = s.formFigures) : Priced s.budgetState := by
  obtain ⟨state, figures, same⟩ := s.budgetState_follows
  exact ⟨by rw [figures, same, formed], state⟩

theorem Priced.budgetTriggers (h : Priced s) (x : Figures) : Priced (s.budgetTriggers x) := (h.triggerIf _).triggerIf _

/-- One recomputation forms the figures and sets the state (R65). -/
theorem State.recompute_priced (s : State) : Priced s.recompute := by
  rw [State.recompute]
  exact (State.budgetState_priced (State.withFigures_formed s)).revocationStep.budgetTriggers _

theorem State.recomputeForSlot_priced (s : State) (k : Slot) : Priced (s.recomputeForSlot k) := by
  unfold State.recomputeForSlot
  exact (State.budgetState_priced (s := s.withFigures.raise _) rfl).revocationStep.budgetTriggers _

/-! ## Fan views (R59) -/

@[simp] theorem State.recompute_fanViews (s : State) : s.recompute.budget.fanViews = s.budget.fanViews := by
  have state : ∀ t : State, t.budgetState.budget.fanViews = t.budget.fanViews := fun t => by
    unfold State.budgetState
    dsimp only
    split
    · rfl
    · split <;> rfl
  have step : ∀ t : State, t.revocationStep.budget.fanViews = t.budget.fanViews := fun t => by
    unfold State.revocationStep
    split
    · split <;> rfl
    · rfl
  rw [State.recompute, State.budgetTriggers_budget, step, state]
  rfl

theorem State.fanView_congr (f : Fan) (state : (t.fan f).state = (s.fan f).state) (duty : (t.fan f).duty = (s.fan f).duty)
    (idle : (t.cfg.fans.get f).idle = (s.cfg.fans.get f).idle) (full : (t.cfg.fans.get f).full = (s.cfg.fans.get f).full) :
    t.fanView f = s.fanView f := by
  rw [State.fan, State.fan] at state duty
  rw [State.fanView, state, duty, idle, full, State.fanView]

theorem State.fanView_frame (f : Fan) (cooling : t.cooling = s.cooling) (cfg : t.cfg = s.cfg) :
    t.fanView f = s.fanView f := by rw [State.fanView, cooling, cfg, State.fanView]

theorem State.fanView_putFan {f g : Fan} (other : f ≠ g) (r : FanRecord) : (s.putFan f r).fanView g = s.fanView g := by
  refine State.fanView_congr g ?_ ?_ rfl rfl <;> rw [State.putFan_fan, if_neg other]

theorem State.fanNotice_fanViews (s : State) (f g : Fan) : (s.fanNotice f).budget.fanViews.get g =
    if f = g then s.fanView f else s.budget.fanViews.get g := by
  rw [State.fanNotice, State.recompute_fanViews, State.putBudget_budget, Table.get_put]

theorem State.fanNotice_fanView (s : State) (f g : Fan) : (s.fanNotice f).fanView g = s.fanView g :=
  State.fanView_frame g (s.fanNotice_cooling f) (s.fanNotice_cfg f)

/-! ## The budget behind the notices -/

theorem Settles.commitments_agree {s t : State} (h : Settles s t) (agrees : CommitmentsAgree s) : CommitmentsAgree t :=
  fun b => by
    rw [h.commitments, State.bay, h.bays]
    exact agrees b

/-- What leaves the commitments, the views and the figures with what they are formed from. -/
theorem BudgetAgrees.frame (h : BudgetAgrees s) (budget : t.budget = s.budget)
    (commitments : ∀ b, (t.bay b).commitment = (s.bay b).commitment) (views : ∀ f, t.fanView f = s.fanView f)
    (supply : t.cfg.supply = s.cfg.supply) : BudgetAgrees t :=
  .intro (fun b => by rw [budget, commitments]; exact h.commitments b) (fun f => by rw [budget, views]; exact h.views f)
    (h.priced.of_budget budget supply)

theorem BudgetAgrees.trigger (h : BudgetAgrees s) : BudgetAgrees s.trigger :=
  h.frame (State.trigger_budget s) (fun _ => rfl) (fun _ => rfl) rfl

/-- After a fan's record has changed its notice brings the budget back into agreement (R59). -/
theorem State.fanNotice_agrees (commitments : CommitmentsAgree s) (f : Fan)
    (views : ∀ g, g ≠ f → s.budget.fanViews.get g = s.fanView g) : BudgetAgrees (s.fanNotice f) := by
  refine .intro ((s.fanNotice_settles f).commitments_agree commitments) (fun g => ?_) (State.recompute_priced _)
  rw [State.fanNotice_fanViews, State.fanNotice_fanView]
  split
  · rename_i same
    rw [same]
  · rename_i other
    exact views g (Ne.symm other)

theorem State.commandFan_agrees (h : BudgetAgrees s) (d : Nat) (f : Fan) : BudgetAgrees (s.commandFan d f) := by
  unfold State.commandFan
  split
  · exact State.fanNotice_agrees (s := s.putFan f { s.fan f with duty := d }) h.commitments f fun g other =>
      (h.views g).trans (State.fanView_putFan (Ne.symm other) _).symm
  · exact h

theorem BudgetAgrees.foldl {α : Type} {f : State → α → State} (keeps : ∀ t a, BudgetAgrees t → BudgetAgrees (f t a))
    (l : List α) {s : State} (h : BudgetAgrees s) : BudgetAgrees (l.foldl f s) := by
  induction l generalizing s with
  | nil => exact h
  | cons a l ih => exact ih (keeps s a h)

theorem BudgetAgrees.retarget (h : BudgetAgrees s) (a : Bool) (z : Zone) : BudgetAgrees (s.retarget a z) := by
  rw [State.retarget_eq]
  split
  · exact h
  · have put : BudgetAgrees (s.putZone z { s.zone z with duty := s.newDuty a z }) :=
      h.frame rfl (fun _ => rfl) (fun _ => rfl) rfl
    exact BudgetAgrees.foldl (fun t f k => State.commandFan_agrees k _ f) z.fans put

theorem BudgetAgrees.judgeZone (h : BudgetAgrees s) (z : Zone) : BudgetAgrees (s.judgeZone z) := by
  refine h.frame (State.judgeZone_budget s z) (fun b => by rw [State.bay, State.judgeZone_bays, State.bay]) (fun f => ?_)
    (by rw [State.judgeZone_cfg])
  have fan := s.judgeZone_fan z f
  exact State.fanView_congr f (by rw [fan]) (by rw [fan]) (by rw [State.judgeZone_cfg]) (by rw [State.judgeZone_cfg])

theorem BudgetAgrees.reviewZone (h : BudgetAgrees s) (z : Zone) : BudgetAgrees (s.reviewZone z) :=
  (h.retarget false z).judgeZone z

theorem BudgetAgrees.reviewZones (h : BudgetAgrees s) (zs : List Zone) : BudgetAgrees (s.reviewZones zs) :=
  BudgetAgrees.foldl (fun _ z k => k.reviewZone z) zs h

theorem BudgetAgrees.retargetAll (h : BudgetAgrees s) (a : Bool) : BudgetAgrees (s.retargetAll a) :=
  BudgetAgrees.foldl (fun _ z k => k.retarget a z) allZones h

theorem BudgetAgrees.discardReport (h : BudgetAgrees s) (b : Bay) : BudgetAgrees (s.discardReport b) := by
  unfold State.discardReport
  split
  · exact h
  · have discarded : BudgetAgrees (s.putCooling { s.cooling with reports := Table.put s.cooling.reports b none }) :=
      h.frame rfl (fun _ => rfl) (fun _ => rfl) rfl
    exact discarded.reviewZone _

theorem State.recompute_agrees (commitments : CommitmentsAgree s) (views : ViewsAgree s) : BudgetAgrees s.recompute :=
  .intro (s.recompute_settles.commitments_agree commitments)
    (fun f => by rw [State.recompute_fanViews, State.fanView_frame f s.recompute_cooling s.recompute_cfg]; exact views f)
    s.recompute_priced

/-! ## Moves (R62) -/

theorem Budget.noticed_commitments (x : Budget) (b c : Bay) (old new : BayState) (n : Nat) :
    (x.noticed b old new n).commitments.get c = if b = c then n else x.commitments.get c := by
  rw [Budget.noticed, Table.get_put]

theorem State.answerGrant_agrees (h : BudgetAgrees s) (b : Bay) (new : BayState) : BudgetAgrees (s.answerGrant b new) := by
  unfold State.answerGrant
  split
  · exact h
  · split
    · exact BudgetAgrees.trigger (h.frame rfl (fun _ => rfl) (fun _ => rfl) rfl)
    · exact h

/-- A bay's move commits its new current, whatever its commitment was (R62). -/
theorem BudgetAgrees.move (commitments : ∀ c, c ≠ b → s.budget.commitments.get c = (s.bay c).commitment)
    (views : ViewsAgree s) (new : BayState) (timer : Option Nat) (es : List Event) :
    BudgetAgrees (s.move b new timer es) := by
  have budget : (s.entered b new timer es).budget = s.budget := by rw [State.entered]; simp
  have committed : CommitmentsAgree ((s.entered b new timer es).noticed b (s.bay b).state new) := fun c => by
    show ((s.entered b new timer es).budget.noticed b (s.bay b).state new _).commitments.get c =
      ((s.entered b new timer es).bay c).commitment
    rw [Budget.noticed_commitments, budget]
    split
    · rename_i same
      rw [same]
    · rename_i other
      rw [State.entered_bay, if_neg other]
      exact commitments c (Ne.symm other)
  have viewed : ViewsAgree ((s.entered b new timer es).noticed b (s.bay b).state new) := fun f => by
    show (s.entered b new timer es).budget.fanViews.get f = (s.entered b new timer es).fanView f
    rw [budget, State.fanView_frame (t := s.entered b new timer es) (s := s) f (by rw [State.entered]; simp)
      (by rw [State.entered]; simp)]
    exact views f
  have answered : BudgetAgrees (s.budgeted b new timer es) := by
    rw [State.budgeted_eq]
    have taken := State.answerGrant_agrees (State.recompute_agrees committed viewed) b new
    unfold State.triggerIf
    split
    · exact taken.trigger
    · exact taken
  rw [State.move_cooled]
  refine (answered.retarget false _).frame (State.lightNotice_budget _ b) (fun c => ?_) (fun f => ?_) (by
    rw [State.lightNotice_cfg, State.coolingNotice])
  · rw [State.bay, State.lightNotice_bays, State.coolingNotice, State.bay]
  · exact State.fanView_frame f (State.lightNotice_cooling _ b) (State.lightNotice_cfg _ b)

end Sys2Proof.Machine
end

section
/-! SUPPORT. Every effect keeps the budget unit in agreement with the enclosure. -/

namespace Sys2Proof.Machine

variable {s t : State} {b : Bay}

theorem BayRecord.commitment_congr {r r' : BayRecord} (state : r'.state = r.state) (snapshot : r'.snapshot = r.snapshot) :
    r'.commitment = r.commitment := by
  simp only [BayRecord.commitment, BayRecord.snap, state, snapshot]

/-- One bay's record changes and commits what it did. -/
theorem BudgetAgrees.record (h : BudgetAgrees s) {r : BayRecord} (bay : ∀ c, t.bay c = if b = c then r else s.bay c)
    (state : r.state = (s.bay b).state) (snapshot : r.snapshot = (s.bay b).snapshot) (budget : t.budget = s.budget)
    (cooling : t.cooling = s.cooling) (cfg : t.cfg = s.cfg) : BudgetAgrees t := by
  refine h.frame budget (fun c => ?_) (fun f => State.fanView_frame f cooling cfg) (by rw [cfg])
  rw [bay]
  split
  · rename_i same
    exact same ▸ BayRecord.commitment_congr state snapshot
  · rfl

/-- What leaves the bays, the budget unit, the cooling controller and the configuration. -/
theorem BudgetAgrees.same (h : BudgetAgrees s) (budget : t.budget = s.budget) (bays : t.bays = s.bays)
    (cooling : t.cooling = s.cooling) (cfg : t.cfg = s.cfg) : BudgetAgrees t :=
  h.frame budget (fun c => by rw [State.bay, bays, State.bay]) (fun f => State.fanView_frame f cooling cfg) (by rw [cfg])

/-- A bay moves from another record of its own, the rest as it was. -/
theorem BudgetAgrees.moveAfter (h : BudgetAgrees s) {u : State} (budget : u.budget = s.budget)
    (bays : ∀ c, c ≠ b → u.bay c = s.bay c) (cooling : u.cooling = s.cooling) (cfg : u.cfg = s.cfg) (new : BayState)
    (timer : Option Nat) (es : List Event) : BudgetAgrees (u.move b new timer es) :=
  BudgetAgrees.move (fun c other => by rw [budget, bays c other]; exact h.commitments c)
    (fun f => by rw [budget, State.fanView_frame f cooling cfg]; exact h.views f) new timer es

/-- A removal request: the triggers stand apart, and the budget unit is told of no move. -/
theorem State.removeEntryIf_budget_agrees (h : BudgetAgrees s) (w : Bool) (b : Bay) : BudgetAgrees (s.removeEntryIf w b) := by
  unfold State.removeEntryIf State.removeEntry
  split
  · split
    · exact BudgetAgrees.trigger (h.same rfl rfl rfl rfl)
    · exact h
  · exact h

theorem State.joinAt_budget_agrees (h : BudgetAgrees s) (b : Bay) (k : EntryKind) (time : EventTime) :
    BudgetAgrees (s.joinAt b k time) := BudgetAgrees.trigger (h.same rfl rfl rfl rfl)

theorem State.enterEmpty_budget_agrees (h : BudgetAgrees s) (b : Bay) : BudgetAgrees (s.enterEmpty b) := by
  have moved : BudgetAgrees (s.move b .empty none (removedEvents (s.bay b) b)) :=
    h.moveAfter rfl (fun _ _ => rfl) rfl rfl .empty none _
  have emptying : BudgetAgrees (s.emptying b) := by
    refine moved.record (b := b) (r := (s.bay b).emptied) (fun c => ?_) ?_ ?_ ?_ (State.emptying_cooling s b) ?_
    · rw [State.emptying_bay, State.bay_move]
      by_cases same : b = c <;> simp [same]
    · rw [State.bay_move, if_pos rfl]
      rfl
    · rw [State.bay_move, if_pos rfl]
      rfl
    · rw [State.emptying, State.unquarantine_budget, State.onBay_budget]
    · rw [State.emptying_cfg, State.move_cfg]
  rw [State.enterEmpty_eq]
  refine BudgetAgrees.discardReport (emptying.same ?_ ?_ ?_ ?_) b
  · rw [foldl_keeps State.budget (fun t k => t.setCond_budget b k false)]
  · rw [foldl_keeps State.bays (fun t k => t.setCond_bays b k false)]
  · rw [foldl_keeps State.cooling (fun t k => t.setCond_cooling b k false)]
  · rw [foldl_keeps State.cfg (fun t k => t.setCond_cfg b k false)]

theorem State.grantReached_budget_agrees (h : BudgetAgrees s) (g : Grant) : BudgetAgrees (s.grantReached g) := by
  unfold State.grantReached State.carryOut
  split
  · cases g.kind with
    | wake => exact h.moveAfter rfl (fun _ _ => rfl) rfl rfl .granted _ _
    | powerOn =>
      exact h.moveAfter (by simp) (fun c other => by simp [Ne.symm other]) (by simp) (by simp) .ramping none []
  · exact h.same rfl rfl rfl rfl

/-! ## Lines and parameters -/

/-- A slot's lines change, and the condition they give may. -/
theorem State.recomputeForSlot_fanViews (s : State) (k : Slot) :
    (s.recomputeForSlot k).budget.fanViews = s.budget.fanViews := by
  have state : ∀ t : State, t.budgetState.budget.fanViews = t.budget.fanViews := fun t => by
    unfold State.budgetState
    dsimp only
    split
    · rfl
    · split <;> rfl
  have step : ∀ t : State, t.revocationStep.budget.fanViews = t.budget.fanViews := fun t => by
    unfold State.revocationStep
    split
    · split <;> rfl
    · rfl
  unfold State.recomputeForSlot
  dsimp only
  rw [State.budgetTriggers_budget, step, state]
  rfl

theorem State.recomputeForSlot_agrees (commitments : CommitmentsAgree s) (views : ViewsAgree s) (k : Slot) :
    BudgetAgrees (s.recomputeForSlot k) :=
  .intro ((s.recomputeForSlot_settles k).commitments_agree commitments)
    (fun f => by
      rw [State.recomputeForSlot_fanViews, State.fanView_frame f (s.recomputeForSlot_cooling k) (s.recomputeForSlot_cfg k)]
      exact views f)
    (s.recomputeForSlot_priced k)

/-- Lines that give the conditions they gave. -/
theorem BudgetAgrees.lines (h : BudgetAgrees s) {x : Budget} (same : x = { s.budget with slots := x.slots })
    (conditions : ∀ k, (x.slots.get k).condition = (s.budget.slots.get k).condition)
    (budget : t.budget = x) (commitments : ∀ b, (t.bay b).commitment = (s.bay b).commitment)
    (views : ∀ f, t.fanView f = s.fanView f) (supply : t.cfg.supply = s.cfg.supply) : BudgetAgrees t := by
  refine .intro (fun b => ?_) (fun f => ?_) (h.priced.congr (fun k => ?_) supply ?_ (fun b => ?_) ?_ ?_)
  · rw [commitments, budget, same]
    exact h.commitments b
  · rw [views, budget, same]
    exact h.views f
  · rw [budget]
    exact conditions k
  all_goals rw [budget, same]

/-! ## Fans -/

/-- Notices of fans, one after another, that name every fan whose view differs. -/
theorem State.fanNotices_agree (fs : List Fan) (commitments : CommitmentsAgree s) (priced : Priced s)
    (views : ∀ f, f ∉ fs → s.budget.fanViews.get f = s.fanView f) : BudgetAgrees (fs.foldl State.fanNotice s) := by
  induction fs generalizing s with
  | nil => exact .intro commitments (fun f => views f (by simp)) priced
  | cons f fs ih =>
    rw [List.foldl_cons]
    refine ih (s := s.fanNotice f) ((s.fanNotice_settles f).commitments_agree commitments) (State.recompute_priced _) fun g out => ?_
    rw [State.fanNotice_fanViews, State.fanNotice_fanView]
    split
    · rename_i same
      rw [same]
    · rename_i other
      exact views g (by simp [out, Ne.symm other])

theorem State.checkEnds_budget_agrees (h : BudgetAgrees s) : BudgetAgrees s.checkEnds := by
  have noticed : BudgetAgrees ((allFans.filter fun f => (s.fan f).state == .checking).foldl State.fanNotice
      s.fansJudged) := by
    refine State.fanNotices_agree _ (fun b => ?_) (h.priced.of_budget s.fansJudged_budget (by rw [State.fansJudged_cfg]))
      fun f out => ?_
    · rw [State.fansJudged_budget, State.bay, State.fansJudged_eq, State.unchecked, State.putCooling_bays,
        foldl_keeps State.bays State.checkFan_bays]
      exact h.commitments b
    · have still : (s.fan f).state ≠ .checking := by simpa [mem_allFans] using out
      rw [State.fansJudged_budget, h.views f]
      have fan : s.fansJudged.fan f = s.fan f := by rw [State.fansJudged_fan, State.checkedFan, if_neg still]
      exact (State.fanView_congr f (by rw [fan]) (by rw [fan]) (by rw [State.fansJudged_cfg])
        (by rw [State.fansJudged_cfg])).symm
  rw [State.checkEnds_eq, State.holdEnds]
  exact BudgetAgrees.trigger ((noticed.retargetAll false).same (by rw [State.putArbiter_budget])
    (by rw [State.putArbiter_bays]) (by rw [State.putArbiter_cooling]) (by rw [State.putArbiter_cfg]))

/-- A fan's settings and record are written, with a notice where its view changes (R59, R124). -/
theorem State.writeFan_budget_agrees (h : BudgetAgrees s) (f : Fan) (x : FanSettings) : BudgetAgrees (s.writeFan f x) := by
  have others : ∀ g, g ≠ f → (s.fanWritten f x).fanView g = s.fanView g := fun g other =>
    (State.fanView_putFan (Ne.symm other) _).trans (State.fanView_congr g rfl rfl
      (by rw [State.putCfg_cfg, Table.get_put_ne _ (Ne.symm other)])
      (by rw [State.putCfg_cfg, Table.get_put_ne _ (Ne.symm other)]))
  have noticed : BudgetAgrees ((s.fanWritten f x).fanNotice f) :=
    State.fanNotice_agrees (s := s.fanWritten f x) h.commitments f fun g other => (h.views g).trans (others g other).symm
  have silent : ((s.putCfg { s.cfg with fans := Table.put s.cfg.fans f x }).fanAfterSetting f x.absent).state =
        (s.fan f).state ∧
      ((s.putCfg { s.cfg with fans := Table.put s.cfg.fans f x }).fanAfterSetting f x.absent).duty = (s.fan f).duty ∧
      x.idle = (s.cfg.fans.get f).idle ∧ x.full = (s.cfg.fans.get f).full → BudgetAgrees (s.fanWritten f x) :=
    fun ⟨state, duty, idle, full⟩ => by
      refine h.frame rfl (fun _ => rfl) (fun g => ?_) rfl
      by_cases same : g = f
      · subst same
        refine State.fanView_congr g ?_ ?_ ?_ ?_
        · rw [State.fanWritten, State.putFan_fan, if_pos rfl, state]
        · rw [State.fanWritten, State.putFan_fan, if_pos rfl, duty]
        · rw [State.fanWritten_cfg, Table.get_put_self, idle]
        · rw [State.fanWritten_cfg, Table.get_put_self, full]
      · exact others g same
  unfold State.writeFan
  dsimp only
  split
  · split
    · rename_i same
      exact silent same
    · exact noticed
  · split
    · rename_i same
      exact (silent same).retarget false _
    · exact noticed.retarget false _

/-! ## Restarts -/

theorem BayRecord.acrossRestart_commitment (r : BayRecord) : r.acrossRestart.commitment = r.commitment := by
  unfold BayRecord.acrossRestart
  split
  all_goals rename_i state
  case h_1 | h_2 | h_3 | h_4 | h_5 | h_6 => rfl
  case h_7 | h_13 => exact BayRecord.commitment_congr rfl rfl
  case h_8 => simp [BayRecord.commitment, BayRecord.openIn, state]
  all_goals simp [BayRecord.commitment, BayRecord.closedIn, BayRecord.snap, state]

theorem State.rebuiltCommitments_get (s : State) (b : Bay) : s.rebuiltCommitments.get b = (s.bay b).commitment := by
  rw [State.rebuiltCommitments, Table.get_each, State.bay]

theorem State.warmAtOnce_commitments (s : State) (b : Bay) :
    s.warmAtOnce.budget.commitments.get b = (s.bay b).commitment := by
  rw [State.warmAtOnce_budget, Budget.warm]
  dsimp only
  rw [State.rebuiltCommitments_get, State.mapped_bay, BayRecord.acrossRestart_commitment]

theorem State.warmAtOnce_budget_agrees (h : BudgetAgrees s) : BudgetAgrees s.warmAtOnce := by
  obtain ⟨n, budget⟩ : ∃ n, s.warmAtOnce.budget = s.budget.warm n := ⟨_, s.warmAtOnce_budget⟩
  have commitments : ∀ b, s.warmAtOnce.budget.commitments.get b = (s.bay b).commitment := s.warmAtOnce_commitments
  refine .intro (fun b => ?_) (fun f => ?_) (h.priced.congr (fun k => ?_) (by rw [State.warmAtOnce_cfg]) ?_ (fun b => ?_) ?_ ?_)
  · rw [commitments, State.warmAtOnce_bay, BayRecord.acrossRestart_commitment]
  · rw [State.fanView_frame f s.warmAtOnce_cooling s.warmAtOnce_cfg, budget]
    exact h.views f
  · rw [budget]
    rfl
  · rw [budget]
    rfl
  · rw [commitments, h.commitments b]
  · rw [budget]
    rfl
  · rw [budget]
    rfl

theorem foldl_put_get {α : Type} {n : Nat} (g : Fin n → α) (l : List (Fin n)) (x : Table α n) (i : Fin n) :
    (l.foldl (fun t j => Table.put t j (g j)) x).get i = if i ∈ l then g i else x.get i := by
  induction l generalizing x with
  | nil => simp
  | cons j l ih =>
    rw [List.foldl_cons, ih]
    by_cases same : j = i
    · simp [same]
    · simp [same, Ne.symm same]

theorem State.viewed_agrees (s : State) : ViewsAgree s.viewed := fun f =>
  (foldl_put_get (fun f => s.fanView f) allFans s.budget.fanViews f).trans (if_pos (mem_allFans f))

theorem State.budgetReloaded_agrees (h : CommitmentsAgree s) : BudgetAgrees s.budgetReloaded :=
  State.recompute_agrees (s := s.viewed) h s.viewed_agrees

theorem State.coldStart_budget_agrees (straps : BitVec 3) : BudgetAgrees (s.coldStart straps) := by
  unfold State.coldStart
  refine State.fanNotices_agree allFans (Settles.commitments_agree (State.recompute_settles _) fun b => ?_)
    (State.recompute_priced _) fun f out => absurd (mem_allFans f) out
  rw [State.raiseAll_budget, State.bay, State.raiseAll_bays]
  simp [State.blocksCold, Budget.cold, BayRecord.cold, BayRecord.commitment]

/-! ## The effects -/

theorem State.sensorResult_budget_agrees (h : BudgetAgrees s) (k : Sensor) (result : Option Int) :
    BudgetAgrees (s.sensorResult k result) := by
  have held : BudgetAgrees ((s.putCooling { s.cooling with
      sensors := Table.put s.cooling.sensors k ((s.cooling.sensors.get k).result result) }).raiseAll
      (sensorEvents k (s.cooling.sensors.get k) ((s.cooling.sensors.get k).result result))) := by
    refine h.frame (by simp) (fun b => ?_) (fun f => State.fanView_congr f ?_ ?_ (by simp) (by simp)) (by simp)
    · rw [State.bay, State.raiseAll_bays]
      rfl
    · rw [State.fan, State.raiseAll_cooling]
      rfl
    · rw [State.fan, State.raiseAll_cooling]
      rfl
  unfold State.sensorResult
  dsimp only
  split
  · exact held
  · exact held.reviewZones _

theorem SlotLines.tick_condition (l : SlotLines) : l.tick.condition = l.condition := rfl

theorem Effect.keeps_budget {s t : State} (h : Effect s t) (agrees : BudgetAgrees s) : BudgetAgrees t := by
  have configured : ∀ c, c.supply = s.cfg.supply → c.fans = s.cfg.fans → BudgetAgrees (s.putCfg c) := fun c supply fans =>
    agrees.frame rfl (fun _ => rfl)
      (fun f => State.fanView_congr f rfl rfl (by rw [State.putCfg_cfg, fans]) (by rw [State.putCfg_cfg, fans])) supply
  have cooled : ∀ x : Cooling, x.fans = s.cooling.fans → BudgetAgrees (s.putCooling x) := fun x fans =>
    agrees.frame rfl (fun _ => rfl) (fun f => by rw [State.fanView, State.putCooling_cooling, fans]; rfl) rfl
  cases h with
  | record b r follows =>
    exact agrees.record (fun c => State.bay_putBay s b c r) follows.state follows.snapshot rfl rfl rfl
  | code b code =>
    refine agrees.record (b := b) (r := (s.onBay b (fun r => { r with code := some code })).selectedRecord b) (fun c => ?_)
      (by simp [State.selectedRecord]) (by simp [State.selectedRecord]) (by simp) (by simp) (by simp)
    rw [State.bay_select, State.bay_onBay]
    by_cases same : b = c <;> simp [same]
  | select b => exact agrees.record (fun c => State.bay_select s b c) rfl rfl (by simp) (by simp) (by simp)
  | settling b =>
    exact agrees.record (b := b) (r := { s.bay b with timer := some 2000, settling := true })
      (fun c => by simp [State.beginSettling]) rfl rfl (by simp) (by simp) (by simp)
  | removal b v => exact agrees.record (fun c => s.setRemoval_bay b c v) rfl rfl (by simp) (by simp) (by simp)
  | move u b new timer es may marked =>
    have removed := State.removeEntryIf_budget_agrees agrees (s.bay b).state.waits b
    exact removed.moveAfter (by cases marked <;> simp) (fun c other => by rw [marked.bay, if_neg (Ne.symm other)])
      (by cases marked <;> simp) (by cases marked <;> simp) new timer es
  | spinDown b level =>
    have armed : BudgetAgrees (s.toChan b (fun c => c.armRise level)) := agrees.same rfl rfl rfl rfl
    exact armed.moveAfter rfl (fun _ _ => rfl) rfl rfl .standby none []
  | checkedOut b =>
    have removed := State.removeEntryIf_budget_agrees agrees ((s.bay b).state == .queued) b
    exact (removed.moveAfter (b := b) rfl (fun _ _ => rfl) rfl rfl .idleOff none []).same (by simp) (by simp) (by simp)
      (by simp)
  | queues b time =>
    have moved : BudgetAgrees (s.move b .queued none []) := agrees.moveAfter rfl (fun _ _ => rfl) rfl rfl .queued none []
    exact State.joinAt_budget_agrees moved b _ time
  | wakes b time =>
    have moved : BudgetAgrees (s.move b .wakeQueued none []) :=
      agrees.moveAfter rfl (fun _ _ => rfl) rfl rfl .wakeQueued none []
    exact State.joinAt_budget_agrees moved b _ time
  | empties b => exact State.enterEmpty_budget_agrees agrees b
  | grant b g rest =>
    have taken : BudgetAgrees (s.putArbiter { s.arbiter with grants := rest }) := agrees.same rfl rfl rfl rfl
    exact State.grantReached_budget_agrees taken g
  | decline b d rest =>
    unfold State.declineTaken
    split
    · exact agrees.same rfl rfl rfl rfl
    · exact BudgetAgrees.trigger (agrees.same rfl rfl rfl rfl)
  | revocations xs =>
    exact .intro agrees.commitments agrees.views (agrees.priced.congr (fun _ => rfl) rfl rfl (fun _ => rfl) rfl rfl)
  | stagger => exact BudgetAgrees.trigger (agrees.same rfl rfl rfl rfl)
  | trigger => exact agrees.trigger
  | slot k l _ _ present good =>
    refine agrees.lines (x := { s.budget with slots := Table.put s.budget.slots k l }) rfl (fun j => ?_) rfl (fun _ => rfl)
      (fun _ => rfl) rfl
    rw [Table.get_put]
    split
    · rename_i same
      rw [← same, SlotLines.condition, present, good, SlotLines.condition]
    · rfl
  | slotChange k l =>
    exact State.recomputeForSlot_agrees (s := s.putSlot k l) agrees.commitments agrees.views k
  | supply x =>
    exact State.recompute_agrees (s := s.putCfg { s.cfg with supply := x }) agrees.commitments agrees.views
  | fan f r follows =>
    refine agrees.frame rfl (fun _ => rfl) (fun g => ?_) rfl
    refine State.fanView_congr g ?_ ?_ rfl rfl
    · rw [State.putFan_fan]
      split
      · rename_i same
        exact same ▸ follows.state
      · rfl
    · rw [State.putFan_fan]
      split
      · rename_i same
        exact same ▸ follows.duty
      · rfl
  | fanMoves f r e =>
    have noticed : BudgetAgrees (((s.putFan f r).raise e).fanNotice f) :=
      State.fanNotice_agrees (s := (s.putFan f r).raise e) agrees.commitments f fun g other =>
        (agrees.views g).trans (State.fanView_putFan (Ne.symm other) r).symm
    exact noticed.retarget false _
  | readStart => exact cooled _ rfl
  | sensor k result => exact State.sensorResult_budget_agrees agrees k result
  | reports reports zs => exact (cooled { s.cooling with reports := reports } rfl).reviewZones zs
  | evaluation => exact (cooled { s.cooling with evaluation := 1000 } rfl).retargetAll true
  | checkEnds => exact State.checkEnds_budget_agrees agrees
  | airCurve z c => exact (configured { s.cfg with airCurves := Table.put s.cfg.airCurves z.number c } rfl rfl).retarget false z
  | common c => exact (configured { s.cfg with common := c } rfl rfl).reviewZones allZones
  | fanSettings f x => exact State.writeFan_budget_agrees agrees f x
  | policy w b =>
    unfold State.setPolicyBay
    dsimp only
    have written := configured { s.cfg with bays := Table.put s.cfg.bays b ((s.baySettings b).written w) } rfl rfl
    split
    · exact written
    · exact written.reviewZones _
  | cfg c _ _ supply _ _ fans => exact configured c supply fans
  | linkChange l speed turnaround =>
    exact (configured { s.cfg with speed := speed, turnaround := turnaround } rfl rfl).same rfl rfl rfl rfl
  | warm => exact State.warmAtOnce_budget_agrees agrees
  | reload x =>
    rw [State.reloadedCooling]
    refine State.budgetReloaded_agrees fun b => ?_
    rw [State.bay, State.reloadedFans_eq, State.putCooling_bays, State.reload_bays, State.putCooling_budget, State.reload_budget]
    exact agrees.commitments b
  | judge z => exact agrees.judgeZone z
  | cold straps => exact State.coldStart_budget_agrees straps
  | tick =>
    refine agrees.lines (x := { s.budget with slots := Table.each SlotLines.tick s.budget.slots }) rfl (fun k => ?_) rfl
      (fun c => ?_) (fun f => State.fanView_congr f ?_ ?_ rfl rfl) rfl
    · rw [Table.get_each, SlotLines.tick_condition]
    · rw [State.bay, State.tick, Table.get_each]
      exact BayRecord.commitment_congr rfl rfl
    · simp [State.fan, State.tick, Cooling.tick, FanRecord.tick]
    · simp [State.fan, State.tick, Cooling.tick, FanRecord.tick]
  | _ => exact agrees.same (by simp) (by simp) (by simp) (by simp)

end Sys2Proof.Machine
end

section
/-! The statements about what every step keeps, settled: the budget and the spin count. -/

namespace Sys2Proof.Machine

/-- Settles O54: every effect keeps the budget unit and the spin count in agreement with the enclosure. -/
theorem stepKeepsTheBudget : Obligations.StepKeepsTheBudget := fun _ budget counts =>
  step_keeps (P := fun s => BudgetAgrees s ∧ CountsAgree s)
    (fun _ _ effect h => ⟨effect.keeps_budget h.1, effect.keeps_counts h.2⟩) ⟨budget, counts⟩

end Sys2Proof.Machine
end

section
/-! SUPPORT. The state after reset is a cold start of itself, and meets every invariant. -/

namespace Sys2Proof.Machine

theorem State.reset_bay (b : Bay) : State.reset.bay b = .cold := by simp [State.bay, State.reset]

theorem State.reset_chan (b : Bay) : State.reset.chan b = .cold false false true true := by simp [State.chan, State.reset]

theorem State.reset_slot (k : Slot) : State.reset.budget.slots.get k = ⟨.cold 10 false, .cold 10 false⟩ := by
  simp [State.reset, Budget.cold]

/-- What holds after every cold start holds after reset. -/
theorem State.reset_of_coldStart {P : State → Prop} (h : P (State.reset.coldStart 0)) : P State.reset :=
  Eq.mp (congrArg P Sys2Proof.Tests.test_cold_start_is_reset) h

theorem State.reset_settings : SettingsInRange State.reset := by
  obtain ⟨zones, fans⟩ : DutiesBounded State.reset := State.reset_of_coldStart (State.coldStart_duties 0)
  refine ⟨factorySettings_legal, fun p h => ?_, fun frame action h => ?_, factorySettings_legal, fun w h => ?_,
    fun h => ?_, fun b p h => ?_, zones, fans⟩
  · cases h
  · cases h
  · cases h
  · cases h
  · rw [State.reset_bay] at h
    cases h

theorem State.reset_cooled : CooledEnough State.reset := by
  have legal : (State.reset.coldStart 0).cfg.common.legal := by
    rw [Sys2Proof.Tests.test_cold_start_is_reset]
    exact factorySettings_legal.2.2.2.2.2.1
  exact State.reset_of_coldStart (State.coldStart_cooled 0 legal)

theorem State.reset_records : RecordsAgree State.reset := by
  refine ⟨fun b => ?_, List.nodup_nil, fun e h => ?_⟩
  · rw [State.reset_bay]
    exact BayRecord.cold_agrees
  · cases h

theorem State.reset_channels : ChannelsAgree State.reset := by
  refine ⟨fun b => ?_, fun b => ?_, fun k => ?_⟩
  · rw [State.reset_chan]
    exact Channel.cold_agrees ..
  · rw [State.reset_chan]
    exact ⟨nofun, nofun⟩
  · rw [State.reset_slot]
    exact ⟨FilteredLine.agrees_cold 10 _, FilteredLine.agrees_cold 10 _⟩

theorem State.reset_link : LinkAgrees State.reset :=
  ⟨⟨nofun, nofun⟩, nofun, nofun, rfl⟩

theorem State.reset_queue : QueueAgrees State.reset := by
  refine ⟨List.nodup_nil, nofun, fun b waits => ?_, .nil, rfl, nofun, nofun, nofun⟩
  rw [State.reset_bay] at waits
  cases waits <;> contradiction

end Sys2Proof.Machine
end

section
/-! The statement about the state after reset, settled. -/

namespace Sys2Proof.Machine

/-- Settles O60: the state after reset is a cold start of itself, and every cold start meets the invariants. -/
theorem resetMeetsTheInvariants : Obligations.ResetMeetsTheInvariants :=
  ⟨State.reset_settings, State.reset_cooled, State.reset_of_coldStart (State.coldStart_budget_agrees 0),
    State.reset_of_coldStart (State.coldStart_counts _ 0), State.reset_records, State.reset_channels,
    State.reset_of_coldStart (State.coldStart_cooling_agrees 0), State.reset_of_coldStart (State.coldStart_lights_agree 0),
    State.reset_link, State.reset_of_coldStart (State.coldStart_bounded 0), State.reset_queue⟩

end Sys2Proof.Machine
end

section
/-! SUPPORT. No command touches the queue of waiting commands. -/

namespace Sys2Proof.Machine

variable (s : State)

/-! ## Requests -/

/-- A part of the state that the handling of each bay leaves is left by the handling of a bay list. -/
theorem onBayList_keeps {β : Type} (P : State → β) {f : State → Bay → State × Status} (h : ∀ t b, P (f t b).1 = P t)
    (list : List Byte) (first : Status) : P (onBayList s list first f).1 = P s := by
  have handled : ∀ bays t, P (handleBays f t bays).1 = P t := fun bays => by
    induction bays with
    | nil => exact fun t => rfl
    | cons n rest ih =>
      intro t
      unfold handleBays
      split
      · exact ih t
      · exact (ih _).trans (h t _)
  unfold onBayList
  split
  · rfl
  · exact handled _ s

theorem State.powerOnBay_pending (b : Bay) : (s.powerOnBay b).1.pending = s.pending := by
  unfold State.powerOnBay
  repeat' split
  all_goals simp

theorem State.powerOffBay_pending (b : Bay) : (s.powerOffBay b).1.pending = s.pending := by
  unfold State.powerOffBay
  split <;> simp

theorem State.prepareBay_pending (b : Bay) : (s.prepareBay b).1.pending = s.pending := by
  unfold State.prepareBay
  split <;> simp

theorem State.spinRequestBay_pending (b : Bay) : (s.spinRequestBay b).1.pending = s.pending := by
  unfold State.spinRequestBay
  split <;> simp

theorem State.spinDownBay_pending (b : Bay) : (s.spinDownBay b).1.pending = s.pending := by
  unfold State.spinDownBay
  split <;> simp

theorem State.setPolicyBay_pending (w : PolicyWrite) (b : Bay) : (s.setPolicyBay w b).1.pending = s.pending := by
  unfold State.setPolicyBay
  cases w.zone <;> simp

theorem State.clearQuarantineBay_pending (b : Bay) : (s.clearQuarantineBay b).1.pending = s.pending := by
  unfold State.clearQuarantineBay
  split <;> simp

theorem State.setBayPolicy_pending (p : List Byte) : (s.setBayPolicy p).1.pending = s.pending := by
  unfold State.setBayPolicy
  dsimp only
  split
  · rfl
  · exact onBayList_keeps s State.pending (State.setPolicyBay_pending · _) _ _

theorem State.setCondition_pending (p : List Byte) : (s.setCondition p).1.pending = s.pending := by
  unfold State.setCondition
  repeat' split
  · rfl
  · rfl
  · exact onBayList_keeps s State.pending (fun _ _ => rfl) _ _

theorem State.clearLatch_pending (p : List Byte) : (s.clearLatch p).1.pending = s.pending := by
  unfold State.clearLatch
  repeat' split
  · exact foldl_keeps State.pending (fun _ _ => by simp) allBays s
  · rfl
  · simp

theorem State.driveTemps_pending (p : List Byte) : (s.driveTemps p).1.pending = s.pending := by
  unfold State.driveTemps
  dsimp only
  split
  · rfl
  · rw [State.reviewZones_pending, State.drivePairs_eq, State.putCooling_pending]

theorem State.setZone_pending (p : List Byte) : (s.setZone p).1.pending = s.pending := by
  unfold State.setZone State.setZoneCommon State.setZoneCurve
  dsimp only
  repeat' split
  all_goals simp [refuse]

theorem State.setFan_pending (p : List Byte) : (s.setFan p).1.pending = s.pending := by
  unfold State.setFan
  dsimp only
  repeat' split
  all_goals simp [refuse]

theorem State.setProfileRule_pending (p : List Byte) : (s.setProfileRule p).1.pending = s.pending := by
  unfold State.setProfileRule
  dsimp only
  repeat' split
  all_goals simp [refuse]

/-- A request that is refused, or only writes the configuration, the lights, the events or the store. -/
theorem State.dispatch_pending (k : RequestKind) (p : List Byte) : (s.dispatch k p).1.pending = s.pending := by
  cases k with
  | setBayPolicy => exact s.setBayPolicy_pending p
  | powerOn => exact onBayList_keeps s State.pending State.powerOnBay_pending _ _
  | powerOff => exact onBayList_keeps s State.pending State.powerOffBay_pending _ _
  | prepareRemoval => exact onBayList_keeps s State.pending State.prepareBay_pending _ _
  | spinRequest => exact onBayList_keeps s State.pending State.spinRequestBay_pending _ _
  | spinDownNote => exact onBayList_keeps s State.pending State.spinDownBay_pending _ _
  | clearQuarantine => exact onBayList_keeps s State.pending State.clearQuarantineBay_pending _ _
  | setCondition => exact s.setCondition_pending p
  | clearLatch => exact s.clearLatch_pending p
  | driveTemps => exact s.driveTemps_pending p
  | setZone => exact s.setZone_pending p
  | setFan => exact s.setFan_pending p
  | setProfileRule => exact s.setProfileRule_pending p
  | setSupply =>
    simp only [State.dispatch, State.setSupply]
    split <;> simp [refuse]
  | setAdmission => exact s.writeAdmission_pending _
  | unitInfo | baySummary | coolingStatus | budgetStatus | queueStatus | quarantineList | restart | setLightMask => rfl
  | bayStatus =>
    simp only [State.dispatch, State.bayStatus]
    split <;> rfl
  | setPattern =>
    simp only [State.dispatch, State.setPattern]
    split <;> rfl
  | setConditionPattern =>
    simp only [State.dispatch, State.setConditionPattern]
    split <;> rfl
  | setLocate =>
    simp only [State.dispatch, State.setLocate]
    split <;> rfl
  | setProfile =>
    simp only [State.dispatch, State.setProfile]
    repeat' split
    all_goals rfl
  | getProfile =>
    simp only [State.dispatch, State.getProfile]
    split <;> rfl
  | readEvents =>
    simp only [State.dispatch, State.readEvents]
    split <;> rfl
  | saveSettings =>
    simp only [State.dispatch, State.saveSettings]
    split <;> rfl
  | setLink =>
    simp only [State.dispatch, State.setLink]
    split <;> rfl

/-! ## The link -/

theorem State.takeRequest_pending (code : Byte) (r : Request) : (s.takeRequest code r).pending = s.pending := by
  unfold State.takeRequest State.takeBroadcast State.takeAddressed State.unanswered State.answered
  repeat' split
  all_goals simp [State.dispatch_pending]

theorem State.judgeFrame_pending (f : Frame) : (s.judgeFrame f).pending = s.pending := by
  unfold State.judgeFrame
  split
  · exact s.takeRequest_pending _ _
  · rfl

theorem State.completes_pending (payload : List Byte) {f : State → State} (h : ∀ t, (f t).pending = t.pending) :
    (s.completes payload f).pending = s.pending := by
  unfold State.completes
  repeat' split
  · rfl
  all_goals first | rfl | exact h _

theorem State.characterFramed_pending (byte : Byte) : (s.characterFramed byte).pending = s.pending := by
  unfold State.characterFramed State.byteTaken
  repeat' split
  all_goals first | rfl | exact State.judgeFrame_pending _ _

theorem State.coldStart_pending (straps : BitVec 3) : (s.coldStart straps).pending = s.pending := by
  rw [(s.coldStart_settles straps).pending, State.raiseAll_pending, State.blocksCold]

/-- The report that is taken leaves the waiting commands with the rest of the state. -/
theorem State.takeReport_pending {b : Bay} {r : Report} {t : State} (h : s.takeReport b = some (r, t)) :
    t.pending = s.pending := by
  unfold State.takeReport at h
  split at h
  · cases h
  · cases h
    rfl

end Sys2Proof.Machine
end

section
/-! The statements about single steps and about every command, settled. -/

namespace Sys2Proof.Machine

/-- Settles O1. -/
theorem stepRunsTheFrontCommand : Obligations.StepRunsTheFrontCommand := by
  intro c rest s front
  rw [step, front]
  rfl

/-- Settles O3: command by command, each answers, and none of the operations it is made of touches the queue. -/
theorem everyCommandAnswersNext : Obligations.EveryCommandAnswersNext := by
  intro c s
  cases c with
  | badKind | unitInfo | bayStatus | baySummary | setBayPolicy | powerOn | powerOff | prepareRemoval | spinRequest
  | spinDownNote | setCondition | clearLatch | setLightMask | setPattern | setConditionPattern | setLocate | driveTemps
  | setZone | setZoneCommon | setFan | coolingStatus | setSupply | budgetStatus | setAdmission | queueStatus | setProfile
  | getProfile | setProfileRule | quarantineList | clearQuarantine | readEvents | saveSettings | restart | setLink =>
    exact ⟨_, rfl, s.completes_pending _ fun t => t.takeRequest_pending _ _⟩
  | frameDiscard f => exact ⟨_, rfl, s.completes_pending _ fun t => t.judgeFrame_pending f⟩
  | characterReceived c =>
    refine ⟨_, rfl, ?_⟩
    split
    · rfl
    · exact s.characterFramed_pending _
  | contactChange | seatStable | rampEnd | trip | riseCross | fallCross =>
    refine ⟨_, rfl, ?_⟩
    split
    · rename_i taken
      simpa using s.takeReport_pending taken
    · rfl
  | presenceRawEdge | presenceFilterExpiry | carrierRawEdge | carrierFilterExpiry | seatTimerExpiry | rampTimerExpiry
  | currentSample | tripExcursion | tachPulse | sensorReadStart | supplyRawEdge => exact ⟨_, rfl, rfl⟩
  | standbyPowerUp straps => exact ⟨_, rfl, s.coldStart_pending straps⟩
  | resetAsserted straps => exact ⟨_, rfl, (State.putReset_pending _ true).trans (s.coldStart_pending straps)⟩
  | framingError | gapTimeout =>
    refine ⟨_, rfl, ?_⟩
    unfold State.abandonFrame
    split <;> simp
  | replyBegin =>
    refine ⟨_, rfl, ?_⟩
    repeat' split
    all_goals simp [State.beginReply]
  | replyLapse =>
    refine ⟨_, rfl, ?_⟩
    unfold State.lapse
    repeat' split
    all_goals simp
  | _ =>
    refine ⟨_, rfl, ?_⟩
    repeat' split
    all_goals simp

end Sys2Proof.Machine
end

section
/-! SUPPORT. What idling does, and what a command finds when its report, message, timer or read is not there. -/

namespace Sys2Proof.Machine

variable (s : State)

/-! ## Idling -/

theorem step_of_empty (h : s.pending = []) : step s = .next s.idle := by
  rw [step, h]

theorem State.idle_of_write {w : SettingsWrite} (h : s.resetLow = false) (hw : s.store.writing = some w) (due : w.left = 0) :
    s.idle = s.writeCompletes w.items := by
  rw [State.idle, h, State.pass, hw]
  exact if_pos due

theorem State.idle_of_noWrite (h : s.resetLow = false) (notDue : ¬ ∃ w, s.store.writing = some w ∧ w.left = 0) :
    s.idle = s.replyDue.getD s.tick := by
  rw [State.idle, h, State.pass]
  cases hw : s.store.writing with
  | none => rfl
  | some w => exact if_neg fun due => notDue ⟨w, hw, due⟩

theorem State.replyDue_of_hunting {p : PendingReply} (receiver : s.link.receiver = .hunting)
    (reply : s.link.reply = .pending p) (earliest : p.earliest = 0) (latest : p.latest = 0) :
    s.replyDue = some (s.beginReply p) := by
  simp [State.replyDue, receiver, reply, earliest, latest]

theorem State.replyDue_of_receiving {p : PendingReply} {taken : List Byte} {gap : Nat}
    (receiver : s.link.receiver = .receiving taken gap) (reply : s.link.reply = .pending p) (latest : p.latest = 0) :
    s.replyDue = some (s.lapse p) := by
  simp [State.replyDue, receiver, reply, latest]

theorem exec_replyBegin_of_hunting {p : PendingReply} (receiver : s.link.receiver = .hunting)
    (reply : s.link.reply = .pending p) :
    exec .replyBegin s = .next (if p.earliest = 0 then s.beginReply p else s) := by
  simp [exec, execReplyBegin, receiver, reply]

theorem exec_replyLapse_of_receiving {p : PendingReply} {taken : List Byte} {gap : Nat}
    (receiver : s.link.receiver = .receiving taken gap) (reply : s.link.reply = .pending p) :
    exec .replyLapse s = .next (if p.latest = 0 then s.lapse p else s) := by
  simp [exec, execReplyLapse, receiver, reply]

/-! ## Nothing to take -/

theorem State.takeReport_none {b : Bay} (h : (s.chan b).reports = []) : s.takeReport b = none := by
  simp [State.takeReport, h]

theorem State.takeReport_cons {b : Bay} {r : Report} {rest : List Report} (h : (s.chan b).reports = r :: rest) :
    s.takeReport b = some (r, s.putChan b { s.chan b with reports := rest }) := by
  simp [State.takeReport, h]

theorem State.timing_stopped {b : Bay} (h : (s.bay b).timer = none) (st : BayState) : s.timing b st = false := by
  simp [State.timing, h]

theorem takeFirst_eq_none {α : Type} {p : α → Bool} {l : List α} (h : ∀ x ∈ l, p x = false) : takeFirst p l = none := by
  induction l with
  | nil => rfl
  | cons x rest ih =>
    rw [takeFirst, h x (.head _), ih fun y hy => h y (.tail _ hy)]
    rfl

/-- The oldest message that names a bay stands behind those that do not. -/
theorem takeFirst_append {α : Type} {p : α → Bool} {pre post : List α} {x : α} (skip : ∀ y ∈ pre, p y = false)
    (hit : p x = true) : takeFirst p (pre ++ x :: post) = some (x, pre ++ post) := by
  induction pre with
  | nil => simp [takeFirst, hit]
  | cons y rest ih =>
    rw [List.cons_append, takeFirst, skip y (.head _), ih fun z hz => skip z (.tail _ hz)]
    rfl

end Sys2Proof.Machine
end

section
/-! The statements about idling and about commands with nothing to take, settled. -/

namespace Sys2Proof.Machine

/-- Settles O2, by the cases of what idling does. -/
theorem emptyQueueIdles : Obligations.EmptyQueueIdles := by
  intro s down line writeDue beginDue lapseDue empty
  rw [step_of_empty s empty]
  refine ⟨fun low => ?_, fun high due => ?_, fun high noWrite due => ?_, fun high noWrite due => ?_,
    fun high noWrite noBegin noLapse => ?_⟩
  · rw [State.idle, low]
    rfl
  · obtain ⟨w, writing, left⟩ := due
    rw [s.idle_of_write high writing left]
    simp [exec, execSettingsWriteComplete, writing]
  · obtain ⟨receiver, p, reply, earliest, latest⟩ := due
    rw [s.idle_of_noWrite high noWrite, s.replyDue_of_hunting receiver reply earliest latest,
      exec_replyBegin_of_hunting s receiver reply, if_pos earliest]
    rfl
  · obtain ⟨⟨taken, gap, receiver⟩, p, reply, latest⟩ := due
    rw [s.idle_of_noWrite high noWrite, s.replyDue_of_receiving receiver reply latest,
      exec_replyLapse_of_receiving s receiver reply, if_pos latest]
    rfl
  · have noReply : s.replyDue = none := by
      cases due : s.replyDue with
      | none => rfl
      | some t =>
        obtain ⟨p, reply, latest, ⟨receiver, earliest, -⟩ | ⟨receiver, -⟩⟩ := s.replyDue_cases due
        · exact absurd ⟨receiver, p, reply, earliest, latest⟩ noBegin
        · exact absurd ⟨receiver, p, reply, latest⟩ noLapse
    refine ⟨s.tick, by rw [s.idle_of_noWrite high noWrite, noReply]; rfl, rfl, fun b => ?_, fun b => ?_, fun k => ?_, rfl,
      rfl, fun f => ?_, fun b => ?_, rfl, rfl, fun taken gap receiver => ?_, fun receiver => ?_, fun r reply => ?_,
      fun reply => ?_, rfl, rfl, rfl, rfl, rfl, high, rfl⟩
    · exact Table.get_each ..
    · exact Table.get_each ..
    · exact Table.get_each ..
    · exact Table.get_each ..
    · exact Table.get_each ..
    · exact congrArg Receiver.tick receiver
    · rcases receiver with receiver | receiver <;> exact (congrArg Receiver.tick receiver).trans receiver.symm
    · exact congrArg ReplyState.tick reply
    · show s.link.reply.tick = s.link.reply
      rcases reply with reply | reply <;> cases h : s.link.reply <;> simp_all [ReplyState.tick, ReplyState.isSending]

/-- Settles O6: without its report, message, timer or read every one of these commands takes nothing. -/
theorem commandsWithNothingToTake : Obligations.CommandsWithNothingToTake := by
  intro b f k result s
  refine ⟨fun absent => ?_, fun absent => ?_, fun absent => ?_, fun absent => ?_, fun absent => ?_, fun absent => ?_, fun absent => ?_,
    fun absent => ?_, fun absent => ?_, fun absent => ?_, fun absent => ?_, fun absent => ?_, fun absent => ?_⟩
  · have taken := s.takeReport_none absent
    simp [exec, execContactChange, execSeatStable, execRampEnd, execTrip, execRiseCross, execFallCross, taken]
  · have stopped := s.timing_stopped absent
    simp [exec, execPartialTimerExpiry, execSpinTimerExpiry, execSettleExtensionExpiry, execGrantWindowExpiry,
      execDischargeExpiry, execExtractionWindowExpiry, execBackoffExpiry, stopped]
  · have taken := takeFirst_eq_none (p := fun g : Grant => g.bay == b) fun g hg => by simpa using absent g hg
    simp [exec, execGrantTaken, taken]
  · have taken := takeFirst_eq_none (p := fun d : Decline => d.bay == b) fun d hd => by simpa using absent d hd
    simp [exec, execGrantDecline, taken]
  · have taken := takeFirst_eq_none (p := fun x : Revocation => x.bay == b) fun x hx => by simpa using absent x hx
    simp [exec, execRevocationRequest, taken]
  · simp [exec, execStaggerExpiry, absent]
  · simp [exec, execTachWindowEnd, absent]
  · simp [exec, execSensorReadComplete, absent]
  · show execDriveTempAgeExpiry b s = _
    unfold execDriveTempAgeExpiry
    cases report : s.cooling.reports.get b with
    | none => rfl
    | some r =>
      have old : r.age = none := by simpa [report] using absent
      simp [DriveReport.mayExpire, old]
  · simp [exec, execFanCheckEnd, absent]
  · simp [exec, execSettingsWriteComplete, absent]
  · cases reply : s.link.reply <;> simp_all [exec, execReplyBegin, execReplyLapse, ReplyState.isSending]
  · cases reply : s.link.reply <;> simp_all [exec, execReplySent, ReplyState.isSending]

end Sys2Proof.Machine
end

section
/-! SUPPORT. The channels' commands as their rules state them: lines, contacts, readings. -/

namespace Sys2Proof.Machine

theorem FilteredLine.accept_eq (l : FilteredLine) :
    l.accept = ⟨l.raw, if l.filter.isSome = true then l.raw else l.accepted, none⟩ := by
  unfold FilteredLine.accept
  cases l with
  | mk raw accepted filter => cases filter <;> rfl

theorem FilteredLine.edge_eq (l : FilteredLine) (ms : Nat) (level : Bool) :
    l.edge ms level = ⟨level, l.accepted,
      if l.raw = level then l.filter else if level = l.accepted then none else some ms⟩ := by
  unfold FilteredLine.edge
  split
  · rename_i same
    rw [← same]
  · rfl

/-- The levels the named contacts take. -/
theorem Channel.acceptContacts_eq (c : Channel) (k : Contacts) : c.acceptContacts k = { c with
    early := if k = .late then c.early else c.early.accept
    late := if k = .early then c.late else c.late.accept } := by
  cases k <;> rfl

theorem Channel.openSwitch_eq (c : Channel) (h : c.switch ≠ .opened) : c.openSwitch = { c with
    switch := .opened, rampTimer := none, rampEndWithheld := false, tripLevel := none, riseWatch := none
    fallWatch := none } := by
  unfold Channel.openSwitch
  split
  · exact absurd ‹_› h
  all_goals rfl

theorem Channel.openSwitch_opened (c : Channel) (h : c.switch = .opened) : c.openSwitch = c := by
  unfold Channel.openSwitch
  simp [h]

/-- A change of the accepted levels, by what it does to the seating. -/
theorem Channel.contactsChanged_eq (c : Channel) (early late : FilteredLine) :
    let now := early.accepted = true ∧ late.accepted = true
    let begins := ¬ (c.early.accepted = true ∧ c.late.accepted = true) ∧ now
    let ends := (c.early.accepted = true ∧ c.late.accepted = true) ∧ ¬ now
    let cut := ends ∧ c.switch ≠ .opened
    Channel.contactsChanged c { c with early := early, late := late } = { c with
      early := early
      late := late
      seatTimer := if begins then some 0 else if ends then none else c.seatTimer
      seatStable := if ends then false else c.seatStable
      heldCode := if ends then none else c.heldCode
      switch := if cut then .opened else c.switch
      rampTimer := if cut then none else c.rampTimer
      rampEndWithheld := if cut then false else c.rampEndWithheld
      tripLevel := if cut then none else c.tripLevel
      riseWatch := if cut then none else c.riseWatch
      fallWatch := if cut then none else c.fallWatch
      reports := c.reports ++ [.contactChange early.accepted late.accepted (decide now) (decide cut)] } := by
  unfold Channel.contactsChanged Channel.contactReport Channel.seated
  intro now begins ends cut
  by_cases was : c.early.accepted = true ∧ c.late.accepted = true
  · by_cases is : early.accepted = true ∧ late.accepted = true
    · simp [begins, ends, cut, now, was, is, Channel.send]
    · have unseated : (early.accepted && late.accepted) = false := by simpa using is
      by_cases shut : c.switch = .opened
      · simp [begins, ends, cut, now, was, is, unseated, shut, Channel.send, Channel.unseat, Channel.openSwitch_opened]
      · simp [begins, ends, cut, now, was, is, unseated, shut, Channel.send, Channel.unseat, Channel.openSwitch_eq]
  · have unseated : (c.early.accepted && c.late.accepted) = false := by simpa using was
    by_cases is : early.accepted = true ∧ late.accepted = true
    · simp [begins, ends, cut, now, unseated, was, is, Channel.send, Channel.seat]
    · have still : (early.accepted && late.accepted) = false := by simpa using is
      simp [begins, ends, cut, now, was, unseated, still, is, Channel.send]

theorem Channel.carrierCode_val (c : Channel) : c.carrierCode.val = 2 * c.car1.accepted.toNat + c.car0.accepted.toNat := by
  unfold Channel.carrierCode
  cases c.car1.accepted <;> cases c.car0.accepted <;> rfl

/-- The rise watch fires above its level, once. -/
theorem Channel.testRise_eq (c : Channel) : c.testRise = { c with
    riseWatch := c.riseWatch.filter (fun level => decide (c.live ≤ level))
    reports := c.reports ++
      (if c.riseWatch.any (fun level => decide (level < c.live)) = true then [.riseCross c.live] else []) } := by
  unfold Channel.testRise
  cases c
  rename_i live peak rise fall activity stretch reports
  cases rise with
  | none => simp
  | some level =>
    by_cases above : level < live
    · simp [Option.filter, above, Nat.not_le.mpr above, Channel.disarm, Channel.send]
    · simp [Option.filter, above, Nat.le_of_not_lt above]

/-- The fall watch fires at or below its level, once. -/
theorem Channel.testFall_eq (c : Channel) : c.testFall = { c with
    fallWatch := c.fallWatch.filter (fun level => decide (level < c.live))
    reports := c.reports ++
      (if c.fallWatch.any (fun level => decide (c.live ≤ level)) = true then [.fallCross c.live] else []) } := by
  unfold Channel.testFall
  cases c
  rename_i live peak rise fall activity stretch reports
  cases fall with
  | none => simp
  | some level =>
    by_cases under : live ≤ level
    · simp [Option.filter, under, Nat.not_lt.mpr under, Channel.disarm, Channel.send]
    · simp [Option.filter, under, Nat.lt_of_not_le under]

/-- A sample is tested against both watches. -/
theorem Channel.sampled_eq (c : Channel) (mA : Nat) : c.sampled mA = { c with
    live := min mA 10000
    peak := max c.peak (min mA 10000)
    riseWatch := c.riseWatch.filter (fun level => decide (min mA 10000 ≤ level))
    fallWatch := c.fallWatch.filter (fun level => decide (level < min mA 10000))
    reports := c.reports ++
      (if c.riseWatch.any (fun level => decide (level < min mA 10000)) = true then [.riseCross (min mA 10000)] else []) ++
      (if c.fallWatch.any (fun level => decide (min mA 10000 ≤ level)) = true then [.fallCross (min mA 10000)] else []) } := by
  rw [Channel.sampled, Channel.testRise_eq, Channel.testFall_eq]
  rfl

theorem Channel.excursion_eq (c : Channel) {level mA : Nat} (armed : c.tripLevel = some level) :
    c.excursion mA = if level < mA then
      { c.openSwitch with peak := max c.peak (min mA 10000) }.send (.trip (min mA 10000)) else c := by
  simp only [Channel.excursion, armed, recorded]

theorem State.putChan_self (s : State) (b : Bay) : s.putChan b (s.chan b) = s := by
  unfold State.putChan State.chan
  congr 1
  exact Table.ext_get fun i => by by_cases h : b = i <;> simp [h]

theorem State.putBayLights_self (s : State) (b : Bay) : s.putBayLights b (s.bayLights b) = s := by
  have bays : Table.put s.lights.bays b (s.bayLights b) = s.lights.bays :=
    Table.ext_get fun i => by by_cases h : b = i <;> simp [State.bayLights, h]
  rw [State.putBayLights, bays]
  rfl

/-- The level of PATTERN 2, on for the first four of its eight steps (Table 8-4). -/
theorem patternOn_two (cfg : Settings) (phase : Fin 8) : patternOn (cfg.pattern 2) phase = decide (phase.val < 4) := by
  have pattern : cfg.pattern 2 = 0b00001111#8 := rfl
  rw [pattern]
  revert phase
  decide

/-- The level of a bay's ACT light by its state (R157). -/
theorem State.actLevel_eq (s : State) (b : Bay) : s.actLevel b =
    if (s.bay b).state = .active then (s.chan b).activity
    else if (s.bay b).state = .ramping ∨ (s.bay b).state = .spinning ∨ (s.bay b).state = .granted then
      decide (s.lights.phase.val < 4)
    else false := by
  unfold State.actLevel
  cases state : (s.bay b).state <;> simp [BayState.actSource, patternOn_two]

end Sys2Proof.Machine
end

section
/-! The statements about the bay front end, settled. -/

namespace Sys2Proof.Machine

/-- Settles O7. -/
theorem contactFiltersReportChanges : Obligations.ContactFiltersReportChanges := by
  intro b k s c ended early late was now begins ends cut
  refine congrArg Host.Outcome.next (congrArg (s.putChan b) ?_)
  have lines : c.acceptContacts k = { c with early := early, late := late } := by
    simp only [Channel.acceptContacts_eq, FilteredLine.accept_eq]
    rfl
  show c.presenceAccepted k = _
  rw [Channel.presenceAccepted, lines]
  by_cases same : early.accepted = c.early.accepted ∧ late.accepted = c.late.accepted
  · have noBegin : ¬ begins := fun h => h.1 (by simpa [now, same] using h.2)
    have noEnd : ¬ ends := fun h => h.2 (by simpa [now, same] using h.1)
    have noCut : ¬ cut := fun h => noEnd h.1
    simp [same, noBegin, noEnd, noCut]
  · rw [if_neg same, if_neg same]
    exact c.contactsChanged_eq early late

/-- Settles O8: each command by the rule of its line or timer. -/
theorem edgesFiltersAndChannelTimers : Obligations.EdgesFiltersAndChannelTimers := by
  intro b k level s seen ended c l slot
  have edge : ∀ (x : FilteredLine) (ms : Nat), x.edge ms level = seen ms x := fun x ms => x.edge_eq ms level
  have accept : ∀ x : FilteredLine, x.accept = ended x := FilteredLine.accept_eq
  have channel : ∀ {d e : Channel}, d = e →
      (Host.Outcome.next (s.putChan b d) : Host.Outcome State Fault Refusal) = .next (s.putChan b e) :=
    fun h => by rw [h]
  have lines : ∀ {x y : SlotLines}, x = y →
      (Host.Outcome.next (slot x) : Host.Outcome State Fault Refusal) = .next (slot y) := fun h => by rw [h]
  refine ⟨channel ?_, channel ?_, channel ?_, channel ?_, lines ?_, lines ?_, channel ?_, channel ?_, fun runs => ?_,
    fun stopped => ?_, fun ramping => ?_, fun still => ?_⟩
  · rw [← edge]; rfl
  · rw [← edge]; rfl
  · rw [← edge]; rfl
  · rw [← edge]; rfl
  · rw [← edge]; rfl
  · rw [← edge]; rfl
  · rw [← accept]; rfl
  · rw [← accept]; rfl
  · obtain ⟨n, running⟩ := Option.isSome_iff_exists.mp runs
    refine ⟨c.carrierCode, c.carrierCode_val, channel ?_⟩
    show c.seatStabilised = _
    simp only [Channel.seatStabilised, running, Channel.send]
  · have none : c.seatStabilised = c := by simp only [Channel.seatStabilised, stopped]
    exact (channel none).trans (by rw [State.putChan_self])
  · refine channel ?_
    show c.ramped = _
    simp only [Channel.ramped, ramping, Channel.send]
    by_cases withheld : c.rampEndWithheld = true <;> simp [withheld]
  · have none : c.ramped = c := by
      unfold Channel.ramped
      split
      · exact absurd ‹_› still
      all_goals rfl
    exact (channel none).trans (by rw [State.putChan_self])

/-- Settles O9: the sample by the watches it fires, the excursion by the armed comparator. -/
theorem samplesAndExcursionsReport : Obligations.SamplesAndExcursionsReport := by
  intro b mA s c live
  have unchanged : c.excursion mA = c → exec (.tripExcursion b mA) s = .next s := fun h => by
    show Host.Outcome.next (s.putChan b (c.excursion mA)) = _
    rw [h, State.putChan_self]
  refine ⟨?_, fun level armed above shut => ?_, fun level armed under => unchanged ?_, fun unarmed => unchanged ?_⟩
  · exact congrArg (fun d => Host.Outcome.next (s.putChan b d)) (c.sampled_eq mA)
  · refine congrArg (fun d => Host.Outcome.next (s.putChan b d)) ?_
    show c.excursion mA = _
    rw [c.excursion_eq armed, if_pos above, c.openSwitch_eq shut]
    rfl
  · rw [c.excursion_eq armed, if_neg (Nat.not_lt.mpr under)]
  · simp only [Channel.excursion, unarmed]

/-- Settles O10: the level and its stretch, and the ACT light where the level changes. -/
theorem activityLightsTheActLight : Obligations.ActivityLightsTheActLight := by
  intro b s c lit
  have drives : ∀ d : Channel, s.activityTo b d = lit d.activity (s.putChan b d) := fun d => by
    unfold State.activityTo
    by_cases same : (s.chan b).activity = d.activity
    · have unlit : lit d.activity (s.putChan b d) = (s.putChan b d).putBayLights b ((s.putChan b d).bayLights b) := by
        simp only [lit, c, if_pos same]
        rfl
      rw [if_pos same, unlit, State.putBayLights_self]
    · rw [if_neg same, State.driveAct, State.actLevel_eq]
      simp only [lit, c, if_neg same, State.bay_putChan, State.chan_putChan, if_true, State.putChan_lights]
      rfl
  refine ⟨?_, fun runs => ?_, fun stopped => ?_⟩
  · exact congrArg Host.Outcome.next (drives c.acti)
  · obtain ⟨n, running⟩ := Option.isSome_iff_exists.mp runs
    have ends : c.actiEnd = { c with activity := false, stretch := none } := by simp only [Channel.actiEnd, running]
    exact congrArg Host.Outcome.next ((drives c.actiEnd).trans (by rw [ends]))
  · have none : c.actiEnd = c := by simp only [Channel.actiEnd, stopped]
    show Host.Outcome.next (s.activityTo b c.actiEnd) = _
    rw [none, State.activityTo, if_pos rfl, State.putChan_self]

end Sys2Proof.Machine
end

section
/-! SUPPORT. The receiver, the taking of requests and the replies (R162 to R173). -/

namespace Sys2Proof.Machine

variable (s : State)

/-! ## Frames and characters (R162, R164, R165) -/

/-- The two bytes of a number are these two only if it is their number. -/
theorem bytes_of_number {n : Nat} (h : n < 65536) (low high : Byte) :
    [BitVec.ofNat 8 (n % 256), BitVec.ofNat 8 (n / 256)] = [low, high] ↔ n = low.toNat + 256 * high.toNat := by
  have lowLt := low.isLt
  have highLt := high.isLt
  simp only [List.cons.injEq, and_true, ← BitVec.toNat_inj, BitVec.toNat_ofNat]
  omega

/-- The check of a frame agrees exactly when its check bytes are those formed of it (R164). -/
theorem goodCheck_iff (f : Frame) : goodCheck f = true ↔
    checkBytes ([f.address, f.kind, f.tag, BitVec.ofNat 8 f.payload.length] ++ f.payload) = [f.checkLow, f.checkHigh] := by
  unfold goodCheck
  rw [decide_eq_true_iff, frameCheck_eq_sum]
  exact (bytes_of_number (Nat.mod_lt _ (by decide)) _ _).symm

theorem characterBits_eq (byte : Byte) : characterBits byte = [false, byte.getLsbD 0, byte.getLsbD 1, byte.getLsbD 2,
    byte.getLsbD 3, byte.getLsbD 4, byte.getLsbD 5, byte.getLsbD 6, byte.getLsbD 7, true] := rfl

/-- A byte is the number of its eight bits. -/
theorem byte_of_bits (byte : Byte) : BitVec.ofNat 8 (([byte.getLsbD 0, byte.getLsbD 1, byte.getLsbD 2, byte.getLsbD 3,
    byte.getLsbD 4, byte.getLsbD 5, byte.getLsbD 6, byte.getLsbD 7]).foldr (fun b n => b.toNat + 2 * n) 0) = byte := by
  revert byte
  decide

/-! ## Taking a request by its address (R167, R172) -/

theorem State.completes_suspended (h : s.link.receiver = .suspended) (payload : List Byte) (f : State → State) :
    s.completes payload f = s := by
  simp [State.completes, h]

theorem State.completes_of_fits (h : s.link.receiver ≠ .suspended) {payload : List Byte} (fits : payload.length ≤ 240)
    (f : State → State) : s.completes payload f = f (s.setReceiver .hunting) := by
  unfold State.completes
  split
  · exact absurd ‹_› h
  all_goals exact if_neg (Nat.not_lt.mpr fits)

theorem State.completes_of_long (h : s.link.receiver ≠ .suspended) {payload : List Byte} (long : 240 < payload.length)
    (f : State → State) : s.completes payload f = s.setReceiver .hunting := by
  unfold State.completes
  split
  · exact absurd ‹_› h
  all_goals exact if_pos long

theorem State.takeRequest_other {r : Request} (broadcast : r.address ≠ 0) (other : r.address ≠ s.link.unitAddress)
    (code : Byte) : s.takeRequest code r = s := by
  rw [State.takeRequest, if_neg broadcast, if_neg other, ite_self]

/-! ## Replies (R170, R171, R173) -/

theorem exec_replySent_of_sending {frame : List Byte} {action : AfterReply} (h : s.link.reply = .sending frame action) :
    exec .replySent s = .next (((s.setReply .none).setReceiver .hunting).doAction action) := by
  show execReplySent s = _
  unfold execReplySent
  rw [h]

end Sys2Proof.Machine
end

section
/-! The statements about frames and replies, settled. -/

namespace Sys2Proof.Machine

/-- Settles O34: an abandoned or discarded frame sets the receiver alone. -/
theorem framesAreAbandonedSilently : Obligations.FramesAreAbandonedSilently := by
  intro f taken gap s hunting covered
  refine ⟨fun receiving => ?_, fun idle => ?_, fun suspended => ?_, fun awake dropped => ?_⟩
  · have abandons : s.abandonFrame = hunting := by simp only [State.abandonFrame, receiving]; rfl
    exact ⟨congrArg _ abandons, congrArg _ abandons⟩
  · have keeps : s.abandonFrame = s := by
      rcases idle with idle | idle <;> simp only [State.abandonFrame, idle]
    exact ⟨congrArg _ keeps, congrArg _ keeps⟩
  · exact congrArg _ (s.completes_suspended suspended _ _)
  · refine congrArg Host.Outcome.next ?_
    by_cases fits : f.payload.length ≤ 240
    · rw [s.completes_of_fits awake fits, State.judgeFrame]
      rcases dropped with differs | ⟨broadcast, other⟩
      · rw [if_neg fun good => differs ((goodCheck_iff f).mp good)]
        rfl
      · rw [State.takeRequest_other _ broadcast (by exact other), ite_self]
        rfl
    · exact s.completes_of_long awake (Nat.lt_of_not_le fits) _

/-- Settles O38. -/
theorem repliesBeginEndAndLapse : Obligations.RepliesBeginEndAndLapse := by
  intro p frame taken gap speed turnaround s link
  refine ⟨fun reply => ⟨fun hunting => ⟨fun due => ?_, fun early => ?_, ?_⟩,
    fun receiving => ⟨?_, fun early => ?_, fun due none => ?_, fun due acts => ?_⟩⟩, fun sending => ?_, fun sending => ?_⟩
  · rw [exec_replyBegin_of_hunting s hunting reply, if_pos due]
    rfl
  · rw [exec_replyBegin_of_hunting s hunting reply, if_neg early]
  · simp [exec, execReplyLapse, hunting, reply]
  · simp [exec, execReplyBegin, receiving, reply]
  · rw [exec_replyLapse_of_receiving s receiving reply, if_neg early]
  · rw [exec_replyLapse_of_receiving s receiving reply, if_pos due, State.lapse, if_pos none]
    simp only [link, ← receiving]
    rfl
  · rw [exec_replyLapse_of_receiving s receiving reply, if_pos due, State.lapse, if_neg acts,
      exec_replySent_of_sending _ rfl]
    rfl
  · rw [exec_replySent_of_sending s sending]
    rfl
  · rw [exec_replySent_of_sending s sending]
    rfl

/-- Settles O36: a request command completes the frame of its kind code, whose check is good. -/
theorem requestsAreFramesOfTheirKind : Obligations.RequestsAreFramesOfTheirKind := by
  intro r kind s sum same
  have good : goodCheck ⟨r.address, kind, r.tag, r.payload, BitVec.ofNat 8 sum, BitVec.ofNat 8 (sum / 256)⟩ = true := by
    unfold goodCheck frameCheck
    rw [decide_eq_true_iff]
    show sum % 65536 = _
    simp only [BitVec.toNat_ofNat]
    omega
  refine ⟨congrArg _ (congrArg _ (funext fun t => ?_)), ?_⟩
  · rw [State.judgeFrame, if_pos good]
  · exact ⟨rfl, rfl, rfl, rfl, rfl, rfl, rfl, rfl, rfl, rfl, rfl, rfl, rfl, rfl, rfl, rfl, rfl, rfl, rfl, rfl, rfl, rfl, rfl,
      rfl, rfl, rfl, rfl, rfl, rfl, rfl, rfl, rfl, rfl⟩

end Sys2Proof.Machine
end

section
/-! SUPPORT. A frame taken byte by byte (R165). -/

namespace Sys2Proof.Machine

variable (s : State)

/-- The bytes of a frame after its Start byte (Table 9-3). -/
def Frame.bytes (f : Sys2Proof.Frame) : List Byte :=
  [f.address, f.kind, f.tag, BitVec.ofNat 8 f.payload.length] ++ f.payload ++ [f.checkLow, f.checkHigh]

theorem Frame.length_bytes (f : Sys2Proof.Frame) : (Frame.bytes f).length = 6 + f.payload.length := by
  simp [Frame.bytes]
  omega

theorem Frame.announces {f : Sys2Proof.Frame} (h : f.payload.length ≤ 240) :
    byteAt (Frame.bytes f) 3 = f.payload.length := by
  simp [Frame.bytes, byteAt]
  omega

theorem Frame.frameOf_bytes {f : Sys2Proof.Frame} (h : f.payload.length ≤ 240) : frameOf (Frame.bytes f) = f := by
  have low : (Frame.bytes f).getD (4 + f.payload.length) 0 = f.checkLow := by
    simp [Frame.bytes, List.getD_eq_getElem?_getD, Nat.add_comm 4]
  have high : (Frame.bytes f).getD (5 + f.payload.length) 0 = f.checkHigh := by
    simp [Frame.bytes, List.getD_eq_getElem?_getD, Nat.add_comm 5]
  simp only [frameOf, Frame.announces h, low, high]
  simp [Frame.bytes]

/-- Outcomes chained over bytes, each answered by a next state, are the states chained. -/
theorem foldl_next {step : Host.Outcome State Fault Refusal → Byte → Host.Outcome State Fault Refusal}
    {f : State → Byte → State} (h : ∀ t byte, step (.next t) byte = .next (f t byte)) (bytes : List Byte) :
    bytes.foldl step (.next s) = .next (bytes.foldl f s) := by
  induction bytes generalizing s with
  | nil => rfl
  | cons byte rest ih => rw [List.foldl_cons, h, ih, List.foldl_cons]

theorem State.characterFramed_receiving (taken : List Byte) (byte : Byte) :
    (s.setReceiver (.receiving taken 0)).characterFramed byte =
      (s.setReceiver (.receiving taken 0)).byteTaken (taken ++ [byte]) := rfl

/-- Bytes short of a whole frame are taken, one after another. -/
theorem State.receives_short (rest taken : List Byte)
    (short : taken.length + rest.length < 4 ∨
      (byteAt (taken ++ rest) 3 ≤ 240 ∧ taken.length + rest.length < 6 + byteAt (taken ++ rest) 3)) :
    rest.foldl State.characterFramed (s.setReceiver (.receiving taken 0)) =
      s.setReceiver (.receiving (taken ++ rest) 0) := by
  induction rest generalizing taken with
  | nil => rw [List.append_nil]; rfl
  | cons byte rest ih =>
    have assoc : taken ++ byte :: rest = (taken ++ [byte]) ++ rest := by simp
    rw [assoc] at short ⊢
    have announced : 4 ≤ (taken ++ [byte]).length → byteAt (taken ++ [byte]) 3 = byteAt ((taken ++ [byte]) ++ rest) 3 :=
      fun long => (byteAt_append long rest).symm
    simp only [List.length_cons, List.length_append, List.length_nil] at short announced
    have open' : (s.setReceiver (.receiving taken 0)).byteTaken (taken ++ [byte]) =
        s.setReceiver (.receiving (taken ++ [byte]) 0) := by
      rw [State.byteTaken, if_neg, if_neg]
      · rfl
      all_goals
        simp only [List.length_append, List.length_cons, List.length_nil]
        omega
    rw [List.foldl_cons, State.characterFramed_receiving, open']
    exact ih _ (by simp only [List.length_append, List.length_cons, List.length_nil]; omega)

/-- The bytes of a whole frame, taken one after another, complete it. -/
theorem State.receives_frame {f : Sys2Proof.Frame} (fits : f.payload.length ≤ 240) :
    (Frame.bytes f).foldl State.characterFramed (s.setReceiver (.receiving [] 0)) =
      (s.setReceiver .hunting).judgeFrame f := by
  obtain ⟨start, split⟩ : ∃ start, Frame.bytes f = start ++ [f.checkHigh] :=
    ⟨_, (List.append_assoc ([f.address, f.kind, f.tag, BitVec.ofNat 8 f.payload.length] ++ f.payload) [f.checkLow] _).symm⟩
  have length := Frame.length_bytes f
  have announced := Frame.announces fits
  rw [split] at announced length
  rw [List.length_append, List.length_singleton] at length
  rw [byteAt_append (by omega)] at announced
  have short : ([] : List Byte).length + start.length < 6 + byteAt ([] ++ start) 3 := by
    rw [List.nil_append, announced, List.length_nil]
    omega
  rw [split, List.foldl_append, State.receives_short s _ [] (.inr ⟨by rw [List.nil_append, announced]; exact fits, short⟩),
    List.foldl_cons, List.foldl_nil, State.characterFramed_receiving, List.nil_append, ← split, State.byteTaken,
    if_neg (by rw [Frame.length_bytes, Frame.announces fits]; omega),
    if_pos (by rw [Frame.length_bytes, Frame.announces fits]; omega), Frame.frameOf_bytes fits]
  rfl

/-- A Length above 240 abandons the frame. -/
theorem State.receives_long {length : Byte} (long : 240 < length.toNat) (a b c : Byte) :
    [a, b, c, length].foldl State.characterFramed (s.setReceiver (.receiving [] 0)) = s.setReceiver .hunting := by
  have three := s.receives_short [a, b, c] [] (.inl (by simp))
  show (([a, b, c].foldl State.characterFramed (s.setReceiver (.receiving [] 0))).characterFramed length) = _
  rw [three, State.characterFramed_receiving, State.byteTaken, if_pos ⟨rfl, long⟩]
  rfl

theorem State.setReceiver_self (r : Receiver) (h : s.link.receiver = r) : s.setReceiver r = s := by
  subst h
  rfl

end Sys2Proof.Machine
end

section
/-! The statement about characters and frames, settled. -/

namespace Sys2Proof.Machine

/-- Settles O35, by an induction on the bytes taken. -/
theorem charactersAssembleTheFrame : Obligations.CharactersAssembleTheFrame := by
  intro f s receive character
  have received : ∀ bytes, receive bytes = .next (bytes.foldl State.characterFramed s) := foldl_next s fun _ _ => rfl
  refine ⟨fun byte => ⟨rfl, fun suspended => ?_, characterBits_eq byte, ?_, rfl⟩, fun hunting => ⟨fun fits => ?_, ?_, ?_⟩⟩
  · show Host.Outcome.next (s.characterFramed byte) = _
    simp only [State.characterFramed, suspended]
  · exact congrArg some (byte_of_bits byte)
  · have starts : s.characterFramed 0xa5 = s.setReceiver (.receiving [] 0) := by
      simp [State.characterFramed, hunting]
    rw [received]
    refine congrArg Host.Outcome.next ?_
    rw [s.completes_of_fits (by simp [hunting]) fits, ← s.receives_frame fits, ← starts]
    rfl
  · intro length long
    have starts : s.characterFramed 0xa5 = s.setReceiver (.receiving [] 0) := by
      simp [State.characterFramed, hunting]
    rw [received, List.foldl_cons, starts, s.receives_long long, s.setReceiver_self _ hunting]
  · intro byte other
    rw [received, List.foldl_cons, List.foldl_nil]
    have kept : s.characterFramed byte = s := by
      rw [State.characterFramed, hunting]
      exact if_neg other
    rw [kept]

end Sys2Proof.Machine
end

section
/-! SUPPORT. The screen of requests, and what a pending reply's withdrawal and a broadcast leave (R168 to R175). -/

namespace Sys2Proof.Machine

variable (s : State)

/-! ## The screen (R168, R180) -/

theorem kindOfCode_eq_none {code : Byte} (h : ∀ k : RequestKind, k.byte ≠ code) : kindOfCode code = none := by
  simp [kindOfCode, h]

theorem screen_badKind {code : Byte} (h : ∀ k : RequestKind, k.byte ≠ code) (p : List Byte) :
    screen code p = .error .badKind := by
  simp [screen, kindOfCode_eq_none h]

theorem screen_badLength {k : RequestKind} {p : List Byte} (h : k.lengthOk p = false) :
    screen k.byte p = .error .badLength := by
  simp [screen, kindOfCode_byte, h]

/-- A bay list whose bytes do not fill it. -/
theorem bayListFits_misfit {p : List Byte} (h : p.length < 2 ∨
    (∃ (n : Byte) (items : List Byte), p = 0 :: n :: items ∧ items.length ≠ n.toNat) ∨
    ∃ rest : List Byte, p = 1 :: rest ∧ rest.length ≠ 2) : bayListFits p = false := by
  rcases h with short | ⟨n, items, rfl, differs⟩ | ⟨rest, rfl, differs⟩
  · rcases p with _ | ⟨a, _ | ⟨b, rest⟩⟩
    · rfl
    · rfl
    · simp at short
  · simp [bayListFits, differs]
  · rcases rest with _ | ⟨a, rest⟩
    · rfl
    · have : rest.length ≠ 1 := by simpa using differs
      simp [bayListFits, this]

/-- The length of a kind that permits one length alone (Tables 10-3 to 10-10). -/
def RequestKind.fixedLength (k : RequestKind) : Option Nat :=
  match k with
  | .unitInfo | .baySummary | .coolingStatus | .budgetStatus | .queueStatus | .quarantineList | .saveSettings
  | .restart => some 0
  | .bayStatus | .clearLatch | .setLightMask | .setLocate | .getProfile | .readEvents => some 1
  | .setPattern | .setConditionPattern | .setLink => some 2
  | .setProfileRule => some 6
  | .setAdmission => some 7
  | .setFan => some 9
  | .setProfile => some 14
  | .setSupply => some 20
  | .setZone | .driveTemps | .powerOn | .powerOff | .prepareRemoval | .spinRequest | .spinDownNote | .clearQuarantine
  | .setBayPolicy | .setCondition => none

theorem RequestKind.lengthOk_fixed {k : RequestKind} {n : Nat} (h : k.fixedLength = some n) (p : List Byte) :
    k.lengthOk p = decide (p.length = n) := by
  cases k <;> cases h <;> rfl

/-- A payload that a kind with a list, a count of pairs or two forms does not permit (R181, R185). -/
theorem lengthOk_driveTemps {p : List Byte} (h : p = [] ∨ ∃ (n : Byte) (items : List Byte), p = n :: items ∧
    items.length ≠ 2 * n.toNat) : RequestKind.lengthOk .driveTemps p = false := by
  rcases h with rfl | ⟨n, items, rfl, differs⟩
  · rfl
  · simp [RequestKind.lengthOk, differs]

theorem lengthOk_setZone {p : List Byte} (h : p = [] ∨ (∃ rest : List Byte, p = 3 :: rest ∧ rest.length ≠ 17) ∨
    ∃ (zone : Byte) (rest : List Byte), p = zone :: rest ∧ zone ≠ 3 ∧ rest.length ≠ 8) :
    RequestKind.lengthOk .setZone p = false := by
  rcases h with rfl | ⟨rest, rfl, differs⟩ | ⟨zone, rest, rfl, other, differs⟩
  · rfl
  · simp [RequestKind.lengthOk, differs]
  · show (if zone = 3 then _ else _) = false
    rw [if_neg other]
    simp [differs]

/-! ## Withdrawal and broadcast (R172, R173, R175) -/

theorem Reaches.requestFrame_eq_refused {r : Request} {code : Byte} {st : Status} (h : Reaches r s)
    (out : screen code r.payload = .error st) : s.requestFrame code r = s.listening.replying code r.tag st [] := by
  rw [h.requestFrame_eq_takeAddressed, State.takeAddressed, out, h.withdraw_eq_listening]
  exact State.pend_answer ..

/-- The end of the transmission that a pending reply's withdrawal stands for (R173). -/
theorem exec_replySent_of_pending {p : PendingReply} (h : s.link.reply = .pending p) :
    exec .replySent (s.putLink { s.link with receiver := .suspended, reply := .sending p.frame p.action }) =
      .next (s.setReceiver .hunting).withdraw := by
  have action : (s.setReceiver .hunting).link.reply.action = p.action := by
    show s.link.reply.action = _
    rw [h]
    rfl
  rw [exec_replySent_of_sending _ rfl, State.withdraw, action]
  rfl

/-- A request with the unit address that completes is taken by the part as it hunts. -/
theorem State.requestFrame_own {r : Request} (awake : s.link.receiver ≠ .suspended) (fits : r.payload.length ≤ 240)
    (idle : s.link.reply.isSending = false) (own : r.address = s.link.unitAddress) (addressed : r.address ≠ 0)
    (code : Byte) : s.requestFrame code r = (s.setReceiver .hunting).takeAddressed code r := by
  have idle' : (s.setReceiver .hunting).link.reply.isSending = false := idle
  have own' : r.address = (s.setReceiver .hunting).link.unitAddress := own
  rw [State.requestFrame, s.completes_of_fits awake fits, State.takeRequest, idle', if_neg Bool.false_ne_true,
    if_neg addressed, if_pos own']

/-- A request by broadcast that completes is taken by the part as it hunts. -/
theorem State.requestFrame_broadcast {r : Request} (awake : s.link.receiver ≠ .suspended) (fits : r.payload.length ≤ 240)
    (idle : s.link.reply.isSending = false) (broadcast : r.address = 0) (code : Byte) :
    s.requestFrame code r = (s.setReceiver .hunting).takeBroadcast code r := by
  have idle' : (s.setReceiver .hunting).link.reply.isSending = false := idle
  rw [State.requestFrame, s.completes_of_fits awake fits, State.takeRequest, idle', if_neg Bool.false_ne_true,
    if_pos broadcast]

theorem State.isSending_of_pending {p : PendingReply} (h : s.link.reply = .pending p) : s.link.reply.isSending = false := by
  rw [h]
  rfl

/-- With nothing to withdraw the withdrawal leaves the listening part as it is. -/
theorem State.withdraw_of_none (h : s.link.reply = .none) : s.withdraw = s := by
  have action : s.link.reply.action = .nothing := by rw [h]; rfl
  rw [State.withdraw, action]
  show s.putLink { s.link with reply := .none } = s
  rw [← h]
  rfl

/-- An answer pends on a reply state alone. -/
theorem State.answered_unreplied {r : State × Answer} (h : r.1.link.reply = .none) (code tag : Byte) :
    r.1 = (State.answered r code tag).putLink { (State.answered r code tag).link with reply := .none } := by
  show r.1 = r.1.putLink { r.1.link with reply := .none }
  rw [← h]
  rfl

/-- Every request but RESTART and SET_LINK is answered without an after-reply action. -/
theorem State.dispatch_action {k : RequestKind} (restart : k ≠ .restart) (link : k ≠ .setLink) (p : List Byte) :
    (s.dispatch k p).2.action = .nothing := by
  have list : ∀ (l : List Byte) (first : Status) (f : State → Bay → State × Status),
      (onBayList s l first f).2.action = .nothing := fun l first f => by
    unfold onBayList
    split <;> rfl
  cases k with
  | restart => exact absurd rfl restart
  | setLink => exact absurd rfl link
  | powerOn | powerOff | prepareRemoval | spinRequest | spinDownNote | clearQuarantine => exact list _ _ _
  | setBayPolicy =>
    simp only [State.dispatch, State.setBayPolicy]
    split
    · rfl
    · exact list _ _ _
  | setCondition =>
    simp only [State.dispatch, State.setCondition]
    split
    · rfl
    · split
      · rfl
      · exact list _ _ _
  | unitInfo | baySummary | coolingStatus | budgetStatus | queueStatus | quarantineList | setLightMask | setAdmission => rfl
  | bayStatus =>
    simp only [State.dispatch, State.bayStatus]
    split <;> rfl
  | clearLatch =>
    simp only [State.dispatch, State.clearLatch]
    repeat' split
    all_goals rfl
  | setPattern =>
    simp only [State.dispatch, State.setPattern]
    split <;> rfl
  | setConditionPattern =>
    simp only [State.dispatch, State.setConditionPattern]
    split <;> rfl
  | setLocate =>
    simp only [State.dispatch, State.setLocate]
    split <;> rfl
  | driveTemps =>
    simp only [State.dispatch, State.driveTemps]
    split <;> rfl
  | setZone =>
    simp only [State.dispatch, State.setZone, State.setZoneCommon, State.setZoneCurve]
    repeat' split
    all_goals rfl
  | setFan =>
    simp only [State.dispatch, State.setFan]
    repeat' split
    all_goals rfl
  | setSupply =>
    simp only [State.dispatch, State.setSupply]
    split <;> rfl
  | setProfile =>
    simp only [State.dispatch, State.setProfile]
    repeat' split
    all_goals rfl
  | getProfile =>
    simp only [State.dispatch, State.getProfile]
    split <;> rfl
  | setProfileRule =>
    simp only [State.dispatch, State.setProfileRule]
    repeat' split
    all_goals rfl
  | readEvents =>
    simp only [State.dispatch, State.readEvents]
    split <;> rfl
  | saveSettings =>
    simp only [State.dispatch, State.saveSettings]
    split <;> rfl

end Sys2Proof.Machine
end

section
/-! The statements about screened and broadcast requests, settled. -/

namespace Sys2Proof.Machine

/-- Settles O37: the screen refuses each of these, and a refused request is answered by its status alone. -/
theorem screenedOutRequestsDoNothing : Obligations.ScreenedOutRequestsDoNothing := by
  intro kind r status s kinds fixed listKinds misfits counted screened own awake fits
  have out : screened → screen kind r.payload = .error status := by
    rintro (⟨unknown, rfl⟩ | ⟨n, known, differs, rfl⟩ | ⟨counted, rfl⟩)
    · refine screen_badKind (fun k same => unknown ?_) _
      rw [← same]
      cases k <;> decide
    · obtain ⟨k, rfl, length⟩ : ∃ k : RequestKind, k.byte = kind ∧ k.fixedLength = some n := by
        have all : ∀ x ∈ fixed, ∃ k ∈ allKinds, k.byte = x.1 ∧ k.fixedLength = some x.2 := by decide
        obtain ⟨k, -, same⟩ := all _ known
        exact ⟨k, same⟩
      exact screen_badLength (by rw [k.lengthOk_fixed length, decide_eq_false differs])
    · rcases counted with ⟨listed, misfit⟩ | ⟨rfl, misfit⟩ | ⟨rfl, misfit⟩ | ⟨rfl, misfit⟩ | ⟨rfl, misfit⟩
      · have unfilled := bayListFits_misfit misfit
        simp only [listKinds, List.mem_cons, List.not_mem_nil, or_false] at listed
        rcases listed with rfl | rfl | rfl | rfl | rfl | rfl
        · exact screen_badLength (k := .powerOn) unfilled
        · exact screen_badLength (k := .powerOff) unfilled
        · exact screen_badLength (k := .prepareRemoval) unfilled
        · exact screen_badLength (k := .spinRequest) unfilled
        · exact screen_badLength (k := .spinDownNote) unfilled
        · exact screen_badLength (k := .clearQuarantine) unfilled
      · refine screen_badLength (k := .setBayPolicy) (decide_eq_false fun permitted => ?_)
        rcases misfit with short | misfit
        · exact Nat.not_le.mpr short permitted.1
        · exact absurd permitted.2 (by rw [bayListFits_misfit misfit]; exact Bool.false_ne_true)
      · refine screen_badLength (k := .setCondition) (decide_eq_false fun permitted => ?_)
        rcases misfit with short | misfit
        · exact Nat.not_le.mpr short permitted.1
        · exact absurd permitted.2 (by rw [bayListFits_misfit misfit]; exact Bool.false_ne_true)
      · exact screen_badLength (k := .driveTemps) (lengthOk_driveTemps misfit)
      · exact screen_badLength (k := .setZone) (lengthOk_setZone misfit)
  refine ⟨fun reaches screened => congrArg _ (reaches.requestFrame_eq_refused s (out screened)),
    fun p reply own screened => ?_, fun other => ?_⟩
  · refine ⟨_, exec_replySent_of_pending s reply, congrArg Host.Outcome.next ?_⟩
    rw [s.requestFrame_own awake fits (State.isSending_of_pending s reply) own.1 own.2, State.takeAddressed, out screened]
    exact State.pend_answer ..
  · refine congrArg Host.Outcome.next ?_
    rw [State.requestFrame, s.completes_of_fits awake fits]
    rcases other with ⟨broadcast, screened⟩ | ⟨addressed, other⟩
    · rw [State.takeRequest, if_pos broadcast, State.takeBroadcast, out screened, ite_self]
      rfl
    · exact State.takeRequest_other (s.setReceiver .hunting) addressed (by exact other) _

/-- Settles O39: the withdrawal is the end of the transmission it stands for, and a broadcast is dispatched on the state
that an addressed request is dispatched on. -/
theorem requestsReplaceAndBroadcastsWithdraw : Obligations.RequestsReplaceAndBroadcastsWithdraw := by
  intro k r p s code broadcast fits permitted own addressed
  have passes : screen code r.payload = .ok k := screen_byte permitted
  refine ⟨fun reply awake => ⟨_, exec_replySent_of_pending s reply, ?_, ?_, ?_⟩, fun none hunting restart link => ?_⟩
  · rw [State.withdraw_reply]
  · have taken := State.requestFrame_own s awake fits (s.isSending_of_pending reply) own addressed code
    refine congrArg Host.Outcome.next (taken.trans ?_)
    have link := State.withdraw_reply (s.setReceiver .hunting)
    rw [State.takeAddressed, passes]
    generalize (s.setReceiver .hunting).withdraw = u at link
    have hunting : u.link.receiver = .hunting := by rw [link]; rfl
    have none : u.link.reply = .none := by rw [link]
    have again := State.requestFrame_own u (r := r) (by simp [hunting]) fits (by rw [none]; rfl) (by rw [link]; exact own)
      addressed code
    rw [again, u.setReceiver_self _ hunting, State.takeAddressed, passes, u.withdraw_of_none none]
  · have taken := State.requestFrame_broadcast s awake (r := broadcast) fits (s.isSending_of_pending reply) rfl code
    refine congrArg Host.Outcome.next (taken.trans ?_)
    have link := State.withdraw_reply (s.setReceiver .hunting)
    rw [State.takeBroadcast, passes]
    generalize (s.setReceiver .hunting).withdraw = u at link
    have hunting : u.link.receiver = .hunting := by rw [link]; rfl
    have none : u.link.reply = .none := by rw [link]
    have again := State.requestFrame_broadcast u (r := broadcast) (by simp [hunting]) fits (by rw [none]; rfl) rfl code
    rw [again, u.setReceiver_self _ hunting, State.takeBroadcast, passes, u.withdraw_of_none none]
  · have awake : s.link.receiver ≠ .suspended := by simp [hunting]
    have idle : s.link.reply.isSending = false := by rw [none]; rfl
    have own := s.requestFrame_own awake fits idle own addressed code
    have all := s.requestFrame_broadcast awake (r := broadcast) fits idle rfl code
    rw [s.setReceiver_self _ hunting, State.takeAddressed, passes, s.withdraw_of_none none] at own
    rw [s.setReceiver_self _ hunting, State.takeBroadcast, passes, s.withdraw_of_none none] at all
    have kept : (s.dispatch k r.payload).1.link = s.link := (s.dispatch_handled k r.payload).2.1
    have action : State.unanswered (s.dispatch k r.payload) = (s.dispatch k r.payload).1 := by
      rw [State.unanswered, s.dispatch_action restart link]
      rfl
    refine ⟨_, congrArg Host.Outcome.next own, _, congrArg Host.Outcome.next (all.trans action), ?_, kept⟩
    exact State.answered_unreplied (by rw [kept, none]) code r.tag

end Sys2Proof.Machine
end

section
/-! SUPPORT. Bay lists: what they name, what they refuse, and the handling of their bays one at a time (R181). -/

namespace Sys2Proof.Machine

theorem bayListFits_of_names {p : List Byte} {bays : List Nat} (h : NamesBays p bays) : bayListFits p = true := by
  rcases h with ⟨items, rfl, _, most, _⟩ | ⟨first, n, rfl, _, _, _, _⟩
  · have small : items.length % 256 = items.length := by omega
    simp [bayListFits, small]
  · rfl

theorem expandBayList_of_names {p : List Byte} {bays : List Nat} (h : NamesBays p bays) :
    expandBayList p = .ok bays := by
  rcases h with ⟨items, rfl, least, most, rfl⟩ | ⟨first, n, rfl, onBay, least, most, rfl⟩
  · have small : items.length % 256 = items.length := by omega
    have nonempty : items ≠ [] := List.ne_nil_of_length_pos least
    simp [expandBayList, byteAt, small, nonempty, most]
  · have count : n % 256 = n := by omega
    have start : first % 256 = first := by omega
    have some' : ¬ (n = 0 ∨ 24 < n) := by omega
    have within : ¬ 23 < first := by omega
    simp [expandBayList, byteAt, count, start, some', within]

theorem bayListFits_of_refuses {p : List Byte} {status : Status} (h : RefusesBays p status) :
    bayListFits p = true := by
  rcases h with ⟨items, rfl, _, short, _⟩ | ⟨first, n, rfl, _⟩ | ⟨first, n, rfl, _⟩ | ⟨form, rest, rfl, more, other, _⟩
  · have small : items.length % 256 = items.length := by omega
    simp [bayListFits, small]
  · rfl
  · rfl
  · obtain ⟨n, items, rfl⟩ := List.exists_cons_of_ne_nil more
    have notListed : form ≠ 0 := by rintro rfl; simp at other
    have notRange : form ≠ 1 := by rintro rfl; simp at other
    simp only [bayListFits, if_neg notListed, if_neg notRange]

theorem expandBayList_of_refuses {p : List Byte} {status : Status} (h : RefusesBays p status) :
    expandBayList p = .error status := by
  rcases h with ⟨items, rfl, bad, short, rfl⟩ | ⟨first, n, rfl, bad, rfl⟩ | ⟨first, n, rfl, least, most, beyond, rfl⟩ |
    ⟨form, rest, rfl, _, other, rfl⟩
  · have small : items.length % 256 = items.length := by omega
    have count : byteAt (0 :: BitVec.ofNat 8 items.length :: items) 1 = items.length := by simp [byteAt, small]
    rw [expandBayList, if_pos (show byteAt _ 0 = 0 from rfl), count]
    exact if_pos bad
  · have range : byteAt [1, first, n] 0 = 1 := rfl
    rw [expandBayList, range]
    exact if_pos bad
  · have some' : ¬ (n.toNat = 0 ∨ 24 < n.toNat) := by omega
    simp [expandBayList, byteAt, some', beyond]
  · have notListed : form.toNat ≠ 0 := by omega
    have notRange : form.toNat ≠ 1 := by omega
    simp [expandBayList, byteAt, notListed, notRange]

theorem bayOfNumber_val (b : Bay) : bayOfNumber b.val = some b := dif_pos b.isLt

theorem bayOfNumber_of_lt {n : Nat} (h : n < 24) : bayOfNumber n = some ⟨n, h⟩ := dif_pos h

theorem bayOfNumber_eq_none {n : Nat} (h : 24 ≤ n) : bayOfNumber n = none := dif_neg (by omega)

/-- Bays handled one at a time: each has what one bay is given, and there is a status for each. -/
theorem handleBays_eachBay {f : State → Bay → State × Status} {gives : Bay → State → State → Status → Prop}
    (each : ∀ b s, gives b s (f s b).1 (f s b).2) (bays : List Nat) (s : State) :
    EachBay gives bays s (handleBays f s bays).1 (handleBays f s bays).2 ∧
      (handleBays f s bays).2.length = bays.length := by
  induction bays generalizing s with
  | nil => exact ⟨⟨rfl, rfl⟩, rfl⟩
  | cons n rest ih =>
    rcases Nat.lt_or_ge n 24 with onBay | beyond
    · have first : handleBays f s (n :: rest) = ((handleBays f (f s ⟨n, onBay⟩).1 rest).1,
          (f s ⟨n, onBay⟩).2 :: (handleBays f (f s ⟨n, onBay⟩).1 rest).2) := by
        simp only [handleBays, bayOfNumber_of_lt onBay]
      obtain ⟨others, count⟩ := ih (f s ⟨n, onBay⟩).1
      rw [first]
      exact ⟨⟨_, _, _, rfl, others, fun _ => each ⟨n, onBay⟩ s, fun past => by omega⟩, congrArg (· + 1) count⟩
    · have first : handleBays f s (n :: rest) = ((handleBays f s rest).1, .badBay :: (handleBays f s rest).2) := by
        simp only [handleBays, bayOfNumber_eq_none beyond]
      obtain ⟨others, count⟩ := ih s
      rw [first]
      exact ⟨⟨_, _, _, rfl, others, fun within => by omega, fun _ => ⟨rfl, rfl⟩⟩, congrArg (· + 1) count⟩

/-- A request of a bay list that names bays handles them in order and answers the status of each. -/
theorem Reaches.exec_onBayList {r : Request} {s : State} {k : RequestKind} {list : List Byte} {bays : List Nat}
    {first : Status} {f : State → Bay → State × Status} {gives : Bay → State → State → Status → Prop} (h : Reaches r s)
    (names : NamesBays list bays) (permitted : k.lengthOk r.payload = true)
    (carried : s.listening.dispatch k r.payload = onBayList s.listening list first f)
    (each : ∀ b s, gives b s (f s b).1 (f s b).2) :
    ∃ t statuses, EachBay gives bays s.listening t statuses ∧
      exec (.badKind k.byte r) s = .next (t.replying k.byte r.tag first
        ([BitVec.ofNat 8 bays.length] ++ statuses.map Status.byte)) := by
  obtain ⟨handled, count⟩ := handleBays_eachBay each bays s.listening
  refine ⟨_, _, handled, congrArg Host.Outcome.next (h.requestFrame_eq_replying permitted ?_)⟩
  rw [carried, onBayList, expandBayList_of_names names]
  simp only [listAnswer, count]
  rfl

/-- A request of a bay list that names none is refused with the list's status. -/
theorem Reaches.exec_refusesList {r : Request} {s : State} {k : RequestKind} {list : List Byte} {status first : Status}
    {f : State → Bay → State × Status} (h : Reaches r s) (refuses : RefusesBays list status)
    (permitted : k.lengthOk r.payload = true)
    (carried : s.listening.dispatch k r.payload = onBayList s.listening list first f) :
    exec (.badKind k.byte r) s = .next (s.listening.replying k.byte r.tag status []) := by
  refine congrArg Host.Outcome.next (h.requestFrame_eq_replying permitted ?_)
  rw [carried, onBayList, expandBayList_of_refuses refuses]
  rfl

/-- SET_BAY_POLICY with a policy code of a policy, or FFh, goes on to its bay list. -/
theorem State.setBayPolicy_eq_onBayList (s : State) {p : List Byte} (h : byteAt p 0 ≤ 1 ∨ byteAt p 0 = 255) :
    s.setBayPolicy p = onBayList s (p.drop 3) (writtenStatus (clampedCode (byteAt p 1) || clampedCode (byteAt p 2)))
      (State.setPolicyBay ⟨unlessFF (byteAt p 0) (if byteAt p 0 = 0 then .auto else .hold),
        unlessFF (byteAt p 1) (classOfCode (byteAt p 1)), unlessFF (byteAt p 2) (zoneOfCode (byteAt p 2))⟩) := by
  rw [State.setBayPolicy]
  exact if_neg (by omega)

theorem State.setBayPolicy_eq_refuse (s : State) {p : List Byte} (h : 1 < byteAt p 0) (other : byteAt p 0 ≠ 255) :
    s.setBayPolicy p = (s, answer .badValue []) := by
  rw [State.setBayPolicy]
  exact if_pos ⟨h, other⟩

/-- SET_CONDITION of a host condition and a level goes on to its bay list. -/
theorem State.setCondition_eq_onBayList (s : State) {p : List Byte} {c : Fin 9} (host : c.val < 5) (hc : byteAt p 0 = c.val)
    (level : byteAt p 1 ≤ 1) :
    s.setCondition p = onBayList s (p.drop 2) .ok (State.setConditionBay c (byteAt p 1 == 1)) := by
  have named : hostCondition (byteAt p 0) = some c := by
    rw [hc]
    exact dif_pos host
  simp only [State.setCondition, named, if_neg (Nat.not_lt.2 level)]

theorem State.setCondition_eq_refuse (s : State) {p : List Byte} (h : 4 < byteAt p 0 ∨ 1 < byteAt p 1) :
    s.setCondition p = (s, answer .badValue []) := by
  rw [State.setCondition]
  cases named : hostCondition (byteAt p 0) with
  | none => rfl
  | some c =>
    have host : byteAt p 0 < 5 := by
      by_contra other
      rw [hostCondition, dif_neg other] at named
      cases named
    have level : 1 < byteAt p 1 := by omega
    exact if_pos level

end Sys2Proof.Machine
end

section
/-! The statement about bay lists that name no bays, settled. -/

namespace Sys2Proof.Machine

/-- Settles O43: the list's expansion fails before any bay is touched. -/
theorem badBayListsRefuseTheRequest : Obligations.BadBayListsRefuseTheRequest := by
  intro list status r s refuses hr bad
  have fits := bayListFits_of_refuses bad
  refine ⟨fun payload => ?_, fun cls zone payload => ?_, fun condition host payload => ?_⟩
  · have carried {k : RequestKind} (permits : k.lengthOk r.payload = bayListFits r.payload) :
        k.lengthOk r.payload = true := by rw [permits, payload, fits]
    subst payload
    exact ⟨hr.exec_refusesList (k := .powerOn) bad (carried rfl) rfl,
      hr.exec_refusesList (k := .powerOff) bad (carried rfl) rfl,
      hr.exec_refusesList (k := .prepareRemoval) bad (carried rfl) rfl,
      hr.exec_refusesList (k := .spinRequest) bad (carried rfl) rfl,
      hr.exec_refusesList (k := .spinDownNote) bad (carried rfl) rfl,
      hr.exec_refusesList (k := .clearQuarantine) bad (carried rfl) rfl⟩
  · have policy : byteAt r.payload 0 = 0 := by rw [payload]; rfl
    have carried := s.listening.setBayPolicy_eq_onBayList (p := r.payload) (.inl (by omega))
    have dropped : r.payload.drop 3 = list := by rw [payload]; rfl
    rw [dropped] at carried
    refine hr.exec_refusesList (k := .setBayPolicy) bad ?_ carried
    rw [payload]
    simp [RequestKind.lengthOk, fits]
  · have named : byteAt r.payload 0 = condition.toNat := by rw [payload]; rfl
    have level : byteAt r.payload 1 = 1 := by rw [payload]; rfl
    have carried := s.listening.setCondition_eq_onBayList (p := r.payload) (c := ⟨condition.toNat, by omega⟩) host named
      (by omega)
    have dropped : r.payload.drop 2 = list := by rw [payload]; rfl
    rw [dropped] at carried
    refine hr.exec_refusesList (k := .setCondition) bad ?_ carried
    rw [payload]
    simp [RequestKind.lengthOk, fits]

end Sys2Proof.Machine
end

section
/-! SUPPORT. A request of a payload that its kind permits is answered by its block (R168 to R170); numbers in bytes as the
statements write them (R179). -/

namespace Sys2Proof.Machine

/-- A request reaches its block and is answered. -/
theorem Reaches.exec_answers {r : Request} {s t : State} {k : RequestKind} {p : List Byte} {st : Status} {body : List Byte}
    (h : Reaches r s) (payload : r.payload = p) (permitted : k.lengthOk p = true)
    (answers : s.listening.dispatch k p = (t, answer st body)) :
    exec (.badKind k.byte r) s = .next (t.replying k.byte r.tag st body) := by
  subst payload
  exact congrArg Host.Outcome.next (h.requestFrame_eq_replying permitted answers)

theorem u8_eq_oneByte (n : Nat) : u8 n = oneByte n := by
  simp only [u8, oneByte, List.cons.injEq, and_true]
  exact BitVec.eq_of_toNat_eq (by simp)

theorem u16_eq_twoBytes (n : Nat) : u16 n = twoBytes n := by
  show u8 n ++ u8 (n / 256) = _
  rw [u8_eq_oneByte, u8_eq_oneByte, twoBytes]

theorem u32_eq_fourBytes (n : Nat) : u32 n = fourBytes n := by
  have third : n / 65536 / 256 = n / 16777216 := Nat.div_div_eq_div_mul ..
  rw [fourBytes, ← u16_eq_twoBytes, ← u16_eq_twoBytes, u16, u16, third]
  rfl

theorem flag8_eq_oneByte (b : Bool) : flag8 b = oneByte b.toNat := u8_eq_oneByte _

theorem s8_eq_tempByte (i : Int) : s8 i = tempByte (some i) := by
  simp only [s8, tempByte, oneByte, Option.getD_some, List.cons.injEq, and_true]
  apply BitVec.eq_of_toNat_eq
  simp only [BitVec.toNat_ofInt, BitVec.toNat_ofNat]
  omega

theorem s32_eq_signedBytes (i : Int) : s32 i = signedBytes i := by
  rw [s32, signedBytes, u32_eq_fourBytes, BitVec.toNat_ofInt]
  rfl

theorem tempOr7F_eq_tempByte (o : Option Int) : tempOr7F o = tempByte o := s8_eq_tempByte _

theorem u16OrFFFF_eq_twoOrNone (o : Option Nat) : u16OrFFFF o = twoOrNone o := u16_eq_twoBytes _

/-- A code in one byte, FFh for none. -/
theorem codeByte_eq_byteOrNone {n : Nat} (o : Option (Fin n)) : [codeByte o] = byteOrNone (o.map fun c => c.val) := by
  cases o with
  | none => rfl
  | some c => exact u8_eq_oneByte c.val

theorem Profile.bytes_eq_fields (p : Profile) : p.bytes = profileFields p := by
  simp only [Profile.bytes, profileFields, u16_eq_twoBytes, u8_eq_oneByte]

theorem Curve.bytes_eq_fields (c : Curve) : c.bytes = curveFields c := by
  simp only [Curve.bytes, curveFields, s8_eq_tempByte, u8_eq_oneByte, List.flatMap_cons, List.flatMap_nil,
    List.append_nil, List.append_assoc]

theorem Subject.bytes_eq_fields (x : Subject) : x.bytes = subjectFields x := by
  cases x with
  | none => rfl
  | bay b => exact congrArg (1 :: ·) (u8_eq_oneByte b.val)
  | fan f => exact congrArg (2 :: ·) (u8_eq_oneByte f.val)
  | zone z => exact congrArg (3 :: ·) (u8_eq_oneByte z.number.val)
  | sensor k => exact congrArg (4 :: ·) (u8_eq_oneByte k.val)
  | slot k => exact congrArg (5 :: ·) (u8_eq_oneByte k.val)

theorem EventRecord.bytes_eq_fields : EventRecord.bytes = recordFields := by
  funext r
  simp only [EventRecord.bytes, recordFields, Subject.bytes_eq_fields, flag8_eq_oneByte, eventValue, s32_eq_signedBytes,
    u32_eq_fourBytes]

theorem byte_eq_iff {x : Byte} {n : Nat} (h : n < 256) : x = BitVec.ofNat 8 n ↔ x.toNat = n := by
  constructor
  · rintro rfl
    exact Nat.mod_eq_of_lt h
  · rintro rfl
    exact (BitVec.ofNat_toNat 8 x).symm.trans (by simp)

end Sys2Proof.Machine
end

section
/-! SUPPORT. The light requests and the requests of the event queue, the settings store and the link. -/

namespace Sys2Proof.Machine

theorem State.pend_action (s : State) (code tag : Byte) (st : Status) (body : List Byte) (action : AfterReply) :
    s.pend code tag ⟨st, body, action⟩ = s.replyingThen code tag st body action := by
  have frame : replyFrame s.link.unitAddress code tag ⟨st, body, action⟩ =
      replyBytes s.link.unitAddress code tag st body := replyFrame_answer ..
  simp only [State.pend, frame]
  rfl

/-- A request reaches its block and is answered, with an after-reply action. -/
theorem Reaches.exec_answersThen {r : Request} {s t : State} {k : RequestKind} {p : List Byte} {st : Status}
    {body : List Byte} {action : AfterReply} (h : Reaches r s) (payload : r.payload = p) (permitted : k.lengthOk p = true)
    (answers : s.listening.dispatch k p = (t, ⟨st, body, action⟩)) :
    exec (.badKind k.byte r) s = .next (t.replyingThen k.byte r.tag st body action) := by
  subst payload
  refine congrArg Host.Outcome.next ?_
  rw [h.requestFrame_eq_takeAddressed, State.takeAddressed, screen_byte permitted, h.withdraw_eq_listening]
  simp only [answers, State.answered, State.pend_action]

/-- A request taken by broadcast is carried out on the listening part, and its action at once (R173, R175). -/
theorem Reaches.exec_broadcast {r : Request} {s : State} {k : RequestKind} {p : List Byte} (h : Reaches r s)
    (payload : r.payload = p) (permitted : k.lengthOk p = true) :
    exec (.badKind k.byte { r with address := 0 }) s = .next (State.unanswered (s.listening.dispatch k p)) := by
  subst payload
  refine congrArg Host.Outcome.next ?_
  rw [s.requestFrame_broadcast (r := { r with address := 0 }) h.receiver h.length h.notSending rfl, State.takeBroadcast,
    screen_byte permitted, h.withdraw_eq_listening]

/-! ## Lights (R147 to R159) -/

theorem bayOfNumber_byte {x : Byte} {b : Bay} (h : x.toNat = b.val) : bayOfNumber (byteAt [x] 0) = some b := by
  show bayOfNumber x.toNat = some b
  rw [h]
  exact bayOfNumber_val b

/-- The latches of all bays cleared (R150). -/
theorem clearLatches_bayLights (s : State) (b : Bay) : (allBays.foldl State.clearLatchOf s).bayLights b =
    { s.bayLights b with conditions := Table.put (s.bayLights b).conditions condPowerFault false } := by
  have one (t : State) (c d : Bay) : (t.clearLatchOf c).bayLights d =
      if c = d then { t.bayLights c with conditions := Table.put (t.bayLights c).conditions condPowerFault false }
      else t.bayLights d := t.bayLights_setCond c d condPowerFault false
  have all := State.foldl_each (v := State.bayLights)
    (g := fun l => { l with conditions := Table.put l.conditions condPowerFault false }) one allBays allBays_nodup s b
  rw [all, if_pos (mem_allBays b)]

theorem clearLatches_eq (bays : List Bay) (s : State) : bays.foldl State.clearLatchOf s =
    s.putLights { s.lights with bays := (bays.foldl State.clearLatchOf s).lights.bays } := by
  induction bays generalizing s with
  | nil => rfl
  | cons b rest ih =>
    rw [List.foldl_cons, ih]
    rfl

/-! ## Link settings (R189) -/

theorem speedOfCode_byte {x : Byte} : speedOfCode x.toNat =
    if x = 0 then some .b9600 else if x = 1 then some .b19200 else if x = 2 then some .b57600
    else if x = 3 then some .b115200 else none := by
  simp only [speedOfCode, ← byte_eq_iff (show 0 < 256 by omega), ← byte_eq_iff (show 1 < 256 by omega),
    ← byte_eq_iff (show 2 < 256 by omega), ← byte_eq_iff (show 3 < 256 by omega)]
  rfl

theorem speedOfCode_inverse {n : Nat} {speed : Speed} (h : speedOfCode n = some speed) : speed.byte = BitVec.ofNat 8 n := by
  unfold speedOfCode at h
  split at h
  · subst n; cases h; rfl
  · split at h
    · subst n; cases h; rfl
    · split at h
      · subst n; cases h; rfl
      · split at h
        · subst n; cases h; rfl
        · cases h

theorem flag8_eq_ite (b : Bool) : flag8 b = [if b = true then 1 else 0] := by cases b <;> rfl

end Sys2Proof.Machine
end

section
/-! The statements about light requests and unit requests, settled. -/

namespace Sys2Proof.Machine

/-- Settles O44: each request by its outcomes; CLEAR_LATCH of all bays by a fold over them. -/
theorem lightRequestsWriteOneValue : Obligations.LightRequestsWriteOneValue := by
  intro x y list bays r s refuses lights cfg hr
  refine ⟨fun payload names => ⟨fun c hc host level => ?_, fun bad => ?_⟩, fun payload => ?_, fun payload => ?_⟩
  · have named : byteAt r.payload 0 = c.val := by rw [payload]; exact hc
    have second : byteAt r.payload 1 = y.toNat := by rw [payload]; rfl
    have binary : y.toNat ≤ 1 := by rcases level with rfl | rfl <;> decide
    have carried := s.listening.setCondition_eq_onBayList (p := r.payload) host named (second ▸ binary)
    have dropped : r.payload.drop 2 = list := by rw [payload]; rfl
    have set : (byteAt r.payload 1 == 1) = decide (y = 1) := by
      rw [second]
      rcases level with rfl | rfl <;> rfl
    rw [dropped, set] at carried
    refine hr.exec_onBayList (k := .setCondition) names ?_ carried (fun b u => ⟨rfl, rfl⟩)
    rw [payload]
    simp [RequestKind.lengthOk, bayListFits_of_names names]
  · refine hr.exec_answers (k := .setCondition) rfl ?_ (s.listening.setCondition_eq_refuse ?_)
    · rw [payload]
      simp [RequestKind.lengthOk, bayListFits_of_names names]
    · rw [payload]
      exact bad
  · refine ⟨fun b named => ?_, fun all => ?_, fun above notAll => ?_, fun within => ?_, fun above => ?_, fun level => ?_,
      fun above => ?_⟩
    · refine hr.exec_answers (k := .clearLatch) payload rfl ?_
      have one : byteAt [x] 0 ≠ 255 := by
        show x.toNat ≠ 255
        omega
      simp only [State.dispatch, State.clearLatch, if_neg one, bayOfNumber_byte named]
      rfl
    · refine ⟨allBays.foldl State.clearLatchOf s.listening, hr.exec_answers (k := .clearLatch) payload rfl ?_,
        fun b => clearLatches_bayLights s.listening b, clearLatches_eq allBays s.listening⟩
      subst all
      rfl
    · refine hr.exec_answers (k := .clearLatch) payload rfl ?_
      have one : byteAt [x] 0 ≠ 255 := fun h => notAll ((byte_eq_iff (n := 255) (by omega)).2 h)
      have beyond : bayOfNumber (byteAt [x] 0) = none := bayOfNumber_eq_none above
      simp only [State.dispatch, State.clearLatch, if_neg one, beyond]
      rfl
    · refine hr.exec_answers (k := .setLightMask) payload rfl ?_
      have kept : min 6 x.toNat = x.toNat := Nat.min_eq_right within
      have same : byteAt [x] 0 = x.toNat := rfl
      simp only [State.dispatch, State.setLightMask, same, kept, bne_self_eq_false, u8_toNat]
      rfl
    · refine hr.exec_answers (k := .setLightMask) payload rfl ?_
      have same : byteAt [x] 0 = x.toNat := rfl
      have kept : min 6 x.toNat = 6 := Nat.min_eq_left (Nat.le_of_lt above)
      have changed : (6 != x.toNat) = true := bne_iff_ne.2 (Nat.ne_of_lt above)
      simp only [State.dispatch, State.setLightMask, same, kept, changed]
      rfl
    · refine hr.exec_answers (k := .setLocate) payload rfl ?_
      rcases level with rfl | rfl <;> rfl
    · refine hr.exec_answers (k := .setLocate) payload rfl ?_
      simp only [State.dispatch, State.setLocate]
      exact if_pos above
  · refine ⟨fun i named => ?_, fun bad => ?_, fun c i named numbered => ?_, fun bad => ?_⟩
    · refine hr.exec_answers (k := .setPattern) payload rfl ?_
      have place : writablePattern (byteAt [x, y] 0) = some i := by
        show writablePattern x.toNat = some i
        rw [writablePattern, dif_pos (by omega)]
        exact congrArg some (Fin.ext (by show x.toNat - 4 = i.val; omega))
      have same : u8 (byteAt [x, y] 0) = [x] := u8_toNat x
      simp only [State.dispatch, State.setPattern, place, same]
      rfl
    · refine hr.exec_answers (k := .setPattern) payload rfl ?_
      have place : writablePattern (byteAt [x, y] 0) = none := dif_neg (by show ¬ (4 ≤ x.toNat ∧ x.toNat < 8); omega)
      simp only [State.dispatch, State.setPattern, place]
      rfl
    · refine hr.exec_answers (k := .setConditionPattern) payload rfl ?_
      have first : below (byteAt [x, y] 0) 9 = some c := by
        show below x.toNat 9 = some c
        rw [named]
        exact dif_pos c.isLt
      have second : below (byteAt [x, y] 1) 8 = some i := by
        show below y.toNat 8 = some i
        rw [numbered]
        exact dif_pos i.isLt
      simp only [State.dispatch, State.setConditionPattern, first, second, ← named, ← numbered, u8_toNat]
      rfl
    · refine hr.exec_answers (k := .setConditionPattern) payload rfl ?_
      simp only [State.dispatch, State.setConditionPattern]
      rcases bad with bad | bad
      · have first : below (byteAt [x, y] 0) 9 = none := dif_neg (Nat.not_lt.2 bad)
        rw [first]
        rfl
      · have second : below (byteAt [x, y] 1) 8 = none := dif_neg (Nat.not_lt.2 bad)
        rw [second]
        cases below (byteAt [x, y] 0) 9 <;> rfl

/-- Settles O51: each request by its outcomes; RESTART and SET_LINK pend with their action, and by broadcast act. -/
theorem unitRequestsActOrWait : Obligations.UnitRequestsActOrWait := by
  intro x y r s refuses speedOf delay hr
  refine ⟨fun payload => ⟨fun bad => ?_, fun some' most => ?_⟩, fun payload => ⟨fun idle => ?_, fun busy => ?_, ?_, ?_⟩,
    fun payload => ⟨fun none' => ?_, fun speed named => ⟨?_, ?_⟩⟩⟩
  · refine hr.exec_answers (k := .readEvents) payload rfl ?_
    simp only [State.dispatch, State.readEvents]
    exact if_pos (bad.imp_left (congrArg BitVec.toNat))
  · refine hr.exec_answers (k := .readEvents) payload rfl ?_
    have count : byteAt [x] 0 = x.toNat := rfl
    have allowed : ¬ (x.toNat = 0 ∨ 16 < x.toNat) := by
      rintro (zero | above)
      · exact some' ((byte_eq_iff (n := 0) (by omega)).2 zero)
      · omega
    simp only [State.dispatch, State.readEvents, count, if_neg allowed, EventRecord.bytes_eq_fields, List.length_take,
      flag8_eq_ite]
    rfl
  · refine hr.exec_answers (k := .saveSettings) payload rfl ?_
    have free : ¬ s.listening.store.writing.isSome = true := by
      rw [show s.listening.store.writing = none from idle]
      nofun
    simp only [State.dispatch, State.saveSettings, if_neg free]
    rfl
  · refine hr.exec_answers (k := .saveSettings) payload rfl ?_
    have held : s.listening.store.writing.isSome = true := busy
    simp only [State.dispatch, State.saveSettings, if_pos held]
    rfl
  · exact hr.exec_answersThen (k := .restart) payload rfl rfl
  · have broadcast := hr.exec_broadcast (k := .restart) payload rfl
    rw [exec_replySent_of_sending _ rfl]
    exact broadcast
  · refine hr.exec_answers (k := .setLink) payload rfl ?_
    have code : speedOfCode (byteAt [x, y] 0) = none := speedOfCode_byte.trans none'
    simp only [State.dispatch, State.setLink, code]
    rfl
  · refine hr.exec_answersThen (k := .setLink) payload rfl ?_
    have code : speedOfCode (byteAt [x, y] 0) = some speed := speedOfCode_byte.trans named
    have same : speed.byte = x := (speedOfCode_inverse code).trans (by simp [byteAt])
    have status : writtenStatus (delay != y.toNat) = clampedOr (50 < y.toNat) := by
      refine writtenStatus_eq_clampedOr ?_
      rw [bne_iff_ne]
      omega
    simp only [State.dispatch, State.setLink, code, same]
    exact congrArg (fun st => (s.listening, (⟨st, _, _⟩ : Answer))) status
  · have broadcast := hr.exec_broadcast (k := .setLink) payload rfl
    have code : speedOfCode (byteAt [x, y] 0) = some speed := speedOfCode_byte.trans named
    simp only [State.dispatch, State.setLink, code] at broadcast
    exact broadcast

end Sys2Proof.Machine
end

section
/-! SUPPORT. The resolution of the ATTN lights (R153), the sources of the ACT lights (R157) and the causes of the enclosure
fault state (R158). -/

namespace Sys2Proof.Machine

variable (s : State) (b : Bay)

/-! ## Resolution (R153) -/

/-- A condition shows ahead of another, or is it: of a higher level, or of the same and not of a higher number. -/
def ShowsAhead (c d : Fin 9) : Prop := levelOf d < levelOf c ∨ (levelOf d = levelOf c ∧ c ≤ d)

theorem ShowsAhead.refl (c : Fin 9) : ShowsAhead c c := .inr ⟨rfl, Fin.le_refl c⟩

theorem ShowsAhead.trans {c d e : Fin 9} (h : ShowsAhead c d) (k : ShowsAhead d e) : ShowsAhead c e := by
  unfold ShowsAhead at *
  omega

theorem eligible_iff (c : Fin 9) : eligible (s.bayLights b) s.lights.mask c = true ↔ Eligible s b c := by
  simp only [eligible, Bool.and_eq_true, Bool.or_eq_true, decide_eq_true_eq, beq_iff_eq]
  exact Iff.rfl

/-- The choice so far, after a further eligible condition. -/
def chosenOf (best : Option (Fin 9)) (c : Fin 9) : Fin 9 :=
  match best with
  | none => c
  | some d => if levelOf d < levelOf c then c else d

theorem resolveFrom_of_eligible {l : BayLights} {mask : Nat} {c : Fin 9} (h : eligible l mask c = true)
    (best : Option (Fin 9)) (rest : List (Fin 9)) :
    resolveFrom l mask best (c :: rest) = resolveFrom l mask (some (chosenOf best c)) rest := by
  cases best <;> simp only [resolveFrom, if_pos h] <;> rfl

theorem resolveFrom_of_not_eligible {l : BayLights} {mask : Nat} {c : Fin 9} (h : ¬ eligible l mask c = true)
    (best : Option (Fin 9)) (rest : List (Fin 9)) :
    resolveFrom l mask best (c :: rest) = resolveFrom l mask best rest := by
  cases best <;> simp only [resolveFrom, if_neg h]

/-- The choice among conditions in number order, from a choice so far of a lower number: an eligible one that shows ahead of
every other eligible one, and none where there is none. -/
theorem resolveFrom_spec (l : BayLights) (mask : Nat) (list : List (Fin 9)) (best : Option (Fin 9))
    (ascending : list.Pairwise (· < ·)) (behind : ∀ d, best = some d → ∀ c ∈ list, d < c) :
    match resolveFrom l mask best list with
    | none => best = none ∧ ∀ c ∈ list, eligible l mask c = false
    | some c => (best = some c ∨ (c ∈ list ∧ eligible l mask c = true)) ∧ (∀ d, best = some d → ShowsAhead c d) ∧
        ∀ d ∈ list, eligible l mask d = true → ShowsAhead c d := by
  induction list generalizing best with
  | nil =>
    cases best with
    | none => exact ⟨rfl, by simp⟩
    | some c => exact ⟨.inl rfl, fun d h => by cases h; exact .refl c, by simp⟩
  | cons a rest ih =>
    obtain ⟨ahead, ascending⟩ := List.pairwise_cons.1 ascending
    by_cases fits : eligible l mask a = true
    · rw [resolveFrom_of_eligible fits]
      obtain ⟨from', aheadOfA, aheadOfBest⟩ : (best = some (chosenOf best a) ∨ chosenOf best a = a) ∧
          ShowsAhead (chosenOf best a) a ∧ ∀ d, best = some d → ShowsAhead (chosenOf best a) d := by
        cases best with
        | none => exact ⟨.inr rfl, .refl a, nofun⟩
        | some d =>
          have lower : d < a := behind d rfl a (List.mem_cons_self ..)
          by_cases higher : levelOf d < levelOf a
          · have chosen : chosenOf (some d) a = a := if_pos higher
            rw [chosen]
            exact ⟨.inr rfl, .refl a, by rintro e ⟨⟩; exact .inl higher⟩
          · have chosen : chosenOf (some d) a = d := if_neg higher
            rw [chosen]
            refine ⟨.inl rfl, ?_, by rintro e ⟨⟩; exact .refl d⟩
            unfold ShowsAhead
            omega
      generalize chosenOf best a = e at *
      have below : ∀ d, some e = some d → ∀ c ∈ rest, d < c := by
        rintro d ⟨⟩ c hc
        rcases from' with h | rfl
        · exact behind e h c (List.mem_cons_of_mem a hc)
        · exact ahead c hc
      have rest' := ih (some e) ascending below
      cases found : resolveFrom l mask (some e) rest with
      | none =>
        rw [found] at rest'
        nomatch rest'.1
      | some c =>
        rw [found] at rest'
        obtain ⟨which, ofBest, ofRest⟩ := rest'
        have ce := ofBest e rfl
        refine ⟨?_, fun d h => ce.trans (aheadOfBest d h), fun d hd elig => ?_⟩
        · rcases which with h | ⟨hc, elig⟩
          · cases h
            rcases from' with h | rfl
            · exact .inl h
            · exact .inr ⟨List.mem_cons_self .., fits⟩
          · exact .inr ⟨List.mem_cons_of_mem a hc, elig⟩
        · rcases List.mem_cons.1 hd with rfl | hd
          · exact ce.trans aheadOfA
          · exact ofRest d hd elig
    · rw [resolveFrom_of_not_eligible fits]
      have rest' := ih best ascending (fun d h c hc => behind d h c (List.mem_cons_of_mem a hc))
      cases found : resolveFrom l mask best rest with
      | none =>
        rw [found] at rest'
        exact ⟨rest'.1, List.forall_mem_cons.2 ⟨Bool.eq_false_of_not_eq_true fits, rest'.2⟩⟩
      | some c =>
        rw [found] at rest'
        obtain ⟨which, ofBest, ofRest⟩ := rest'
        exact ⟨which.imp_right (.imp_left (List.mem_cons_of_mem a)), ofBest,
          List.forall_mem_cons.2 ⟨fun h => absurd h fits, ofRest⟩⟩

theorem mem_allConditions (c : Fin 9) : c ∈ allConditions := by
  revert c
  decide

theorem State.resolved_spec : match s.resolved b with
    | none => ∀ c, ¬ Eligible s b c
    | some c => ResolvesTo s b c := by
  have spec := resolveFrom_spec (s.bayLights b) s.lights.mask allConditions none (by decide) nofun
  show match resolveFrom (s.bayLights b) s.lights.mask none allConditions with | none => _ | some c => _
  cases found : resolveFrom (s.bayLights b) s.lights.mask none allConditions with
  | none =>
    rw [found] at spec
    exact fun c elig => Bool.eq_false_iff.1 (spec.2 c (mem_allConditions c)) ((eligible_iff s b c).2 elig)
  | some c =>
    rw [found] at spec
    obtain ⟨which, -, ahead⟩ := spec
    have elig : eligible (s.bayLights b) s.lights.mask c = true := by
      rcases which with h | h
      · nomatch h
      · exact h.2
    exact ⟨(eligible_iff s b c).1 elig, fun d h => ahead d (mem_allConditions d) ((eligible_iff s b d).2 h)⟩

theorem ResolvesTo.unique {c d : Fin 9} (h : ResolvesTo s b c) (k : ResolvesTo s b d) : c = d := by
  have one := h.2 d k.1
  have other := k.2 c h.1
  omega

theorem State.resolved_iff (c : Fin 9) : s.resolved b = some c ↔ ResolvesTo s b c := by
  have spec := s.resolved_spec b
  cases found : s.resolved b with
  | none =>
    rw [found] at spec
    exact ⟨nofun, fun h => absurd h.1 (spec c)⟩
  | some d =>
    rw [found] at spec
    exact ⟨fun h => Option.some.inj h ▸ spec, fun h => congrArg some (spec.unique s b h)⟩

theorem State.resolved_eq_none (h : ∀ c, ¬ Eligible s b c) : s.resolved b = none := by
  cases found : s.resolved b with
  | none => rfl
  | some c => exact absurd ((s.resolved_iff b c).1 found).1 (h c)

/-! ## ACT lights (R157) -/

theorem State.actLevel_eq_ite : s.actLevel b =
    if (s.bay b).state = .active then (s.chan b).activity
    else if (s.bay b).state = .ramping ∨ (s.bay b).state = .spinning ∨ (s.bay b).state = .granted then
      decide (s.lights.phase.val < 4)
    else false := by
  unfold State.actLevel
  cases (s.bay b).state <;> simp [BayState.actSource, patternOn_two]

theorem BayState.actSource_byte (st : BayState) : st.actSource.byte =
    if st = .active then 1 else if st = .ramping ∨ st = .spinning ∨ st = .granted then 2 else 0 := by
  cases st <;> rfl

/-! ## The enclosure fault state (R158) -/

theorem faultCause_iff (i : Fin 6) : s.faultCauses.getD i.val false = true ↔ FaultCause s i := by
  fin_cases i
  · show s.causeBay = true ↔ ∃ b c, ResolvesTo s b c ∧ 6 ≤ levelOf c
    rw [State.causeBay, List.any_eq_true]
    constructor
    · rintro ⟨b, -, h⟩
      cases found : s.resolved b with
      | none => rw [found] at h; cases h
      | some c =>
        rw [found] at h
        exact ⟨b, c, (s.resolved_iff b c).1 found, of_decide_eq_true h⟩
    · rintro ⟨b, c, resolves, high⟩
      refine ⟨b, mem_allBays b, ?_⟩
      rw [(s.resolved_iff b c).2 resolves]
      exact decide_eq_true high
  · show s.causeFan = true ↔ ∃ f, (s.fan f).state = .failed
    rw [State.causeFan, List.any_eq_true]
    exact ⟨fun ⟨f, _, h⟩ => ⟨f, beq_iff_eq.1 h⟩, fun ⟨f, h⟩ => ⟨f, mem_allFans f, beq_iff_eq.2 h⟩⟩
  · show s.causeSensor = true ↔ ∃ k, (s.cooling.sensors.get k).state = .failed
    rw [State.causeSensor, List.any_eq_true]
    have all : ∀ k : Sensor, k ∈ allSensors := by decide
    exact ⟨fun ⟨k, _, h⟩ => ⟨k, beq_iff_eq.1 h⟩, fun ⟨k, h⟩ => ⟨k, all k, beq_iff_eq.2 h⟩⟩
  · show s.causeSlot = true ↔ ∃ k, (s.budget.slots.get k).present.accepted = true ∧
      (s.budget.slots.get k).good.accepted = false
    rw [State.causeSlot, List.any_eq_true]
    have all : ∀ k : Slot, k ∈ allSlots := by decide
    have condition (l : SlotLines) :
        l.condition = .presentNotOk ↔ l.present.accepted = true ∧ l.good.accepted = false := by
      unfold SlotLines.condition
      cases l.present.accepted <;> cases l.good.accepted <;> simp
    exact ⟨fun ⟨k, _, h⟩ => ⟨k, (condition _).1 (beq_iff_eq.1 h)⟩,
      fun ⟨k, h⟩ => ⟨k, all k, beq_iff_eq.2 ((condition _).2 h)⟩⟩
  · show s.causeZone = true ↔ ∃ z, (s.zone z).thermal = .critical
    rw [State.causeZone, List.any_eq_true]
    exact ⟨fun ⟨z, _, h⟩ => ⟨z, beq_iff_eq.1 h⟩, fun ⟨z, h⟩ => ⟨z, mem_allZones z, beq_iff_eq.2 h⟩⟩
  · exact Iff.rfl

theorem enclosureFault_iff : s.enclosureFault = true ↔ ∃ i, FaultCause s i := by
  have any : s.enclosureFault = true ↔ ∃ i : Fin 6, s.faultCauses.getD i.val false = true := by
    simp only [State.enclosureFault, State.faultCauses, List.any_cons, List.any_nil, id, Bool.or_eq_true,
      Fin.exists_fin_succ, Bool.or_false]
    simp
  rw [any]
  exact exists_congr (faultCause_iff s)

end Sys2Proof.Machine
end

section
/-! The statement about step boundaries, settled. -/

namespace Sys2Proof.Machine

/-- Settles O33: the lights are driven by the new phase, ATTN by the resolution. -/
theorem stepBoundariesDriveTheLights : Obligations.StepBoundariesDriveTheLights := by
  intro s shows phase
  let next := s.putLights { s.lights with phase := phase, boundary := 125 }
  refine ⟨next.driveLights, rfl, fun b i shown => ?_, fun b => ?_, fun b => ?_, ?_, ?_⟩
  · rw [State.driveLights_bayLights]
    have pattern : next.shownPattern b = i := by
      rcases shown with ⟨c, resolves, rfl⟩ | ⟨none', rfl⟩
      · have found : next.resolved b = some c := (s.resolved_iff b c).2 resolves
        rw [State.shownPattern, found]
        rfl
      · have found : next.resolved b = none := s.resolved_eq_none b none'
        rw [State.shownPattern, found]
    show patternOn (next.cfg.pattern (next.shownPattern b)) phase = _
    rw [pattern]
    rfl
  · rw [State.driveLights_bayLights]
    exact next.actLevel_eq_ite b
  · rw [State.driveLights_bayLights]
    rfl
  · exact enclosureFault_iff s
  · have fast : patternOn (s.cfg.pattern 3) phase = decide (phase.val % 2 = 0) := by
      have three : s.cfg.pattern 3 = 0b01010101#8 := rfl
      rw [three]
      generalize phase = p
      revert p
      decide
    rw [← fast]
    rfl

end Sys2Proof.Machine
end

section
/-! SUPPORT. The event queue as a list with a bound (R190), and the outputs that follow the state. -/

namespace Sys2Proof.Machine

variable (s : State)

/-! ## The event queue (R190) -/

theorem State.raise_of_room {e : Event} (h : s.events.records.length < 32) :
    s.raise e = s.putEvents ⟨s.events.records ++ [⟨e, s.time⟩], s.events.overflow⟩ := by
  rw [State.raise, if_pos h]

theorem State.raise_of_full {e : Event} (h : 32 ≤ s.events.records.length) :
    s.raise e = s.putEvents ⟨s.events.records, true⟩ := by
  rw [State.raise, if_neg (Nat.not_lt.2 h)]

/-- Events raised go to the places left, and any beyond them sets the overflow mark. -/
theorem State.raiseAll_eq (es : List Event) : s.raiseAll es = s.putEvents
    ⟨s.events.records ++ (es.take (32 - s.events.records.length)).map (fun e => ⟨e, s.time⟩),
      s.events.overflow || decide (32 - s.events.records.length < es.length)⟩ := by
  induction es generalizing s with
  | nil =>
    simp only [List.take_nil, List.map_nil, List.append_nil, List.length_nil, Nat.not_lt_zero, decide_false, Bool.or_false]
    rfl
  | cons e rest ih =>
    show (s.raise e).raiseAll rest = _
    rw [ih]
    rcases Nat.lt_or_ge s.events.records.length 32 with room | full
    · obtain ⟨k, hk⟩ : ∃ k, 32 - s.events.records.length = k + 1 := ⟨31 - s.events.records.length, by omega⟩
      have less : 32 - (s.events.records ++ [(⟨e, s.time⟩ : EventRecord)]).length = k := by
        rw [List.length_append, List.length_singleton]
        omega
      rw [s.raise_of_room room]
      simp only [State.putEvents_events, State.putEvents_time, less, hk, List.take_succ_cons, List.map_cons,
        List.append_assoc, List.singleton_append, List.length_cons, Nat.add_lt_add_iff_right]
      rfl
    · have none' : 32 - s.events.records.length = 0 := by omega
      rw [s.raise_of_full full]
      simp only [State.putEvents_events, none', List.take_zero, List.map_nil, List.append_nil, Bool.true_or,
        List.length_cons, Nat.zero_lt_succ, decide_true, Bool.or_true]
      rfl

/-- Raised events leave a record in a queue that held one, or that has a place. -/
theorem Raises.records_ne_nil {es : List Event} {t : State} (h : Raises es s t)
    (some' : s.events.records ≠ [] ∨ es ≠ []) : t.events.records ≠ [] := by
  obtain ⟨more, eq⟩ := h
  rw [eq, State.raiseAll_eq]
  show s.events.records ++ _ ≠ []
  rcases hr : s.events.records with _ | ⟨r, rest⟩
  · obtain ⟨e, rest, rfl⟩ := List.exists_cons_of_ne_nil (some'.resolve_left (not_not.2 hr))
    simp
  · simp

theorem State.coldStart_records (straps : BitVec 3) : (s.coldStart straps).events.records ≠ [] := by
  refine (s.coldStart_settles straps).events.records_ne_nil _ (.inl ?_)
  exact (State.raiseAll_raises (s.blocksCold straps) _).records_ne_nil _ (.inr nofun)

/-! ## The outputs -/

theorem State.alert_iff : s.alert = true ↔ s.events.records ≠ [] ∧ s.resetLow = false := by
  simp [State.alert, and_comm]

theorem State.pen_iff (b : Bay) :
    s.pen b = true ↔ ((s.chan b).switch = .ramping ∨ (s.chan b).switch = .closed) ∧ s.resetLow = false := by
  cases h : (s.chan b).switch <;> simp [State.pen, h]

theorem State.pen_of_low (b : Bay) (h : s.resetLow = true) : s.pen b = false := by simp [State.pen, h]

theorem State.pen_of_opened (b : Bay) (h : (s.chan b).switch = .opened) : s.pen b = false := by simp [State.pen, h]

theorem State.coldStart_opened (straps : BitVec 3) (b : Bay) : ((s.coldStart straps).chan b).switch = .opened := by
  rw [State.chan, (s.coldStart_settles straps).chans, State.raiseAll_chans]
  simp [State.blocksCold, Channel.restarted, Channel.cold]

theorem State.transmission_of_sending {frame : List Byte} {action : AfterReply} (h : s.link.reply = .sending frame action)
    (high : s.resetLow = false) : s.transmission = some frame := by
  simp [State.transmission, h, high]

theorem State.mde_iff : s.mde = true ↔ s.link.reply.isSending = true ∧ s.resetLow = false := by
  unfold State.mde State.transmission
  cases h : s.link.reply with
  | none => simp [ReplyState.isSending]
  | pending p => simp [ReplyState.isSending]
  | sending frame action => cases s.resetLow <;> simp [ReplyState.isSending]

theorem State.mtx_of_not_mde (h : s.mde = false) (k : Nat) : s.mtx k = true := by
  have silent : s.transmission = none := by simpa [State.mde] using h
  simp [State.mtx, silent, idleLevel]

/-- The characters of a frame, ten levels each. -/
theorem characters_length (frame : List Byte) : (frame.flatMap characterBits).length = 10 * frame.length := by
  induction frame with
  | nil => rfl
  | cons byte rest ih =>
    rw [List.flatMap_cons, List.length_append, ih, List.length_cons]
    simp [characterBits]
    omega

theorem characterBits_get (byte : Byte) {k : Nat} (h : k < 10) : (characterBits byte).getD k idleLevel =
    if k = 0 then false else if k = 9 then true else byte.getLsbD (k - 1) := by
  rw [characterBits_eq]
  interval_cases k <;> rfl

theorem characters_get (frame : List Byte) {i k : Nat} {byte : Byte} (hi : frame[i]? = some byte) (hk : k < 10) :
    (frame.flatMap characterBits).getD (10 * i + k) idleLevel = (characterBits byte).getD k idleLevel := by
  induction frame generalizing i with
  | nil => nomatch hi
  | cons first rest ih =>
    have ten : (characterBits first).length = 10 := by simp [characterBits]
    rw [List.flatMap_cons]
    cases i with
    | zero =>
      cases Option.some.inj hi
      rw [List.getD_append _ _ _ _ (by omega), Nat.mul_zero, Nat.zero_add]
    | succ i =>
      rw [List.getD_append_right _ _ _ _ (by omega), ten]
      have rest' : 10 * (i + 1) + k - 10 = 10 * i + k := by omega
      rw [rest']
      exact ih hi

theorem Channel.openSwitch_switch (c : Channel) : c.openSwitch.switch = .opened := by
  by_cases shut : c.switch = .opened
  · rw [c.openSwitch_opened shut, shut]
  · rw [c.openSwitch_eq shut]

theorem Channel.excursion_opened (c : Channel) {level mA : Nat} (armed : c.tripLevel = some level) (above : level < mA) :
    (c.excursion mA).switch = .opened := by
  rw [c.excursion_eq armed, if_pos above]
  exact c.openSwitch_switch

end Sys2Proof.Machine
end

section
/-! The statement about the event queue and the outputs, settled. -/

namespace Sys2Proof.Machine

/-- Settles O52: the queue in closed form, and each output by the part of the state it follows. -/
theorem eventsQueueAndOutputsFollow : Obligations.EventsQueueAndOutputsFollow := by
  intro es straps b f level mA n r s room kinds
  refine ⟨s.raiseAll_eq es, rfl, s.alert_iff, s.pen_iff b, ?_, fun hr payload some' most => ?_, fun armed above => ?_,
    fun agrees => ?_, fun frame action i k byte sending high at' within => ?_, fun frame action k sending past => ?_,
    fun k silent => s.mtx_of_not_mde silent k, fun low => ?_, fun high => ?_, fun agrees => (agrees.1 f).1⟩
  · have held : exec (.resetAsserted straps) s = .next ((s.coldStart straps).putReset true) := rfl
    have records := s.coldStart_records straps
    have opened := s.coldStart_opened straps
    generalize s.coldStart straps = c at held records opened
    have silent : (c.putReset true).alert = false := Bool.eq_false_iff.2 fun h => nomatch (State.alert_iff _).1 h
    refine ⟨c.putReset true, held, silent, fun d => State.pen_of_low _ d rfl, ?_⟩
    exact ⟨((c.putReset true).putPending []).putReset false, step_of_empty _ rfl, (State.alert_iff _).2 ⟨records, rfl⟩,
      fun d => State.pen_of_opened _ d (opened d)⟩
  · refine ⟨_, ((unitRequestsActOrWait n 0 r s hr).1 payload).2 some' most, ?_⟩
    rw [State.alert_iff]
    show s.events.records.drop n.toNat ≠ [] ∧ _ ↔ _
    rw [Ne, List.drop_eq_nil_iff, Nat.not_le]
    rfl
  · refine ⟨s.putChan b ((s.chan b).excursion mA), rfl, State.pen_of_opened _ b ?_⟩
    rw [State.chan_putChan, if_pos rfl]
    exact (s.chan b).excursion_opened armed above
  · rw [s.mde_iff, agrees.1]
  · rw [State.mtx, s.transmission_of_sending sending high]
    exact (characters_get frame at' within).trans (characterBits_get byte within)
  · cases low : s.resetLow with
    | true => exact s.mtx_of_not_mde (Bool.eq_false_iff.2 fun h => nomatch low.symm.trans (s.mde_iff.1 h).2) k
    | false =>
      rw [State.mtx, s.transmission_of_sending sending low]
      exact List.getD_eq_default _ _ (by rw [characters_length]; exact past)
  · simp [State.latnOut, State.lactOut, State.elfOut, State.ellOut, low]
  · simp [State.latnOut, State.lactOut, State.elfOut, State.ellOut, high, State.bayLights]

end Sys2Proof.Machine
end

section
/-! SUPPORT. The answers of the reading requests, in the fields the statements write (R179, R183, R186, R187). -/

namespace Sys2Proof.Machine

variable (s : State)

/-! ## What a reply leaves as it was -/

theorem State.listening_airInput (z : Zone) : s.listening.airInput z = s.airInput z := rfl
theorem State.listening_highestFresh (z : Zone) : s.listening.highestFresh z = s.highestFresh z := rfl
theorem State.listening_airTerm (z : Zone) : s.listening.airTerm z = s.airTerm z := rfl
theorem State.listening_driveTerm (z : Zone) : s.listening.driveTerm z = s.driveTerm z := rfl
theorem State.listening_heatAdder (z : Zone) : s.listening.heatAdder z = s.heatAdder z := rfl
theorem State.listening_zoneTarget (z : Zone) : s.listening.zoneTarget z = s.zoneTarget z := rfl
theorem State.listening_resolved (b : Bay) : s.listening.resolved b = s.resolved b := rfl
theorem State.listening_causes : s.listening.faultCauses = s.faultCauses := rfl

/-! ## Codes and flags -/

theorem byteOrFF_eq_byteOrNone {α : Type} (o : Option α) (f : α → Nat) :
    [byteOrFF (o.map fun x => BitVec.ofNat 8 (f x))] = byteOrNone (o.map f) := by
  cases o with
  | none => rfl
  | some x => exact u8_eq_oneByte (f x)

theorem EntryKind.byte_eq (k : EntryKind) : [k.byte] = oneByte (decide (k = .wake)).toNat := by cases k <;> rfl

theorem EntryKind.byteOrFF_eq {α : Type} (o : Option α) (f : α → EntryKind) :
    [byteOrFF (o.map fun x => (f x).byte)] = byteOrNone (o.map fun x => if f x = .wake then 1 else 0) := by
  cases o with
  | none => rfl
  | some x =>
    show [(f x).byte] = oneByte (if f x = .wake then 1 else 0)
    cases f x <;> rfl

theorem Policy.byte_eq (p : Policy) : [p.byte] = oneByte (decide (p = .hold)).toNat := by cases p <;> rfl

theorem SupplyPolicy.byte_eq (p : SupplyPolicy) : [p.byte] = oneByte (decide (p = .redundant)).toNat := by cases p <;> rfl

theorem Zone.byte_eq (z : Zone) : [z.byte] = oneByte z.number.val := by cases z <;> rfl

theorem outcomeByte_eq (o : Option SpinOutcome) : outcomeByte o = (o.map SpinOutcome.byte).getD 0xff := rfl

theorem rpmField_eq (rpm : Nat) : rpmField rpm = twoBytes (if rpm < 65536 then rpm else (Config.wideRpmField rpm).toNat) := by
  unfold rpmField
  split
  · exact u16_eq_twoBytes _
  · exact u16_eq_twoBytes _

/-! ## The tables of Chapter 10 -/

theorem State.zoneBytes_eq : s.listening.zoneBytes = fun z => tempByte (s.airInput z) ++
    tempByte (s.highestFresh z) ++ oneByte (s.airTerm z) ++ oneByte (s.driveTerm z) ++ twoBytes (s.heatAdder z) ++
    oneByte (s.zoneTarget z) ++ oneByte (s.zone z).duty ++ [(s.zone z).thermal.byte] := by
  funext z
  simp only [State.zoneBytes, tempOr7F_eq_tempByte, u8_eq_oneByte, u16_eq_twoBytes, State.listening_airInput,
    State.listening_highestFresh, State.listening_airTerm, State.listening_driveTerm, State.listening_heatAdder,
    State.listening_zoneTarget]
  rfl

theorem State.fanBytes_eq : s.listening.fanBytes = fun f => [(s.fan f).state.byte] ++ oneByte (s.fan f).duty ++
    twoBytes (if (s.fan f).rpm < 65536 then (s.fan f).rpm else (Config.wideRpmField (s.fan f).rpm).toNat) ++
    oneByte ((s.fan f).low + 16 * (s.fan f).good) ++ twoBytes (s.cfg.fans.get f).minRpm ++ oneByte (s.cfg.fans.get f).ppr ++
    twoBytes (s.cfg.fans.get f).idle ++ twoBytes (s.cfg.fans.get f).full := by
  funext f
  simp only [State.fanBytes, u8_eq_oneByte, u16_eq_twoBytes, rpmField_eq]
  rfl

theorem SensorRecord.bytes_eq (k : SensorRecord) : k.bytes = [k.state.byte] ++ tempByte k.held ++ oneByte k.failures := by
  simp only [SensorRecord.bytes, tempOr7F_eq_tempByte, u8_eq_oneByte]

theorem reportBytes_eq (o : Option DriveReport) : reportBytes o =
    tempByte (o.map fun y => y.temp) ++ twoOrNone (o.bind fun y => y.age) := by
  simp only [reportBytes, tempOr7F_eq_tempByte, u16OrFFFF_eq_twoOrNone]

theorem CoolingCommon.bytes_eq (c : CoolingCommon) : c.bytes = curveFields c.driveCurve ++ oneByte c.floorDuty ++
    oneByte c.staleDuty ++ oneByte c.failoverDuty ++ tempByte (some c.airWarning) ++ tempByte (some c.airCritical) ++
    tempByte (some c.driveWarning) ++ tempByte (some c.driveCritical) ++ twoBytes c.windowMs := by
  simp only [CoolingCommon.bytes, Curve.bytes_eq_fields, u8_eq_oneByte, s8_eq_tempByte, u16_eq_twoBytes]

theorem SlotLines.condition_byte (l : SlotLines) : l.condition.byte.toNat =
    if l.present.accepted = false then 0 else if l.good.accepted = false then 1 else 2 := by
  unfold SlotLines.condition
  cases l.present.accepted <;> cases l.good.accepted <;> rfl

theorem State.slotBytes_eq : s.listening.slotBytes = fun k => fourBytes (s.cfg.supply.capacities.get k) ++
    oneByte ((s.budget.slots.get k).present.accepted.toNat + 2 * (s.budget.slots.get k).good.accepted.toNat +
      16 * (if (s.budget.slots.get k).present.accepted = false then 0
        else if (s.budget.slots.get k).good.accepted = false then 1 else 2)) := by
  funext k
  simp only [State.slotBytes, u32_eq_fourBytes, u8_eq_oneByte, SlotLines.condition_byte, bitSet, List.foldr_cons,
    List.foldr_nil, Nat.mul_zero, Nat.add_zero]
  rfl

theorem bayPlaces_eq (bays : List Bay) :
    bayPlaces bays = bays.flatMap (fun b => oneByte b.val) ++ List.replicate (24 - bays.length) 0xff := by
  have each : (fun b : Bay => oneByte b.val) = fun b => [BitVec.ofNat 8 b.val] :=
    funext fun b => (u8_eq_oneByte b.val).symm
  rw [bayPlaces, each, List.map_eq_flatMap]

theorem FanView.price_eq (v : FanView) : v.price = match v.state with
    | .running | .checking => v.idle + (v.full - v.idle) * (v.duty * v.duty * v.duty) / 1000000
    | .failed => v.full
    | .absent => 0 := by
  have cube : v.duty ^ 3 = v.duty * v.duty * v.duty := by rw [Nat.pow_succ, Nat.pow_two]
  obtain ⟨state, duty, idle, full⟩ := v
  cases state <;> simp only [FanView.price, FanView.priceAt, cube]

theorem AdmissionParams.bytes_eq (x : AdmissionParams) : x.bytes = oneByte x.k ++ twoBytes x.stagger ++
    oneByte x.bypassLimit ++ oneByte x.retryLimit ++ twoBytes x.grantWindow := by
  simp only [AdmissionParams.bytes, u8_eq_oneByte, u16_eq_twoBytes]

theorem QueueEntry.bytes_eq : QueueEntry.bytes = fun e => oneByte e.bay.val ++ oneByte (decide (e.kind = .wake)).toNat ++
    oneByte e.cls.val ++ fourBytes e.joinTime.toNat ++ oneByte e.bypass := by
  funext e
  simp only [QueueEntry.bytes, u8_eq_oneByte, u32_eq_fourBytes, EntryKind.byte_eq]

theorem bayAndPrice_eq (o : Option (Bay × Nat)) : bayAndPrice o =
    byteOrNone (o.map fun y => y.1.val) ++ twoOrNone (o.map fun y => y.2) := by
  rw [bayAndPrice, byteOrFF_eq_byteOrNone, u16OrFFFF_eq_twoOrNone]

theorem lastPassBytes_eq (o : Option PassRecord) : lastPassBytes o = match o with
    | none => [0] ++ List.replicate 15 0xff
    | some p => [1] ++ fourBytes p.time.toNat ++ [p.result.byte] ++
        (byteOrNone (p.head.map fun y => y.1.val) ++ twoOrNone (p.head.map fun y => y.2)) ++
        (byteOrNone (p.granted.map fun y => y.1.val) ++ twoOrNone (p.granted.map fun y => y.2)) ++ signedBytes p.headroom := by
  cases o with
  | none => rfl
  | some p =>
    simp only [lastPassBytes, u32_eq_fourBytes, bayAndPrice_eq, s32_eq_signedBytes]
    rfl

theorem QuarantineEntry.bytes_eq : QuarantineEntry.bytes = fun e => oneByte e.bay.val ++
    byteOrNone (e.code.map fun c => c.val) ++ [e.reason.byte] ++ oneByte e.failCount ++ fourBytes e.time.toNat := by
  funext e
  simp only [QuarantineEntry.bytes, u8_eq_oneByte, codeByte_eq_byteOrNone, u32_eq_fourBytes]

/-- A set of bits as the number whose places they are. -/
theorem conditionBits_eq (l : BayLights) : conditionBits l = (([0, 1, 2, 3, 4, 5, 6, 7, 8] : List (Fin 9)).map
    (fun c => if l.conditions.get c = true then 2 ^ c.val else 0)).sum := by
  have place (v : Bool) (n : Nat) : (if v = true then 2 ^ n else 0) = 2 ^ n * v.toNat := by cases v <;> simp
  simp only [conditionBits, allConditions, bitSet, List.map_cons, List.map_nil, List.foldr_cons, List.foldr_nil,
    List.sum_cons, List.sum_nil, place]
  show _ = 1 * _ + (2 * _ + (4 * _ + (8 * _ + (16 * _ + (32 * _ + (64 * _ + (128 * _ + (256 * _ + 0))))))))
  omega

theorem snapshotBytes_eq (o : Option Profile) : snapshotBytes o = match o with
    | some p => profileFields p
    | none => List.replicate 13 0 := by
  cases o with
  | none => rfl
  | some p => exact p.bytes_eq_fields

theorem State.anyRamping : (allBays.any fun b => (s.bay b).state == .ramping) = decide (∃ b, (s.bay b).state = .ramping) := by
  rw [Bool.eq_iff_iff, List.any_eq_true, decide_eq_true_iff]
  exact ⟨fun ⟨b, _, h⟩ => ⟨b, beq_iff_eq.1 h⟩, fun ⟨b, h⟩ => ⟨b, mem_allBays b, beq_iff_eq.2 h⟩⟩

theorem patterns_toList (x : Table (BitVec 8) 4) : x.toList = [x.get 0, x.get 1, x.get 2, x.get 3] := by
  obtain ⟨⟨l⟩, size⟩ := x
  match l, size with
  | [_, _, _, _], _ => rfl

theorem allPatterns_eq (c : Settings) : allPatterns.map c.pattern = [0x00, 0xff, 0x0f, 0x55] ++ c.patterns.toList := by
  rw [patterns_toList]
  rfl

theorem State.listening_bayBytes (b : Bay) : s.listening.bayBytes b = s.bayBytes b := rfl

theorem State.shownPattern_val (b : Bay) : (s.shownPattern b).val = match s.resolved b with
    | some c => (s.cfg.assign.get c).val
    | none => 0 := by
  unfold State.shownPattern
  cases s.resolved b <;> rfl

theorem State.bayBytes_eq (b : Bay) : s.bayBytes b = oneByte b.val ++ [(s.bay b).state.byte] ++
    byteOrNone ((s.bay b).code.map fun c => c.val) ++ byteOrNone ((s.bay b).profileIndex.map fun i => i.val) ++
    oneByte (decide ((s.baySettings b).policy = .hold)).toNat ++ oneByte (s.baySettings b).cls.val ++
    oneByte (s.baySettings b).zone.number.val ++
    oneByte ((s.bay b).removalPrepared.toNat + 2 * (s.isQuarantined b).toNat + 4 * (s.bay b).snapshot.isSome.toNat +
      8 * (s.bay b).settling.toNat + 16 * (s.bay b).partialReported.toNat) ++
    oneByte (s.bay b).failCount ++ [outcomeByte (s.bay b).latest, outcomeByte (s.bay b).previous] ++
    twoBytes (s.chan b).live ++ twoBytes (s.chan b).peak ++ twoOrNone (s.bay b).timer ++
    twoBytes (s.budget.commitments.get b) ++ snapshotBytes (s.bay b).snapshot ++
    twoBytes (conditionBits (s.bayLights b)) ++ byteOrNone ((s.resolved b).map fun c => c.val) ++
    oneByte (match s.resolved b with | some c => (s.cfg.assign.get c).val | none => 0) ++
    [(s.bay b).state.actSource.byte] := by
  have flags (p q r t u : Bool) :
      bitSet [p, q, r, t, u] = p.toNat + 2 * q.toNat + 4 * r.toNat + 8 * t.toNat + 16 * u.toNat := by
    simp only [bitSet, List.foldr_cons, List.foldr_nil]
    omega
  have zone : s.zoneOf b = (s.baySettings b).zone := rfl
  rw [← Policy.byte_eq, ← Zone.byte_eq, ← codeByte_eq_byteOrNone, ← codeByte_eq_byteOrNone, ← codeByte_eq_byteOrNone,
    ← s.shownPattern_val b]
  simp only [State.bayBytes, u8_eq_oneByte, u16_eq_twoBytes, u16OrFFFF_eq_twoOrNone, flags, zone, List.append_assoc,
    List.cons_append, List.nil_append]

/-- The causes as UNIT_INFO sends them: six bits, and the fault state where any is set. -/
theorem faultCauses_bits : bitSet s.faultCauses < 64 ∧
    (∀ i : Fin 6, (bitSet s.faultCauses).testBit i.val = true ↔ FaultCause s i) ∧
    s.enclosureFault = decide (bitSet s.faultCauses ≠ 0) := by
  have bits : ∀ a b c d e f : Bool, bitSet [a, b, c, d, e, f] < 64 ∧
      (∀ i : Fin 6, (bitSet [a, b, c, d, e, f]).testBit i.val = [a, b, c, d, e, f].getD i.val false) ∧
      [a, b, c, d, e, f].any id = decide (bitSet [a, b, c, d, e, f] ≠ 0) := by decide
  obtain ⟨small, each, any⟩ := bits s.causeBay s.causeFan s.causeSensor s.causeSlot s.causeZone s.budget.overcommitted
  exact ⟨small, fun i => (Bool.eq_iff_iff.1 (each i)).trans (faultCause_iff s i), any⟩

end Sys2Proof.Machine
end

section
/-! The statement about the reading requests, settled. -/

namespace Sys2Proof.Machine

theorem Reaches.exec_reads {r : Request} {s : State} {k : RequestKind} {p body read : List Byte} (h : Reaches r s)
    (payload : r.payload = p) (permitted : k.lengthOk p = true)
    (answers : s.listening.dispatch k p = reads s.listening read) (same : read = body) :
    exec (.badKind k.byte r) s = .next (s.listening.replying k.byte r.tag .ok body) :=
  h.exec_answers payload permitted (answers.trans (congrArg (fun b => (s.listening, answer .ok b)) same))

/-- Settles O40: each table's fields as the model answers them, put in the statement's bytes. -/
theorem readsAnswerWithoutChange : Obligations.ReadsAnswerWithoutChange := by
  intro r s reads flag bayNumber x a common price condition admission priced conditions
  refine ⟨rfl, rfl, rfl, rfl, rfl, rfl, rfl, rfl, fun hr => ⟨fun payload => ⟨?_, ?_, ?_, ?_, ?_, ?_⟩, fun b payload => ?_,
    fun n payload beyond => ?_⟩⟩
  · obtain ⟨small, each, any⟩ := faultCauses_bits s
    refine ⟨bitSet s.faultCauses, small, each, hr.exec_reads (k := .unitInfo) payload rfl rfl ?_⟩
    have fault : s.listening.enclosureFault = decide (bitSet s.faultCauses ≠ 0) := any
    simp only [u8_eq_oneByte, u32_eq_fourBytes, flag8_eq_oneByte, fault, s.listening_causes, allPatterns_eq, flag,
      conditions, List.append_assoc]
    simp only [State.listening, State.putLink_cfg, State.putLink_time, State.putLink_events, State.putLink_store,
      State.putLink_lights, State.putLink_link, allConditions]
  · exact hr.exec_reads (k := .baySummary) payload rfl rfl rfl
  · refine hr.exec_reads (k := .coolingStatus) payload rfl rfl ?_
    simp only [s.zoneBytes_eq, s.fanBytes_eq, SensorRecord.bytes_eq, reportBytes_eq, Curve.bytes_eq_fields,
      CoolingCommon.bytes_eq, u16OrFFFF_eq_twoOrNone, common, List.append_assoc]
    have curves : allZones.flatMap (fun z => curveFields (s.cfg.airCurves.get z.number)) =
      ([0, 1, 2] : List (Fin 3)).flatMap (fun i => curveFields (s.cfg.airCurves.get i)) := rfl
    simp only [State.listening, State.putLink_cfg, State.putLink_cooling, curves]
    simp only [allZones, allFans, allSensors]
  · refine hr.exec_reads (k := .budgetStatus) payload rfl rfl ?_
    simp only [s.slotBytes_eq, u8_eq_oneByte, u16_eq_twoBytes, u32_eq_fourBytes, s32_eq_signedBytes, flag8_eq_oneByte,
      SupplyPolicy.byte_eq, FanView.price_eq, bayPlaces_eq, byteOrFF_eq_byteOrNone, List.length_reverse, flag, x, price,
      condition, bayNumber, List.append_assoc]
    simp only [State.listening, State.putLink_cfg, State.putLink_budget, allSlots, allFans, Budget.committed] <;> rfl
  · refine hr.exec_reads (k := .queueStatus) payload rfl rfl ?_
    have ramping : (allBays.any fun b => (s.listening.bay b).state == .ramping) =
      decide (∃ b, (s.bay b).state = .ramping) := s.anyRamping
    have record : [byteOrFF (a.grantRecord.map fun g => BitVec.ofNat 8 g.bay.val),
        byteOrFF (a.grantRecord.map fun g => g.kind.byte)] = byteOrNone (a.grantRecord.map fun g => g.bay.val) ++
          byteOrNone (a.grantRecord.map fun g => if g.kind = .wake then 1 else 0) := by
      rw [← byteOrFF_eq_byteOrNone, ← EntryKind.byteOrFF_eq a.grantRecord GrantRecord.kind]
      rfl
    have arbiter : s.listening.arbiter = a := rfl
    have settings : s.listening.cfg = s.cfg := rfl
    simp only [AdmissionParams.bytes_eq, QueueEntry.bytes_eq, u8_eq_oneByte, u16OrFFFF_eq_twoOrNone, flag8_eq_oneByte,
      lastPassBytes_eq, flag, arbiter, settings, ramping, record, admission, priced, List.append_assoc] <;> rfl
  · refine hr.exec_reads (k := .quarantineList) payload rfl rfl ?_
    simp only [u8_eq_oneByte, QuarantineEntry.bytes_eq]
    rfl
  · intro v held
    refine ⟨s.resolved b, s.resolved_iff b, hr.exec_reads (k := .bayStatus) payload rfl
      (read := s.listening.bayBytes b) ?_ ?_⟩
    · have named : bayOfNumber (byteAt [BitVec.ofNat 8 b.val] 0) = some b :=
        bayOfNumber_byte (Nat.mod_eq_of_lt (by omega))
      simp only [State.dispatch, State.bayStatus, named]
    · rw [s.listening_bayBytes]
      simp only [State.bayBytes_eq, conditionBits_eq, snapshotBytes_eq, BayState.actSource_byte, outcomeByte_eq, flag,
        conditions, held, v, x] <;> rfl
  · refine hr.exec_answers (k := .bayStatus) payload rfl ?_
    have none' : bayOfNumber (byteAt [n] 0) = none := bayOfNumber_eq_none beyond
    simp only [State.dispatch, State.bayStatus, none']
    rfl

end Sys2Proof.Machine
end

section
/-! SUPPORT. One recomputation, taken whole (R65 to R68). -/

namespace Sys2Proof.Machine

variable (s : State)

/-- A recomputation with these events queued ahead of the budget's own. -/
def State.recomputeAfter (s : State) (first : List Event) : State :=
  ((s.withFigures.raiseAll first).budgetState).revocationStep.budgetTriggers s.budget.figures

theorem State.recompute_eq_after : s.recompute = s.recomputeAfter [] := rfl

theorem State.recomputeForSlot_eq_after (k : Slot) : s.recomputeForSlot k = s.recomputeAfter
    [⟨.psuChange, .slot k, some (s.budget.slots.get k).condition.byte, some s.formFigures.effective⟩] := rfl

theorem State.triggerIf_eq_put (c : Bool) : s.triggerIf c = s.putArbiter (s.triggerIf c).arbiter := by
  unfold State.triggerIf
  split
  · rfl
  · rfl

/-- The triggers of a recomputation touch the arbiter alone. -/
theorem State.budgetTriggers_eq_put (x : Figures) : s.budgetTriggers x = s.putArbiter (s.budgetTriggers x).arbiter := by
  have first := s.triggerIf_eq_put (decide (s.budget.figures.load < x.load))
  have second := (s.triggerIf (decide (s.budget.figures.load < x.load))).triggerIf_eq_put
    (decide (x.effective < s.budget.figures.effective))
  rw [State.budgetTriggers]
  generalize State.triggerIf (s.triggerIf _) _ = t at *
  generalize s.triggerIf _ = u at *
  rw [second, first]
  rfl

theorem State.revocationStep_asks {b : Bay} (over' : s.budget.overcommitted = true) (none' : s.budget.outstanding = none)
    (newest : s.budget.grantOrder.getLast? = some b) : s.revocationStep = s.putBudget { s.budget with
      outstanding := some b
      revocations := s.budget.revocations ++ [⟨b, s.budget.figures.headroom, false⟩] } := by
  rw [State.revocationStep, if_pos ⟨over', none'⟩, newest]

theorem State.revocationStep_stands (h : s.budget.overcommitted = false ∨ s.budget.outstanding.isSome = true ∨
    s.budget.grantOrder = []) : s.revocationStep = s := by
  rw [State.revocationStep]
  split
  · rename_i asks
    obtain ⟨over', none'⟩ := asks
    rcases h with h | h | h
    · rw [over'] at h; cases h
    · rw [none'] at h; cases h
    · rw [h]; rfl
  · rfl

theorem State.revocationStep_fanViews : s.revocationStep.budget.fanViews = s.budget.fanViews := by
  unfold State.revocationStep
  split
  · split <;> rfl
  · rfl

/-- The part before its triggers: what a recomputation does to the figures, the budget state, the events and the
revocations. -/
def State.recomputed (s : State) (first : List Event) : State :=
  ((s.withFigures.raiseAll first).budgetState).revocationStep

theorem State.recomputed_arbiter (first : List Event) : (s.recomputed first).arbiter = s.arbiter := by
  simp [State.recomputed]

theorem State.recomputed_figures (first : List Event) : (s.recomputed first).budget.figures = s.formFigures := by
  simp [State.recomputed]

theorem State.recomputed_overcommitted (first : List Event) :
    (s.recomputed first).budget.overcommitted = decide (s.formFigures.headroom < 0) := by
  simp [State.recomputed, State.budgetState_eq]

theorem State.recomputed_fanViews (first : List Event) : (s.recomputed first).budget.fanViews = s.budget.fanViews := by
  rw [State.recomputed, State.revocationStep_fanViews, State.budgetState_eq]
  simp

/-- The revocation step of a recomputation finds the new figures and budget state, and the revocations as they stood. -/
theorem State.recomputed_revocations (first : List Event) :
    (∀ b, s.formFigures.headroom < 0 → s.budget.outstanding = none → s.budget.grantOrder.getLast? = some b →
      (s.recomputed first).budget.outstanding = some b ∧
        (s.recomputed first).budget.revocations = s.budget.revocations ++ [⟨b, s.formFigures.headroom, false⟩]) ∧
    ((0 ≤ s.formFigures.headroom ∨ s.budget.outstanding.isSome = true ∨ s.budget.grantOrder = []) →
      (s.recomputed first).budget.outstanding = s.budget.outstanding ∧
        (s.recomputed first).budget.revocations = s.budget.revocations) := by
  obtain ⟨u, hu⟩ : ∃ u, u = (s.withFigures.raiseAll first).budgetState := ⟨_, rfl⟩
  have step : s.recomputed first = u.revocationStep := by rw [hu, State.recomputed]
  have state : u.budget.overcommitted = decide (s.formFigures.headroom < 0) := by simp [hu, State.budgetState_eq]
  have figures : u.budget.figures = s.formFigures := by simp [hu]
  have outstanding : u.budget.outstanding = s.budget.outstanding := by simp [hu, State.budgetState_eq]
  have order : u.budget.grantOrder = s.budget.grantOrder := by simp [hu, State.budgetState_eq]
  have sent : u.budget.revocations = s.budget.revocations := by simp [hu, State.budgetState_eq]
  rw [step]
  refine ⟨fun b short idle newest => ?_, fun stands => ?_⟩
  · rw [u.revocationStep_asks (state.trans (decide_eq_true short)) (outstanding.trans idle) (order ▸ newest), ← sent,
      ← figures]
    exact ⟨rfl, rfl⟩
  · rw [u.revocationStep_stands ?_]
    · exact ⟨outstanding, sent⟩
    · rw [state, outstanding, order]
      exact stands.imp_left fun h => decide_eq_false (not_lt.2 h)

theorem State.recomputed_events (first : List Event) : (s.recomputed first).events =
    (s.raiseAll (first ++ budgetChange s.budget.overcommitted s.formFigures.headroom)).events := by
  rw [State.recomputed, State.revocationStep_events, State.budgetState_events, State.raiseAll_budget, ← State.raiseAll_append]
  exact State.raiseAll_events_congr (State.withFigures_events s) (State.withFigures_time s) _

/-- A recomputation settles, and does what R65 to R68 say. -/
theorem State.recomputeAfter_recomputed (first : List Event) (settles : Settles s (s.recomputeAfter first)) :
    Recomputed first s (s.recomputeAfter first) := by
  have put : s.recomputeAfter first = (s.recomputed first).putArbiter (s.recomputeAfter first).arbiter :=
    State.budgetTriggers_eq_put _ _
  have budget : (s.recomputeAfter first).budget = (s.recomputed first).budget := (congrArg State.budget put).trans (State.putArbiter_budget ..)
  have before : (s.recomputeAfter first).putArbiter s.arbiter = s.recomputed first := by
    rw [put, ← s.recomputed_arbiter first]
    rfl
  have figures : (s.recomputed first).budget.figures = s.formFigures := s.recomputed_figures first
  have triggers : s.recomputeAfter first = ((s.recomputed first).triggerIf
      (decide (s.formFigures.load < s.budget.figures.load))).triggerIf
        (decide (s.budget.figures.effective < s.formFigures.effective)) := by
    rw [← figures]
    rfl
  obtain ⟨asked, stood⟩ := s.recomputed_revocations first
  refine ⟨settles, ?_, ?_, budget ▸ figures, ?_, ?_, budget ▸ asked, budget ▸ stood, fun load supply => ?_,
    fun moves => ?_⟩
  · rw [put, State.putArbiter_cooling]
    simp [State.recomputed]
  · rw [budget, s.recomputed_fanViews]
  · rw [budget, s.recomputed_overcommitted]
  · rw [put, State.putArbiter_events, s.recomputed_events]
  · rw [budget, figures] at load supply
    rw [triggers, decide_eq_false (Nat.not_lt.2 load), decide_eq_false (Nat.not_lt.2 supply)]
    exact s.recomputed_arbiter first
  · rw [before]
    by_cases falls : s.formFigures.load < s.budget.figures.load
    · by_cases rises : s.budget.figures.effective < s.formFigures.effective
      · rw [triggers, decide_eq_true falls, decide_eq_true rises]
        exact .inr ⟨falls, rises, _, State.trigger_passTaken _, State.trigger_passTaken _⟩
      · rw [triggers, decide_eq_true falls, decide_eq_false rises]
        exact .inl (State.trigger_passTaken _)
    · rw [triggers, decide_eq_false falls, decide_eq_true (moves.resolve_left falls)]
      exact .inl (State.trigger_passTaken _)

theorem State.recompute_recomputed : Recomputed [] s s.recompute :=
  s.recompute_eq_after ▸ s.recomputeAfter_recomputed [] s.recompute_settles

end Sys2Proof.Machine
end

section
/-! SUPPORT. The accepted supply lines (R53, R54), and the parameters of SET_SUPPLY in bytes (R58, R186). -/

namespace Sys2Proof.Machine

theorem SlotLines.acceptLines_eq (l : SlotLines) (lines : PsuLines) : l.acceptLines lines =
    ⟨if lines = .good then l.present else l.present.accept, if lines = .present then l.good else l.good.accept⟩ := by
  cases lines <;> rfl

theorem SlotLines.condition_byte_eq (l : SlotLines) : l.condition.byte =
    if l.present.accepted = false then 0 else if l.good.accepted = false then 1 else 2 := by
  unfold SlotLines.condition
  cases l.present.accepted <;> cases l.good.accepted <;> rfl

theorem u32_eq_mod (n : Nat) : u32 n = [BitVec.ofNat 8 (n % 65536 % 256), BitVec.ofNat 8 (n % 65536 / 256 % 256),
    BitVec.ofNat 8 (n / 65536 % 256), BitVec.ofNat 8 (n / 65536 / 256 % 256)] := by
  have b0 : BitVec.ofNat 8 n = BitVec.ofNat 8 (n % 65536 % 256) :=
    BitVec.eq_of_toNat_eq (by simp only [BitVec.toNat_ofNat]; omega)
  have b1 : BitVec.ofNat 8 (n / 256) = BitVec.ofNat 8 (n % 65536 / 256 % 256) :=
    BitVec.eq_of_toNat_eq (by simp only [BitVec.toNat_ofNat]; omega)
  have b2 : BitVec.ofNat 8 (n / 65536) = BitVec.ofNat 8 (n / 65536 % 256) :=
    BitVec.eq_of_toNat_eq (by simp only [BitVec.toNat_ofNat]; omega)
  have b3 : BitVec.ofNat 8 (n / 16777216) = BitVec.ofNat 8 (n / 65536 / 256 % 256) :=
    BitVec.eq_of_toNat_eq (by simp only [BitVec.toNat_ofNat]; omega)
  rw [u32, b0, b1, b2, b3]

/-- The four bytes a number below 4,294,967,296 is sent in are read back as that number. -/
theorem toNat_four_bytes {n : Nat} (h : n < 4294967296) :
    (BitVec.ofNat 8 (n % 65536 % 256)).toNat + 256 * (BitVec.ofNat 8 (n % 65536 / 256 % 256)).toNat +
      65536 * ((BitVec.ofNat 8 (n / 65536 % 256)).toNat + 256 * (BitVec.ofNat 8 (n / 65536 / 256 % 256)).toNat) = n := by
  simp only [BitVec.toNat_ofNat]
  omega

theorem capacities_eq_iff {a b c d a' b' c' d' : Nat} :
    (#v[a, b, c, d] = #v[a', b', c', d']) ↔ a = a' ∧ b = b' ∧ c = c' ∧ d = d' := by
  simp

end Sys2Proof.Machine
end

section
/-! The statements about the supply, settled. -/

namespace Sys2Proof.Machine

/-- Settles O24: the lines named are accepted, and a change recomputes with PSU_CHANGE queued first. -/
theorem supplyChangesRecompute : Obligations.SupplyChangesRecompute := by
  intro k lines s l ended l' u condition
  have accepted : l.acceptLines lines = l' := by
    rw [SlotLines.acceptLines_eq, FilteredLine.accept_eq, FilteredLine.accept_eq]
  have written : s.putSlot k (l.acceptLines lines) = u := by rw [accepted]; rfl
  have carried : exec (.supplyLineAccepted k lines) s = .next (if l'.present.accepted = l.present.accepted ∧
      l'.good.accepted = l.good.accepted then u else u.recomputeForSlot k) := by
    rw [← written, ← accepted]
    rfl
  refine ⟨fun present good => ?_, fun moved => ?_⟩
  · rw [carried, if_pos ⟨present, good⟩]
  · refine ⟨u.recomputeForSlot k, ?_, ?_⟩
    · rw [carried, if_neg (by tauto)]
    · have lines' : u.budget.slots.get k = l' := Table.get_put_self ..
      have settles := u.recomputeForSlot_settles k
      rw [State.recomputeForSlot_eq_after, lines', SlotLines.condition_byte_eq] at settles ⊢
      have recomputed := u.recomputeAfter_recomputed _ settles
      rwa [recomputed.figures]

/-- Settles O45: the parameters parsed, clamped and written, and one recomputation. -/
theorem setSupplyWritesAndRecomputes : Obligations.SetSupplyWritesAndRecomputes := by
  intro c0 c1 c2 c3 base policy derate r s two four small stored changed hr h0 h1 h2 h3 hb payload
  have length : r.payload.length = 20 := by rw [payload]; rfl
  have code : byteAt r.payload 16 = policy.toNat := by rw [payload]; rfl
  have permitted : RequestKind.lengthOk .setSupply r.payload = true := decide_eq_true length
  have sent : supplyAt r.payload =
      ⟨#v[c0, c1, c2, c3], if policy.toNat = 0 then .shared else .redundant, derate.toNat, base⟩ := by
    have b0 : u32At r.payload 0 = c0 := by rw [payload]; exact toNat_four_bytes h0
    have b1 : u32At r.payload 4 = c1 := by rw [payload]; exact toNat_four_bytes h1
    have b2 : u32At r.payload 8 = c2 := by rw [payload]; exact toNat_four_bytes h2
    have b3 : u32At r.payload 12 = c3 := by rw [payload]; exact toNat_four_bytes h3
    have b4 : byteAt r.payload 17 = derate.toNat := by rw [payload]; rfl
    have b5 : u16At r.payload 18 = base := by rw [payload]; exact toNat_two_bytes hb
    rw [supplyAt, b0, b1, b2, b3, b4, b5, code]
  refine ⟨fun named => ?_, fun bad => ?_⟩
  · have which : (if policy.toNat = 0 then SupplyPolicy.shared else .redundant) =
        if policy = 0 then .shared else .redundant := by
      rcases named with rfl | rfl <;> rfl
    rw [which] at sent
    have clamped : (supplyAt r.payload).clamped = stored := by rw [sent]; rfl
    have status : writtenStatus (stored != supplyAt r.payload) = clampedOr changed := by
      refine writtenStatus_eq_clampedOr ?_
      rw [sent, bne_iff_ne, Ne, SupplyParams.mk.injEq, capacities_eq_iff]
      simp only [changed, small, true_and]
      omega
    have bytes : stored.bytes = four (small c0) ++ four (small c1) ++ four (small c2) ++ four (small c3) ++
        [policy, BitVec.ofNat 8 stored.derate] ++ two stored.base := by
      have byte : stored.policy.byte = policy := by rcases named with rfl | rfl <;> rfl
      simp only [SupplyParams.bytes, allSlots, List.flatMap_cons, List.flatMap_nil, u32_eq_mod, u16_eq_mod, byte]
      rfl
    refine ⟨(s.listening.putCfg { s.cfg with supply := stored }).recompute,
      hr.exec_answers (k := .setSupply) rfl permitted ?_, State.recompute_recomputed _⟩
    have allowed : ¬ 1 < policy.toNat := by rcases named with rfl | rfl <;> decide
    simp only [State.dispatch, State.setSupply, code, if_neg allowed, clamped, status, bytes]
    rfl
  · refine hr.exec_answers (k := .setSupply) rfl permitted ?_
    simp only [State.dispatch, State.setSupply, code, if_pos bad]
    rfl

end Sys2Proof.Machine
end

section
/-! SUPPORT. Prices of queue entries (R78 to R80), the target of a zone (R135, R136), and grants that do not match (R24). -/

namespace Sys2Proof.Machine

variable (s : State)

/-! ## The target and the prices -/

theorem FanView.priceAt_eq (v : FanView) (duty : Nat) : v.priceAt duty = match v.state with
    | .running | .checking => v.idle + (v.full - v.idle) * (duty * duty * duty) / 1000000
    | .failed => v.full
    | .absent => 0 := by
  have cube : duty ^ 3 = duty * duty * duty := by rw [Nat.pow_succ, Nat.pow_two]
  obtain ⟨state, now, idle, full⟩ := v
  cases state <;> simp only [FanView.priceAt, cube]

theorem State.zoneFanFailed_iff (z : Zone) :
    s.zoneFanFailed z = true ↔ ∃ f, zoneOfFan f = z ∧ (s.fan f).state = .failed := by
  have fans : ∀ f, f ∈ z.fans ↔ zoneOfFan f = z := by
    cases z <;> decide
  rw [State.zoneFanFailed, List.any_eq_true]
  exact ⟨fun ⟨f, hf, h⟩ => ⟨f, (fans f).1 hf, beq_iff_eq.1 h⟩, fun ⟨f, hf, h⟩ => ⟨f, (fans f).2 hf, beq_iff_eq.2 h⟩⟩

theorem Zone.sensor_of_number {z : Zone} {k : Sensor} (h : k.val = z.number.val) : k = z.sensor := Fin.ext h

/-- The target while the zone's own sensor is FAILED (R135). -/
theorem State.targetWith_of_sensorFailed {z : Zone} (h : (s.cooling.sensors.get z.sensor).state = .failed) (heat : Nat) :
    s.targetWith z heat = 100 := by
  rw [State.targetWith]
  exact if_pos h

/-- The target while the zone's own sensor is not FAILED (R135, R136). -/
theorem State.targetWith_of_sensor {z : Zone} (h : (s.cooling.sensors.get z.sensor).state ≠ .failed) (heat : Nat) :
    s.targetWith z heat =
      let floored := max (min 100 (max (s.airTerm z) (s.driveTerm z) + (s.heatAdder z + heat))) s.cfg.common.floorDuty
      if s.zoneFanFailed z = true then max floored s.cfg.common.failoverDuty else floored := by
  rw [State.targetWith]
  exact if_neg h

/-- The fan term is the rise of the zone's two fans (R79). -/
theorem State.fanTerm_eq (z : Zone) : ∃ f g : Fan, f.val = 2 * z.number.val ∧ g.val = 2 * z.number.val + 1 ∧
    ∀ heat, s.fanTerm z heat =
      ((s.budget.fanViews.get f).priceAt (s.targetWith z heat) - (s.budget.fanViews.get f).priceAt (s.budget.fanViews.get f).duty) +
      ((s.budget.fanViews.get g).priceAt (s.targetWith z heat) - (s.budget.fanViews.get g).priceAt (s.budget.fanViews.get g).duty) := by
  have two (f g : Fan) (fans : z.fans = [f, g]) (heat : Nat) : s.fanTerm z heat =
      ((s.budget.fanViews.get f).priceAt (s.targetWith z heat) - (s.budget.fanViews.get f).priceAt (s.budget.fanViews.get f).duty) +
      ((s.budget.fanViews.get g).priceAt (s.targetWith z heat) - (s.budget.fanViews.get g).priceAt (s.budget.fanViews.get g).duty) := by
    simp only [State.fanTerm, fans, List.map_cons, List.map_nil, List.sum_cons, List.sum_nil, Nat.add_zero, FanView.price]
  cases z with
  | a => exact ⟨0, 1, rfl, rfl, two 0 1 rfl⟩
  | b => exact ⟨2, 3, rfl, rfl, two 2 3 rfl⟩
  | c => exact ⟨4, 5, rfl, rfl, two 4 5 rfl⟩

/-! ## Grants -/

theorem takeFirst_grant {b : Bay} {g : Grant} {pre post : List Grant} (here : s.arbiter.grants = pre ++ g :: post)
    (first : ∀ x ∈ pre, x.bay ≠ b) (hb : g.bay = b) :
    exec (.grantTaken b) s = .next ((s.putArbiter { s.arbiter with grants := pre ++ post }).grantReached g) := by
  have taken : takeFirst (fun g : Grant => g.bay == b) s.arbiter.grants = some (g, pre ++ post) :=
    here ▸ takeFirst_append (fun x hx => beq_eq_false_iff_ne.2 (first x hx)) (beq_iff_eq.2 hb)
  show execGrantTaken b s = _
  rw [execGrantTaken, taken]

theorem takeFirst_decline {b : Bay} {d : Decline} {pre post : List Decline} (here : s.arbiter.declines = pre ++ d :: post)
    (first : ∀ x ∈ pre, x.bay ≠ b) (hb : d.bay = b) :
    exec (.grantDecline b) s = .next ((s.putArbiter { s.arbiter with declines := pre ++ post }).declineTaken d) := by
  have taken : takeFirst (fun d : Decline => d.bay == b) s.arbiter.declines = some (d, pre ++ post) :=
    here ▸ takeFirst_append (fun x hx => beq_eq_false_iff_ne.2 (first x hx)) (beq_iff_eq.2 hb)
  show execGrantDecline b s = _
  rw [execGrantDecline, taken]

theorem takeFirst_revocation {b : Bay} {x : Revocation} {pre post : List Revocation}
    (here : s.budget.revocations = pre ++ x :: post) (first : ∀ y ∈ pre, y.bay ≠ b) (hb : x.bay = b) :
    exec (.revocationRequest b) s = .next ((s.putBudget { s.budget with revocations := pre ++ post }).revoked x) := by
  have taken : takeFirst (fun x : Revocation => x.bay == b) s.budget.revocations = some (x, pre ++ post) :=
    here ▸ takeFirst_append (fun y hy => beq_eq_false_iff_ne.2 (first y hy)) (beq_iff_eq.2 hb)
  show execRevocationRequest b s = _
  rw [execRevocationRequest, taken]

theorem State.takesGrant_eq_false {g : Grant} (h : g.stale = true ∨
    (∃ awaited, s.arbiter.grantRecord = some awaited ∧ awaited.removed = true) ∨
    (g.kind = .powerOn ∧ ((s.bay g.bay).state ≠ .queued ∨
      g.priced ≠ some ((s.profileOf g.bay).inrush, (s.profileOf g.bay).heat))) ∨
    (g.kind = .wake ∧ (s.bay g.bay).state ≠ .wakeQueued)) : s.takesGrant g = false := by
  rcases h with stale | ⟨awaited, record, removed⟩ | ⟨kind, other⟩ | ⟨kind, other⟩
  · simp [State.takesGrant, stale]
  · simp [State.takesGrant, record, removed]
  · rcases other with other | other <;> simp [State.takesGrant, kind, other]
  · simp [State.takesGrant, kind, other]

end Sys2Proof.Machine
end

section
/-! The statements about prices, declines and the stagger timer, settled. -/

namespace Sys2Proof.Machine

/-- Settles O22: the fan term of the zone's two fans at the hypothetical target. -/
theorem entryPriceIsBayTermPlusFanTerm : Obligations.EntryPriceIsBayTermPlusFanTerm := by
  intro e s zone current price common failed sensorFailed base target rise
  have target_eq (heat : Nat) : s.targetWith zone heat = target heat := by
    by_cases broken : (s.cooling.sensors.get zone.sensor).state = .failed
    · rw [s.targetWith_of_sensorFailed broken]
      exact (if_pos ⟨zone.sensor, rfl, broken⟩).symm
    · have sound : ¬ sensorFailed := fun ⟨k, own, h⟩ => broken (Zone.sensor_of_number own ▸ h)
      rw [s.targetWith_of_sensor broken]
      simp only [target, if_neg sound]
      by_cases fan : s.zoneFanFailed zone = true
      · rw [if_pos fan, if_pos ((s.zoneFanFailed_iff zone).1 fan)]
      · rw [if_neg fan, if_neg fun h => fan ((s.zoneFanFailed_iff zone).2 h)]
  obtain ⟨f, g, hf, hg, term⟩ := s.fanTerm_eq zone
  have rises (heat : Nat) : s.fanTerm zone heat = rise heat f + rise heat g := by
    rw [term heat, target_eq]
    simp only [FanView.priceAt_eq]
    rfl
  refine ⟨fun kind => ⟨f, g, hf, hg, ?_⟩, fun kind p snapshot => ⟨f, g, hf, hg, ?_⟩⟩
  · have priced : s.pricedBy e = current := by rw [State.pricedBy, kind]; rfl
    rw [State.price, State.bayTerm, kind, priced, rises]
  · have priced : s.pricedBy e = p := by simp [State.pricedBy, kind, BayRecord.snap, snapshot]
    rw [State.price, State.bayTerm, kind, priced, rises]

/-- Settles O21: a grant that does not match is sent back, and each trigger is taken as R81 to R86 say. -/
theorem declinesAndStaggerTriggerPasses : Obligations.DeclinesAndStaggerTriggerPasses := by
  intro b g stale pre post dpre dpost s p
  refine ⟨fun here first hb mismatch => ?_, fun here first => ⟨fun old => ?_, fun fresh => ?_⟩, fun running => ?_⟩
  · subst hb
    have declined : (s.putArbiter { s.arbiter with grants := pre ++ post }).takesGrant g = false :=
      State.takesGrant_eq_false _ mismatch
    rw [takeFirst_grant s here first rfl, State.grantReached, declined]
    rfl
  · rw [takeFirst_decline s here first rfl, State.declineTaken]
    exact congrArg Host.Outcome.next (if_pos old)
  · refine ⟨_, takeFirst_decline s here first rfl, ?_⟩
    subst fresh
    exact State.trigger_passTaken _
  · obtain ⟨left, timer⟩ := Option.isSome_iff_exists.1 running
    refine ⟨(s.putArbiter { s.arbiter with stagger := none }).trigger, ?_, State.trigger_passTaken _⟩
    show execStaggerExpiry s = _
    rw [execStaggerExpiry, timer]

end Sys2Proof.Machine
end

section
/-! SUPPORT. What a fan notice and a zone's target formed anew leave of one fan's view, of the figures and of the event
queue (R59, R65, R138). -/

namespace Sys2Proof.Machine

variable {s t u : State}

/-! ## One fan's view, and the figures -/

/-- The budget unit's view of a fan is the fan's. -/
def Viewed (f : Fan) (s : State) : Prop := s.budget.fanViews.get f = s.fanView f

theorem State.fanNotice_viewed (s : State) (f : Fan) : Viewed f (s.fanNotice f) := by
  rw [Viewed, State.fanNotice_fanViews, if_pos rfl, State.fanNotice_fanView]

theorem Viewed.commandFan {f : Fan} (h : Viewed f s) (d : Nat) (g : Fan) : Viewed f (s.commandFan d g) := by
  unfold State.commandFan
  split
  · by_cases same : g = f
    · subst same
      exact State.fanNotice_viewed _ g
    · rw [Viewed, State.fanNotice_fanViews, if_neg same, State.fanNotice_fanView, State.fanView_putFan same]
      exact h
  · exact h

theorem foldl_preserves {α : Type} {P : State → Prop} {f : State → α → State} (keeps : ∀ t a, P t → P (f t a)) (l : List α)
    (h : P s) : P (l.foldl f s) := by
  induction l generalizing s with
  | nil => exact h
  | cons a l ih => exact ih (keeps s a h)

/-- What the zone's record and its fans' commands keep, a target formed anew keeps. -/
theorem State.retarget_keeps {P : State → Prop} (put : ∀ (t : State) (z : Zone) (r : ZoneRecord), P t → P (t.putZone z r))
    (command : ∀ (t : State) (d : Nat) (f : Fan), P t → P (t.commandFan d f)) (a : Bool) (z : Zone) (h : P s) :
    P (s.retarget a z) := by
  rw [State.retarget_eq]
  split
  · exact h
  · exact foldl_preserves (fun t f k => command t _ f k) z.fans (put s z _ h)

theorem Viewed.retarget {f : Fan} (h : Viewed f s) (a : Bool) (z : Zone) : Viewed f (s.retarget a z) :=
  State.retarget_keeps (P := Viewed f) (fun _ _ _ k => k) (fun _ d g k => k.commandFan d g) a z h

theorem State.fanNotice_priced (s : State) (f : Fan) : Priced (s.fanNotice f) := State.recompute_priced _

theorem Priced.commandFan (h : Priced s) (d : Nat) (f : Fan) : Priced (s.commandFan d f) := by
  unfold State.commandFan
  split
  · exact State.fanNotice_priced _ f
  · exact h

theorem Priced.retarget (h : Priced s) (a : Bool) (z : Zone) : Priced (s.retarget a z) :=
  State.retarget_keeps (P := Priced) (fun _ _ _ k => k) (fun _ d f k => k.commandFan d f) a z h

/-! ## Events -/

theorem State.mem_raiseAll {es : List Event} {r : EventRecord} (h : r ∈ (s.raiseAll es).events.records) :
    r ∈ s.events.records ∨ r.event ∈ es := by
  rw [State.raiseAll_eq] at h
  rcases List.mem_append.1 h with old | new
  · exact .inl old
  · obtain ⟨e, he, rfl⟩ := List.mem_map.1 new
    exact .inr (List.mem_of_mem_take he)

/-- No event of a fan has been queued. -/
def SparesFans (s t : State) : Prop :=
  ∀ r ∈ t.events.records, r ∈ s.events.records ∨ (r.event.kind ≠ .fanFailed ∧ r.event.kind ≠ .fanRecovered)

theorem SparesFans.of_events (h : t.events = s.events) : SparesFans s t := fun _ hr => .inl (h ▸ hr)

theorem SparesFans.trans (h : SparesFans s t) (k : SparesFans t u) : SparesFans s u :=
  fun r hr => (k r hr).elim (h r) .inr

theorem mem_budgetMoves {o : Bool} {headroom : Int} {e : Event} (h : e ∈ budgetMoves o headroom) :
    e.kind = .budgetOvercommit ∨ e.kind = .budgetRestored := by
  unfold budgetMoves at h
  split at h
  · cases List.mem_singleton.1 h
    exact .inl rfl
  · split at h
    · cases List.mem_singleton.1 h
      exact .inr rfl
    · nomatch h

theorem State.recompute_sparesFans (s : State) : SparesFans s s.recompute := by
  intro r hr
  rw [State.recompute_events] at hr
  refine (State.mem_raiseAll hr).imp_right fun h => ?_
  rcases mem_budgetMoves h with kind | kind <;> simp [kind]

theorem State.fanNotice_sparesFans (s : State) (f : Fan) : SparesFans s (s.fanNotice f) := by
  rw [State.fanNotice]
  exact (SparesFans.of_events (State.putBudget_events ..)).trans (State.recompute_sparesFans _)

theorem State.commandFan_sparesFans (s : State) (d : Nat) (f : Fan) : SparesFans s (s.commandFan d f) := by
  unfold State.commandFan
  split
  · exact (SparesFans.of_events (State.putFan_events ..)).trans (State.fanNotice_sparesFans _ f)
  · exact .of_events rfl

theorem State.retarget_sparesFans (s : State) (a : Bool) (z : Zone) : SparesFans s (s.retarget a z) :=
  State.retarget_keeps (P := SparesFans s) (fun _ _ _ k => k) (fun t d f k => k.trans (t.commandFan_sparesFans d f)) a z
    (.of_events rfl)

/-! ## Reviews of a fan notice -/

/-- A fan notice acts on no zone. -/
theorem State.fanNotice_reviews (s : State) (f : Fan) : Reviews (fun _ => False) s (s.fanNotice f) where
  settles := s.fanNotice_settles f
  raised _ h := h.elim
  otherZones z _ := by rw [State.zone, State.fanNotice_cooling, State.zone]
  otherFans g _ := by rw [State.fan, State.fanNotice_cooling, State.fan]

/-- A moved fan's notice and its zone's target formed anew. -/
theorem State.noticed_retarget_reviews (s : State) (f : Fan) :
    Reviews (fun z => z = zoneOfFan f) s ((s.fanNotice f).retarget false (zoneOfFan f)) :=
  ((s.fanNotice_reviews f).trans (State.retarget_reviews _ (zoneOfFan f))).mono fun z => by simp

end Sys2Proof.Machine
end

section
/-! SUPPORT. The terms a zone is judged by (R127, R133, R134, R139), and an evaluation of all zones (R137). -/

namespace Sys2Proof.Machine

variable (s : State)

/-! ## The highest FRESH report (R133) -/

theorem hotter_eq_some_iff {x y : Option Int} {v : Int} : hotter x y = some v ↔
    (x = some v ∨ y = some v) ∧ (∀ a, x = some a → a ≤ v) ∧ ∀ b, y = some b → b ≤ v := by
  cases x <;> cases y <;> simp only [hotter, Option.some.injEq, reduceCtorEq, or_false, false_or, forall_eq',
    false_implies, implies_true, and_true, true_and]
  all_goals first | done | omega

theorem foldl_hotter_eq_some_iff {α : Type} (f : α → Option Int) (l : List α) (h : Option Int) {v : Int} :
    l.foldl (fun h b => hotter h (f b)) h = some v ↔
      (h = some v ∨ ∃ b ∈ l, f b = some v) ∧ (∀ a, h = some a → a ≤ v) ∧ ∀ b ∈ l, ∀ a, f b = some a → a ≤ v := by
  induction l generalizing h with
  | nil =>
    simp only [List.foldl_nil, List.not_mem_nil, false_and, exists_false, or_false, false_implies, implies_true, and_true]
    exact ⟨fun e => ⟨e, fun a ha => by rw [e] at ha; cases ha; exact le_rfl⟩, And.left⟩
  | cons b rest ih =>
    rw [List.foldl_cons, ih]
    constructor
    · rintro ⟨which, bound, others⟩
      have top : ∀ a, h = some a ∨ f b = some a → a ≤ v := by
        intro a ha
        cases both : hotter h (f b) with
        | none =>
          rcases ha with ha | ha <;> cases hb : f b <;> cases hh : h <;> simp_all [hotter]
        | some w =>
          have le := bound w both
          obtain ⟨-, left, right⟩ := hotter_eq_some_iff.1 both
          rcases ha with ha | ha
          · exact (left a ha).trans le
          · exact (right a ha).trans le
      refine ⟨?_, fun a ha => top a (.inl ha), fun c hc a ha => ?_⟩
      · rcases which with e | ⟨c, hc, e⟩
        · rcases (hotter_eq_some_iff.1 e).1 with e | e
          · exact .inl e
          · exact .inr ⟨b, List.mem_cons_self .., e⟩
        · exact .inr ⟨c, List.mem_cons_of_mem b hc, e⟩
      · rcases List.mem_cons.1 hc with rfl | hc
        · exact top a (.inr ha)
        · exact others c hc a ha
    · rintro ⟨which, bound, others⟩
      have mine := others b (List.mem_cons_self ..)
      have rest' : ∀ c ∈ rest, ∀ a, f c = some a → a ≤ v := fun c hc => others c (List.mem_cons_of_mem b hc)
      have top : ∀ a, hotter h (f b) = some a → a ≤ v := fun a ha => by
        rcases (hotter_eq_some_iff.1 ha).1 with e | e
        · exact bound a e
        · exact mine a e
      refine ⟨?_, top, rest'⟩
      rcases which with e | ⟨c, hc, e⟩
      · exact .inl (hotter_eq_some_iff.2 ⟨.inl e, bound, mine⟩)
      · rcases List.mem_cons.1 hc with rfl | hc
        · exact .inl (hotter_eq_some_iff.2 ⟨.inr e, bound, mine⟩)
        · exact .inr ⟨c, hc, e⟩

theorem State.freshTemp_eq_some_iff (b : Bay) (x : Int) :
    s.freshTemp b = some x ↔ ∃ left, s.cooling.reports.get b = some ⟨x, some left⟩ := by
  unfold State.freshTemp
  cases s.cooling.reports.get b with
  | none => simp
  | some r =>
    obtain ⟨temp, age⟩ := r
    cases age <;> simp

theorem State.highestFresh_eq_some_iff (z : Zone) (x : Int) : s.highestFresh z = some x ↔
    (∃ b, s.zoneOf b = z ∧ ∃ left, s.cooling.reports.get b = some ⟨x, some left⟩) ∧
      ∀ y b, (s.zoneOf b = z ∧ ∃ left, s.cooling.reports.get b = some ⟨y, some left⟩) → y ≤ x := by
  rw [State.highestFresh, foldl_hotter_eq_some_iff]
  simp only [State.mem_baysOf, State.freshTemp_eq_some_iff, reduceCtorEq, false_or, false_implies, implies_true, true_and]
  exact and_congr_right fun _ => ⟨fun h y b hb => h b hb.1 y hb.2, fun h b hb y hy => h y b ⟨hb, hy⟩⟩

/-! ## Terms (R127, R133, R134) -/

theorem State.driveTerm_eq (z : Zone) : s.driveTerm z = match s.highestFresh z with
    | some temp => s.cfg.common.driveCurve.value temp
    | none => if (s.baysOf z).any (fun b => (s.bay b).state.closedSwitch) = true then s.cfg.common.staleDuty else 0 := rfl

theorem State.anyPowered_iff (z : Zone) : (s.baysOf z).any (fun b => (s.bay b).state.closedSwitch) = true ↔
    ∃ b, s.zoneOf b = z ∧ (s.bay b).state.closedSwitch = true := by
  simp only [List.any_eq_true, State.mem_baysOf]

theorem sum_map_filter {α : Type} (p : α → Bool) (f : α → Nat) (l : List α) :
    ((l.filter p).map f).sum = (l.map fun b => if p b = true then f b else 0).sum := by
  induction l with
  | nil => rfl
  | cons b rest ih =>
    cases h : p b <;> simp [h, ih]

theorem State.heatAdder_eq (z : Zone) : s.heatAdder z = (allBays.map (fun b =>
    if s.zoneOf b = z ∧ (s.bay b).state.drawsInrush = true then (s.bay b).snap.heat else 0)).sum := by
  rw [State.heatAdder, State.baysOf, sum_map_filter]
  refine congrArg List.sum (List.map_congr_left fun b _ => ?_)
  by_cases here : s.zoneOf b = z <;> simp [here, BayRecord.heat]

/-- The held value of a sensor that is not FAILED (R127). -/
theorem SensorRecord.counted_eq (k : SensorRecord) : k.counted = if k.state = .failed then none else k.held := by
  unfold SensorRecord.counted
  cases k.state <;> simp

/-! ## The thermal judgment (R139) -/

theorem judgeThermal_eq (sources : List (Int × Int × Int)) (now : Thermal) : judgeThermal sources now =
    if sources = [] then now
    else if (∃ x ∈ sources, x.2.2 ≤ x.1) ∨ (now = .critical ∧ ¬ ∀ x ∈ sources, x.1 ≤ x.2.2 - 3) then .critical
    else if (∃ x ∈ sources, x.2.1 ≤ x.1) ∨ (now ≠ .normal ∧ ¬ ∀ x ∈ sources, x.1 ≤ x.2.1 - 3) then .warning
    else .normal := by
  by_cases empty : sources = []
  · simp [judgeThermal, empty]
  have apart (level : Int × Int × Int → Int) (clear : ∀ x ∈ sources, x.1 ≤ level x - 3) : ¬ ∃ x ∈ sources, level x ≤ x.1 := by
    rintro ⟨x, hx, reach⟩
    have := clear x hx
    omega
  have critical : ((∃ x ∈ sources, x.2.2 ≤ x.1) ∨ ¬ ∀ x ∈ sources, x.1 ≤ x.2.2 - 3) ↔ ¬ ∀ x ∈ sources, x.1 ≤ x.2.2 - 3 :=
    or_iff_right_of_imp fun reach clear => apart (fun x => x.2.2) clear reach
  have warning : ((∃ x ∈ sources, x.2.1 ≤ x.1) ∨ ¬ ∀ x ∈ sources, x.1 ≤ x.2.1 - 3) ↔ ¬ ∀ x ∈ sources, x.1 ≤ x.2.1 - 3 :=
    or_iff_right_of_imp fun reach clear => apart (fun x => x.2.1) clear reach
  have some' : sources.isEmpty = false := by simpa using empty
  rw [if_neg empty]
  simp only [judgeThermal, some', Bool.false_eq_true, if_false, List.any_eq_true, List.all_eq_true, decide_eq_true_eq]
  cases now with
  | normal => simp only [reduceCtorEq, false_and, or_false, ne_eq, not_true_eq_false]
  | warning =>
    simp only [reduceCtorEq, false_and, or_false, ne_eq, not_false_eq_true, true_and, warning, ite_not]
  | critical => simp only [reduceCtorEq, ne_eq, not_false_eq_true, true_and, critical, warning, ite_not]

/-! ## All zones evaluated (R137) -/

theorem State.newDuty_retarget_other (a : Bool) {y z : Zone} (h : y ≠ z) :
    (s.retarget a y).newDuty a z = s.newDuty a z := by
  have settles := s.retarget_settles a y
  rw [State.newDuty, settles.fanCheck, settles.zoneTarget, State.retarget_zone, if_neg h, State.newDuty]

theorem State.retargetAll_zone (a : Bool) (z : Zone) :
    (s.retargetAll a).zone z = { s.zone z with duty := s.newDuty a z } := by
  have each := State.foldl_own (v := State.zone) (w := fun t z => { t.zone z with duty := t.newDuty a z })
    (f := fun t z => t.retarget a z) (fun t y z => by rw [State.retarget_zone]; split <;> simp_all)
    (fun t y z other => by dsimp only; rw [t.newDuty_retarget_other a other, State.retarget_zone, if_neg other])
    allZones (by decide) s z
  rw [if_pos (mem_allZones z)] at each
  exact each

end Sys2Proof.Machine
end

section
/-! The statements about evaluations and a zone's terms, settled. -/

namespace Sys2Proof.Machine

/-- Settles O29: each zone's new duty, and the RUNNING fans' following of it. -/
theorem evaluationsSlewTheDuties : Obligations.EvaluationsSlewTheDuties := by
  intro s duty agrees
  let u := s.putCooling { s.cooling with evaluation := 1000 }
  have follows : DutiesFollow u := fun f => agrees.duties f
  have newDuty (z : Zone) : u.newDuty true z = duty z := by
    have target : u.zoneTarget z = s.zoneTarget z := rfl
    rw [State.newDuty_true, target]
    show (if s.cooling.fanCheck.isSome = true then (s.zone z).duty else max (s.zoneTarget z) ((s.zone z).duty - 5)) = _
    simp only [duty]
    split
    · rfl
    · split
      · omega
      · split <;> omega
  have zones (z : Zone) : (u.retargetAll true).zone z = { s.zone z with duty := duty z } := by
    rw [State.retargetAll_zone, newDuty]
    rfl
  refine ⟨u.retargetAll true, rfl, u.retargetAll_settles true, zones, fun f running => ?_⟩
  have state : ((u.retargetAll true).fan f).state = .running := ((u.retargetAll_settles true).fan_state f).trans running
  rw [follows.retargetAll true f, state, zones]
  rfl

/-- Settles O30: the terms as they are formed, and the judgment by its two thresholds. -/
theorem zoneTargetAndThermalStateFollowTheirRules : Obligations.ZoneTargetAndThermalStateFollowTheirRules := by
  intro z now added s common held reports air powered drive heat floored failed reaches clear
  have airTerm : s.airTerm z = air := by
    unfold State.airTerm
    cases input : s.airInput z <;> simp only [air, input]
  have driveTerm : s.driveTerm z = drive := by
    rw [s.driveTerm_eq]
    cases fresh : s.highestFresh z with
    | some x => simp only [drive, fresh]; rfl
    | none =>
      simp only [drive, fresh]
      by_cases p : powered
      · rw [if_pos p, if_pos ((s.anyPowered_iff z).2 p)]
      · rw [if_neg p, if_neg fun h => p ((s.anyPowered_iff z).1 h)]
  have heatAdder : s.heatAdder z = heat := s.heatAdder_eq z
  refine ⟨airTerm, driveTerm, heatAdder, rfl, s.highestFresh_eq_some_iff z, fun k own => ⟨?_, fun broken => ?_,
    fun sound => ?_⟩, ?_⟩
  · obtain rfl := Zone.sensor_of_number own
    have inlet : inletSensor = 3 := rfl
    rw [State.airInput, inlet, SensorRecord.counted_eq, SensorRecord.counted_eq]
    show hotter (held z.sensor) (held 3) = _
    cases held z.sensor <;> cases held 3 <;> rfl
  · obtain rfl := Zone.sensor_of_number own
    exact s.targetWith_of_sensorFailed broken added
  · obtain rfl := Zone.sensor_of_number own
    rw [s.targetWith_of_sensor sound, airTerm, driveTerm, heatAdder]
    by_cases fan : failed
    · rw [if_pos fan]
      exact if_pos ((s.zoneFanFailed_iff z).2 fan)
    · rw [if_neg fan]
      exact if_neg fun h => fan ((s.zoneFanFailed_iff z).1 h)
  · rw [judgeThermal_eq]
    have none' : s.thermalSources z = [] ↔ s.airInput z = none ∧ s.highestFresh z = none := by
      unfold State.thermalSources
      cases s.airInput z <;> cases s.highestFresh z <;> simp
    have reach (level : Int × Int × Int → Int) (airLevel driveLevel : Int)
        (ha : ∀ x, level (x, common.airWarning, common.airCritical) = airLevel)
        (hd : ∀ x, level (x, common.driveWarning, common.driveCritical) = driveLevel) :
        ((∃ x ∈ s.thermalSources z, level x ≤ x.1) ↔ reaches airLevel driveLevel) ∧
          ((∀ x ∈ s.thermalSources z, x.1 ≤ level x - 3) ↔ clear airLevel driveLevel) := by
      simp only [State.thermalSources, reaches, clear]
      cases s.airInput z <;> cases s.highestFresh z <;> simp [ha, hd, common] at ha hd ⊢
    obtain ⟨reachesCritical, clearsCritical⟩ := reach (fun x => x.2.2) _ _ (fun _ => rfl) (fun _ => rfl)
    obtain ⟨reachesWarning, clearsWarning⟩ := reach (fun x => x.2.1) _ _ (fun _ => rfl) (fun _ => rfl)
    simp only [none', reachesCritical, clearsCritical, reachesWarning, clearsWarning]

end Sys2Proof.Machine
end

section
/-! SUPPORT. Fans that move (R120), sensor results (R126) and the end of the fan check (R142). -/

namespace Sys2Proof.Machine

variable (s : State)

theorem State.raiseAll_settles (es : List Event) : Settles s (s.raiseAll es) :=
  Settles.foldl (fun t e => t.raise_settles e) es s

/-- Events act on no zone. -/
theorem State.raiseAll_reviews (es : List Event) : ReviewsThermal (fun _ => False) s (s.raiseAll es) where
  targets :=
    { settles := s.raiseAll_settles es
      raised := fun _ h => h.elim
      otherZones := fun z _ => by rw [State.zone, State.raiseAll_cooling, State.zone]
      otherFans := fun f _ => by rw [State.fan, State.raiseAll_cooling, State.fan] }
  judged _ h := h.elim
  triggered z critical left := by
    rw [State.zone, State.raiseAll_cooling] at left
    exact absurd critical left

/-! ## Fans (R120 to R123) -/

/-- A fan that moves: its record, its event first, and what the notice and the target formed anew give. -/
theorem State.fanMoves_moved (f : Fan) (m : FanRecord) (e : Event) :
    Reviews (fun z => z = zoneOfFan f) (s.putFan f m) (s.fanMoves f m e) ∧ Raises [e] s (s.fanMoves f m e) ∧
      (∀ z, ((s.fanMoves f m e).zone z).thermal = (s.zone z).thermal) ∧ Viewed f (s.fanMoves f m e) ∧
      Priced (s.fanMoves f m e) := by
  have told := ((s.putFan f m).raiseAll_reviews [e]).targets
  have noticed := State.noticed_retarget_reviews ((s.putFan f m).raise e) f
  refine ⟨(told.trans noticed).mono fun z => by simp, ?_, fun z => ?_, (State.fanNotice_viewed _ f).retarget _ _,
    (State.fanNotice_priced _ f).retarget _ _⟩
  · have first : Raises [e] s ((s.putFan f m).raise e) :=
      Raises.congr_left (State.putFan_events ..) (State.putFan_time ..) (State.raiseAll_raises (s.putFan f m) [e])
    exact first.trans rfl noticed.settles.events
  · rw [State.fanMoves, State.retarget_thermal, State.fanNotice_zone]
    rfl

theorem Viewed.view {f : Fan} {t : State} (h : Viewed f t) (cfg : t.cfg = s.cfg) : t.budget.fanViews.get f =
    ⟨(t.fan f).state, (t.fan f).duty, (s.cfg.fans.get f).idle, (s.cfg.fans.get f).full⟩ := by
  rw [h, State.fanView, cfg]
  rfl

/-- A window's end forms the sample and takes it (R121, R122). -/
theorem exec_tachWindowEnd {f : Fan} {w : TachWindow} (h : (s.fan f).window = some w) :
    exec (.tachWindowEnd f) s = .next (s.windowEnds f w) := by
  show execTachWindowEnd f s = _
  rw [execTachWindowEnd, h]

theorem judgeSample_of_good {rpm least duty : Nat} (h : least ≤ rpm) : judgeSample rpm least duty = .good := if_pos h

theorem judgeSample_of_low {rpm least duty : Nat} (h : rpm < least) (fast : 20 ≤ duty) :
    judgeSample rpm least duty = .low := by
  rw [judgeSample, if_neg (Nat.not_le.2 h), if_pos fast]

theorem judgeSample_of_neutral {rpm least duty : Nat} (h : ¬ least ≤ rpm) (slow : ¬ (rpm < least ∧ 20 ≤ duty)) :
    judgeSample rpm least duty = .neutral := by
  rw [judgeSample, if_neg h, if_neg fun fast => slow ⟨Nat.not_le.1 h, fast⟩]

theorem judgeSample_eq (rpm least duty : Nat) : judgeSample rpm least duty =
    if least ≤ rpm then .good else if rpm < least ∧ 20 ≤ duty then .low else .neutral := by
  by_cases good : least ≤ rpm
  · rw [judgeSample_of_good good, if_pos good]
  · by_cases low : rpm < least ∧ 20 ≤ duty
    · rw [judgeSample_of_low low.1 low.2, if_neg good, if_pos low]
    · rw [judgeSample_of_neutral good low, if_neg good, if_neg low]

/-! ## Sensors (R126) -/

theorem SensorRecord.result_eq (r : SensorRecord) (result : Option Int) : r.result result = match result with
    | some v => ⟨.ok, some (max (-40) (min 125 v)), 0, false⟩
    | none => ⟨if r.failures < 2 then .holding else .failed, r.held, min 3 (r.failures + 1), false⟩ := by
  cases result with
  | some v => rfl
  | none =>
    have third : r.failures + 1 < 3 ↔ r.failures < 2 := Nat.succ_lt_succ_iff
    simp only [SensorRecord.result, third]

theorem mem_zonesReading_number (k : Sensor) (z : Zone) : z ∈ zonesReading k ↔ k = 3 ∨ k.val = z.number.val := by
  revert k
  cases z <;> decide

end Sys2Proof.Machine
end

section
/-! The statements about tachometers and sensors, settled. -/

namespace Sys2Proof.Machine

/-- Settles O27: the sample is judged, and acts by the fan's state. -/
theorem tachometersJudgeTheFans : Obligations.TachometersJudgeTheFans := by
  intro f w s r x rpm low good r' moved
  refine ⟨rfl, fun window => ?_⟩
  have sampled : r.sampled (windowRpm w x.ppr) x.minRpm s.cfg.common.windowMs = r' := by
    show ({ r with rpm := rpm, judgment := some (judgeSample rpm x.minRpm r.duty), window := _ } : FanRecord) = _
    rw [judgeSample_eq]
    rfl
  have ends : exec (.tachWindowEnd f) s = .next (s.sampleTaken f r') := by
    rw [exec_tachWindowEnd s window, State.windowEnds]
    exact congrArg (fun m => Host.Outcome.next (s.sampleTaken f m)) sampled
  have judgedGood : good → r'.judgment = some .good := fun h => congrArg some (if_pos h)
  have judgedLow : low → r'.judgment = some .low := fun h =>
    congrArg some ((if_neg (Nat.not_le.2 h.1)).trans (if_pos h))
  have judgedNeutral : ¬ good → ¬ low → r'.judgment = some .neutral := fun h k =>
    congrArg some ((if_neg h).trans (if_neg k))
  have moves (m : FanRecord) (e : Event) (h : s.sampleTaken f r' = s.fanMoves f m e) :
      ∃ t, exec (.tachWindowEnd f) s = .next t ∧ moved m e t := by
    obtain ⟨reviews, raises, thermal, viewed, priced⟩ := s.fanMoves_moved f m e
    have cfg : (s.fanMoves f m e).cfg = s.cfg := reviews.settles.cfg
    have figures : (s.fanMoves f m e).budget.figures = (s.fanMoves f m e).formFigures := priced.1
    have view := viewed.view s cfg
    rw [h] at ends
    generalize s.fanMoves f m e = t at *
    exact ⟨t, ends, reviews, raises, thermal, view, figures⟩
  refine ⟨fun checking => ?_, fun running => ?_, fun failed => ?_⟩
  · have state : r'.state = .checking := checking
    rw [ends, State.sampleTaken, state]
  · have state : r'.state = .running := running
    have taken : s.sampleTaken f r' = s.runningSample f r' := by rw [State.sampleTaken, state]
    refine ⟨fun h => ?_, fun h k => ?_, fun h few => ?_, fun h third => moves r'.fail (fanFailedEvent f 0 r'.rpm) ?_⟩
    · rw [ends, taken, State.runningSample, judgedGood h]
    · rw [ends, taken, State.runningSample, judgedNeutral h k]
    · rw [ends, taken, State.runningSample, judgedLow h]
      have second : r.low + 1 < 3 := by omega
      simp only [show r'.low = r.low from rfl, if_pos second]
    · rw [taken, State.runningSample, judgedLow h]
      have last : ¬ r.low + 1 < 3 := by omega
      simp only [show r'.low = r.low from rfl, if_neg last]
  · have state : r'.state = .failed := failed
    have taken : s.sampleTaken f r' = s.failedSample f r' := by rw [State.sampleTaken, state]
    refine ⟨fun h => ?_, fun h k => ?_, fun h few => ?_, fun h third => moves (r'.run (s.zone (zoneOfFan f)).duty) (fanRecoveredEvent f r'.rpm) ?_⟩
    · rw [ends, taken, State.failedSample, judgedLow h]
    · rw [ends, taken, State.failedSample, judgedNeutral h k]
    · rw [ends, taken, State.failedSample, judgedGood h]
      have second : r.good + 1 < 3 := by omega
      simp only [show r'.good = r.good from rfl, if_pos second]
    · rw [taken, State.failedSample, judgedGood h]
      have last : ¬ r.good + 1 < 3 := by omega
      simp only [show r'.good = r.good from rfl, if_neg last]

/-- Settles O28: a result that changes nothing reviews nothing; any other, and a report gone STALE, reviews its zones. -/
theorem sensorReadsAndStaleReports : Obligations.SensorReadsAndStaleReports := by
  intro k result b temp left s r r' u events
  have after : r.result result = r' := r.result_eq result
  have told : sensorEvents k r r' = events := by
    have held : r'.state = .failed → r'.held = r.held := by
      cases result with
      | some v => exact nofun
      | none => exact fun _ => rfl
    simp only [sensorEvents, events]
    by_cases fails : r'.state = .failed ∧ r.state ≠ .failed
    · rw [if_pos fails, if_pos fails, held fails.1]
    · rw [if_neg fails, if_neg fails]
  refine ⟨⟨_, rfl, fun j => Table.get_each .., rfl⟩, fun reading => ?_, fun fresh => ?_, fun report old => ?_⟩
  · have carried : exec (.sensorReadComplete k result) s = .next (if r'.state = r.state ∧ r'.held = r.held then
        u.raiseAll events else (u.raiseAll events).reviewZones (zonesReading k)) := by
      have taken : exec (.sensorReadComplete k result) s = .next (s.sensorResult k result) :=
        congrArg Host.Outcome.next (if_pos reading)
      rw [taken]
      show Host.Outcome.next (if (r.result result).state = r.state ∧ (r.result result).held = r.held then
        (s.putCooling { s.cooling with sensors := Table.put s.cooling.sensors k (r.result result) }).raiseAll
          (sensorEvents k r (r.result result)) else _) = _
      rw [after, told]
    refine ⟨fun state held => ?_, fun differs => ?_⟩
    · have silent : events = [] := if_neg fun h => h.2 (state ▸ h.1)
      rw [carried, if_pos ⟨state, held⟩, silent]
      rfl
    · refine ⟨(u.raiseAll events).reviewZones (zonesReading k), ?_, ?_, ?_⟩
      · rw [carried, if_neg (by tauto)]
      · exact ((u.raiseAll_reviews events).trans (State.reviewZones_reviews _ _)).mono fun z => by
          simp only [false_or, mem_zonesReading_number]
      · have first : Raises events s (u.raiseAll events) :=
          Raises.congr_left (State.putCooling_events ..) (State.putCooling_time ..) (u.raiseAll_raises events)
        exact first.trans (State.raiseAll_time ..) (State.reviewZones_reviews _ _).targets.settles.events
  · show execDriveTempAgeExpiry b s = _
    rw [execDriveTempAgeExpiry, fresh]
    rfl
  · have due : DriveReport.mayExpire ⟨temp, some left⟩ = true := bne_iff_ne.2 old
    let v := s.putCooling { s.cooling with reports := Table.put s.cooling.reports b (some ⟨temp, none⟩) }
    let e := bayEvent .tempStale b none (some temp)
    have reviews := State.reviewZone_reviews (v.raise e) (s.zoneOf b)
    refine ⟨(v.raise e).reviewZone (s.zoneOf b), ?_, ?_, ?_⟩
    · show execDriveTempAgeExpiry b s = _
      rw [execDriveTempAgeExpiry, report]
      exact congrArg Host.Outcome.next (if_pos due)
    · exact ((v.raiseAll_reviews [e]).trans reviews).mono fun z => by simp
    · have first : Raises [e] s (v.raise e) :=
        Raises.congr_left (State.putCooling_events ..) (State.putCooling_time ..) (v.raiseAll_raises [e])
      exact first.trans rfl reviews.targets.settles.events

end Sys2Proof.Machine
end

section
/-! SUPPORT. The end of the fan check (R142) and with it of the start-up hold (R96). -/

namespace Sys2Proof.Machine

variable (s : State)

/-! ## The fans judged -/

/-- A CHECKING fan last judged LOW fails the check. -/
def FanRecord.failsCheck (r : FanRecord) : Bool := decide (r.state = .checking ∧ r.judgment = some .low)

/-- The event of a fan that fails the check. -/
def State.checkFailure (s : State) (f : Fan) : Event := fanFailedEvent f 1 (s.fan f).rpm

theorem State.putFan_self (f : Fan) : s.putFan f (s.fan f) = s := by
  have fans : Table.put s.cooling.fans f (s.fan f) = s.cooling.fans :=
    Table.ext_get fun i => by by_cases h : f = i <;> simp [State.fan, h]
  rw [State.putFan, fans]
  rfl

theorem State.checkFan_eq (f : Fan) : s.checkFan f =
    (s.putFan f (s.checkedFan f)).raiseAll (if (s.fan f).failsCheck = true then [s.checkFailure f] else []) := by
  unfold State.checkFan State.checkedFan FanRecord.failsCheck
  by_cases checking : (s.fan f).state = .checking
  · by_cases low : (s.fan f).judgment = some .low
    · simp only [checking, low, if_true, and_self, decide_true]
      rfl
    · simp only [checking, low, if_true, if_false, and_false, decide_false, Bool.false_eq_true]
      rfl
  · simp only [checking, if_false, false_and, decide_false, Bool.false_eq_true]
    exact (s.putFan_self f).symm

theorem State.checkFan_events (f : Fan) : (s.checkFan f).events =
    (s.raiseAll (if (s.fan f).failsCheck = true then [s.checkFailure f] else [])).events := by
  rw [s.checkFan_eq]
  exact State.raiseAll_events_congr (State.putFan_events ..) (State.putFan_time ..) _

theorem State.checkFan_fan_other {f g : Fan} (h : f ≠ g) : (s.checkFan f).fan g = s.fan g := by
  rw [State.checkFan_fan, if_neg h]

theorem State.checkFans_events (fs : List Fan) (nodup : fs.Nodup) : (fs.foldl State.checkFan s).events =
    (s.raiseAll ((fs.filter fun f => (s.fan f).failsCheck).map s.checkFailure)).events := by
  induction fs generalizing s with
  | nil => rfl
  | cons f fs ih =>
    obtain ⟨notIn, nodup⟩ := List.nodup_cons.1 nodup
    have others : ∀ g ∈ fs, (s.checkFan f).fan g = s.fan g := fun g hg =>
      s.checkFan_fan_other fun same => notIn (same ▸ hg)
    have list : (fs.filter fun g => ((s.checkFan f).fan g).failsCheck).map (s.checkFan f).checkFailure =
        (fs.filter fun g => (s.fan g).failsCheck).map s.checkFailure := by
      rw [List.filter_congr fun g hg => congrArg FanRecord.failsCheck (others g hg)]
      refine List.map_congr_left fun g hg => ?_
      rw [State.checkFailure, others g (List.mem_of_mem_filter hg), State.checkFailure]
    have time : (s.checkFan f).time = s.time := by rw [s.checkFan_eq, State.raiseAll_time, State.putFan_time]
    rw [List.foldl_cons, ih _ nodup, list, State.raiseAll_events_congr (s.checkFan_events f)
      (time.trans (State.raiseAll_time ..).symm), ← State.raiseAll_append, List.filter_cons]
    split <;> simp

theorem State.checkFan_touch (f : Fan) : ∃ fans events, s.checkFan f =
    { s with cooling := { s.cooling with fans := fans }, events := events } := by
  rw [s.checkFan_eq, State.raiseAll_eq]
  exact ⟨_, _, rfl⟩

/-- The judging of fans touches the fans and the event queue alone. -/
theorem State.checkFans_touch (fs : List Fan) : ∃ fans events, fs.foldl State.checkFan s =
    { s with cooling := { s.cooling with fans := fans }, events := events } := by
  induction fs generalizing s with
  | nil => exact ⟨s.cooling.fans, s.events, rfl⟩
  | cons f fs ih =>
    obtain ⟨first, events, one⟩ := s.checkFan_touch f
    obtain ⟨fans, events, rest⟩ := ih (s.checkFan f)
    refine ⟨fans, events, ?_⟩
    rw [List.foldl_cons, rest, one]

theorem State.fansJudged_touch : ∃ fans events, s.fansJudged =
    { s with cooling := { s.cooling with fans := fans, fanCheck := none }, events := events } := by
  obtain ⟨fans, events, judged⟩ := s.checkFans_touch allFans
  refine ⟨fans, events, ?_⟩
  rw [State.fansJudged_eq, judged, State.unchecked]
  rfl

theorem State.fansJudged_events : s.fansJudged.events =
    (s.raiseAll ((allFans.filter fun f => (s.fan f).failsCheck).map s.checkFailure)).events := by
  rw [State.fansJudged_eq, State.unchecked, State.putCooling_events]
  exact s.checkFans_events allFans allFans_nodup

/-! ## The holds end -/

theorem State.fanNotices_reviews (fs : List Fan) : Reviews (fun _ => False) s (fs.foldl State.fanNotice s) := by
  induction fs generalizing s with
  | nil => exact .refl s fun _ => id
  | cons f fs ih =>
    rw [List.foldl_cons]
    exact ((s.fanNotice_reviews f).trans (ih _)).mono fun z => by simp

variable {s}

theorem ZoneRaised.congr {z : Zone} {s t u v : State} (h : ZoneRaised z s t) (before : u.cooling = s.cooling)
    (after : v.cooling = t.cooling) (target : v.zoneTarget z = t.zoneTarget z) : ZoneRaised z u v := by
  unfold ZoneRaised State.zone State.fan
  rw [before, after, target]
  exact h

theorem ZoneRaised.holdEnds {z : Zone} {s t u : State} (h : ZoneRaised z s t) (before : u.cooling = s.cooling) :
    ZoneRaised z u t.holdEnds := by
  let w := t.putArbiter { t.arbiter with startUpHold := false }
  have raised : ZoneRaised z u w := h.congr before rfl rfl
  exact raised.of_settles (State.trigger_settles w) (congrArg (fun c : Cooling => (Vector.get c.zones z.number).duty) (State.trigger_cooling w))
    fun f _ => congrArg (fun c : Cooling => Vector.get c.fans f) (State.trigger_cooling w)

/-- What settles while the start-up hold is in force, and then takes the trigger of the hold's end, settles from the state
without the hold (R81, R82, R96). -/
theorem Settles.holdEnds {u t : State} {e : EventQueue} {a : Arbiter}
    (h : Settles { u with events := e, arbiter := a } t) (hold : u.arbiter = { a with startUpHold := false })
    (raises : Raises [] u { u with events := e, arbiter := a }) : Settles u t.holdEnds := by
  let w := t.putArbiter { t.arbiter with startUpHold := false }
  have k : Settles w t.holdEnds := State.trigger_settles w
  exact
    { chans := h.chans
      bays := h.bays
      quarantine := h.quarantine
      lights := h.lights
      link := h.link
      time := h.time
      store := h.store
      cfg := h.cfg
      pending := h.pending
      resetLow := h.resetLow
      queue := by rw [k.queue, hold]; exact h.queue
      spinCount := by rw [k.spinCount, hold]; exact h.spinCount
      stagger := by rw [k.stagger, hold]; exact h.stagger
      startUpHold := by rw [k.startUpHold, hold]; rfl
      declines := by rw [k.declines, hold]; exact h.declines
      slots := h.slots
      commitments := h.commitments
      grantOrder := h.grantOrder
      grants := by
        obtain ⟨xs, hx⟩ := h.grants
        obtain ⟨ys, hy⟩ := k.grants
        exact ⟨xs ++ ys, by rw [hy, hold]; simp [w, hx]⟩
      blocked := fun blocked => by
        have others : u.arbiter.stagger.isSome = true ∨ (∃ b, (u.bay b).state = .ramping) ∨
            u.arbiter.grantRecord.isSome = true := by
          rcases blocked with b | b | b | b
          · exact .inl b
          · exact .inr (.inl b)
          · rw [hold] at b; nomatch b
          · exact .inr (.inr b)
        have before : Blocked { u with events := e, arbiter := a } := by
          rcases others with b | b | b
          · rw [hold] at b; exact .inl b
          · exact .inr (.inl b)
          · rw [hold] at b; exact .inr (.inr (.inr b))
        obtain ⟨record, grants, last, mark⟩ := h.blocked before
        have after : Blocked w := by
          rcases others with b | ⟨b, hb⟩ | b
          · rw [hold] at b
            exact .inl ((congrArg Option.isSome h.stagger).trans b)
          · refine .inr (.inl ⟨b, ?_⟩)
            have same : w.bay b = u.bay b := congrArg (fun x => Vector.get x b) h.bays
            rw [same, hb]
          · rw [hold] at b
            exact .inr (.inr (.inr ((congrArg Option.isSome record).trans b)))
        have noPass : NoPass u.arbiter w.arbiter := by
          rw [hold]
          exact ⟨record, grants, last, mark⟩
        exact noPass.trans (k.blocked after)
      passes := .inr (State.trigger_triggered w)
      revocations := h.revocations
      outstanding := h.outstanding
      sensors := h.sensors
      reports := h.reports
      evaluation := h.evaluation
      sensorRead := h.sensorRead
      fanCheck := h.fanCheck
      fans := h.fans
      standing := h.standing
      events := raises.trans rfl h.events }

variable (s)

/-- The judged fans tell the budget unit, the targets are formed anew, and the holds end (R142). -/
theorem State.fanCheckEnds (checking : s.cooling.fanCheck.isSome = true) : ∃ t,
    exec .fanCheckEnd s = .next t.holdEnds ∧ Reviews (fun _ => True) s.fansJudged t ∧
      ∀ z, (t.zone z).thermal = (s.zone z).thermal := by
  let before := (allFans.filter fun f => (s.fan f).state == .checking).foldl State.fanNotice s.fansJudged
  have notices : Reviews (fun _ => False) s.fansJudged before := State.fanNotices_reviews _ _
  refine ⟨before.retargetAll false, ?_, (notices.trans before.retargetAll_reviews).mono fun z => by simp, fun z => ?_⟩
  · show execFanCheckEnd s = _
    rw [execFanCheckEnd, if_pos checking, s.checkEnds_eq]
  · rw [State.retargetAll_zone, notices.otherZones z id, State.fansJudged_zone]

end Sys2Proof.Machine
end

section
/-! The statement about the end of the fan check, settled. -/

namespace Sys2Proof.Machine

/-- Settles O31: the fans judged, their notices and targets, and the trigger of the hold's end. -/
theorem fanCheckEndJudgesTheFans : Obligations.FanCheckEndJudgesTheFans := by
  intro s fails judged checking
  obtain ⟨fans, events, touched⟩ := s.fansJudged_touch
  have judgedFans (f : Fan) : s.fansJudged.fan f = judged f := by
    rw [State.fansJudged_fan, State.checkedFan]
    simp only [judged, fails]
    by_cases state : (s.fan f).state = .checking
    · by_cases low : (s.fan f).judgment = some .low
      · simp [state, low, FanRecord.fail]
      · simp [state, low, FanRecord.run]
    · simp [state]
  have raises : s.fansJudged.events = (s.raiseAll ((allFans.filter fun f => decide (fails f)).map s.checkFailure)).events :=
    s.fansJudged_events
  obtain ⟨t, ends, reviewed, thermal⟩ := s.fanCheckEnds checking
  generalize s.fansJudged = j at *
  have eventsJudged : events = (s.raiseAll ((allFans.filter fun f => decide (fails f)).map s.checkFailure)).events := by
    rw [← raises, touched]
  have judges : Raises ((allFans.filter fun f => decide (fails f)).map s.checkFailure) s j :=
    ⟨[], by rw [List.append_nil, raises]⟩
  subst touched
  let u : State := { s with
    cooling := { s.cooling with fans := fans, fanCheck := none }, arbiter := { s.arbiter with startUpHold := false } }
  have raised : Raises [] u { u with events := events, arbiter := s.arbiter } :=
    ⟨_, eventsJudged.trans (State.raiseAll_events_congr (s := u) (t := s) rfl rfl _)⟩
  have settles : Settles u t.holdEnds := Settles.holdEnds reviewed.settles rfl raised
  have zones (z : Zone) : t.holdEnds.zone z = t.zone z := by
    rw [State.zone, State.holdEnds, State.trigger_cooling, State.putArbiter_cooling, State.zone]
  let v := t.putArbiter { t.arbiter with startUpHold := false }
  refine ⟨t.holdEnds, u, ends, judgedFans, rfl, ?_, fun z => ?_, ⟨v, rfl, reviewed.settles.queue, v.trigger_passTaken⟩, ?_⟩
  · exact ⟨settles, fun z _ => (reviewed.raised z trivial).holdEnds rfl, fun z other => absurd trivial other,
      fun f other => absurd trivial other⟩
  · rw [zones, thermal]
  · have targets := judges.trans rfl reviewed.settles.events
    exact Raises.trans (t := v) targets reviewed.settles.time v.trigger_settles.events

end Sys2Proof.Machine
end

section
/-! SUPPORT. The pairs of DRIVE_TEMPS one at a time (R128). -/

namespace Sys2Proof.Machine

variable (s : State)

theorem State.drivePair_gives (n temp : Byte) :
    PairGives n temp s (s.drivePair n.toNat temp.toInt).1 (s.drivePair n.toNat temp.toInt).2 := by
  refine ⟨fun beyond => ?_, fun b named => ⟨fun empty => ?_, fun there => ?_⟩⟩
  · rw [State.drivePair, bayOfNumber_eq_none (by omega)]
    exact ⟨rfl, rfl⟩
  · rw [State.drivePair, named, bayOfNumber_val]
    simp only [if_pos empty, and_self]
  · rw [State.drivePair, named, bayOfNumber_val]
    simp only [if_neg there]
    by_cases clears : temp.toInt = 127
    · simp only [if_pos clears]
      exact ⟨rfl, trivial⟩
    · simp only [if_neg clears]
      exact ⟨rfl, writtenStatus_eq_clampedOr bne_iff_ne⟩

theorem State.drivePairs_give (p : List Byte) : EachPair p s (s.drivePairs p).1 (s.drivePairs p).2 := by
  induction p using List.twoStepInduction generalizing s with
  | nil | singleton => exact ⟨rfl, rfl⟩
  | cons_cons n temp rest ih => exact ⟨_, _, _, rfl, s.drivePair_gives n temp, ih _⟩

end Sys2Proof.Machine
end

section
/-! The statement about drive temperature reports, settled. -/

namespace Sys2Proof.Machine

/-- Settles O48: the pairs in order, then the review of the zones whose reports they changed. -/
theorem driveTempsSetReports : Obligations.DriveTempsSetReports := by
  intro n pairs r s reaches payload length
  have permitted : RequestKind.lengthOk .driveTemps (n :: pairs) = true := decide_eq_true length
  refine ⟨fun bad => ?_, fun some' few => ?_⟩
  · refine reaches.exec_answers (k := .driveTemps) payload permitted ?_
    have refused : byteAt (n :: pairs) 0 = 0 ∨ 24 < byteAt (n :: pairs) 0 :=
      bad.imp_left fun zero : n = 0 => congrArg BitVec.toNat zero
    simp only [State.dispatch, State.driveTemps, if_pos refused]
    rfl
  · let u := (s.listening.drivePairs pairs).1
    have reports : u = s.listening.putCooling { s.listening.cooling with reports := u.cooling.reports } :=
      State.drivePairs_eq _ _
    have zones (z : Zone) : z ∈ u.zonesReported s.listening.cooling.reports ↔
        ∃ c, s.zoneOf c = z ∧ u.cooling.reports.get c ≠ s.cooling.reports.get c := by
      have zone (c : Bay) : u.zoneOf c = s.zoneOf c := by
        rw [reports]
        rfl
      simp only [State.mem_zonesReported, zone]
      rfl
    refine ⟨u, _, _, s.listening.drivePairs_give pairs, (u.reviewZones_reviews _).mono zones, ?_⟩
    refine reaches.exec_answers (k := .driveTemps) payload permitted ?_
    have taken : ¬ (byteAt (n :: pairs) 0 = 0 ∨ 24 < byteAt (n :: pairs) 0) := by
      rintro (zero | many)
      · exact some' (BitVec.eq_of_toNat_eq zero)
      · exact absurd many (Nat.not_lt.2 few)
    have count : u8 (byteAt (n :: pairs) 0) = [n] := by
      show [BitVec.ofNat 8 n.toNat] = _
      rw [BitVec.ofNat_toNat, BitVec.setWidth_eq]
    simp only [State.dispatch, State.driveTemps, if_neg taken, count]
    rfl

end Sys2Proof.Machine
end

section
/-! SUPPORT. The curve and the common settings a SET_ZONE payload carries (R131, R132, R185). -/

namespace Sys2Proof.Machine

theorem toInt_byte_ofInt {t : Int} (low : -128 ≤ t) (high : t ≤ 127) : (BitVec.ofInt 8 t).toInt = t :=
  BitVec.toInt_ofInt_eq_self (by omega) (by simpa using low) (by simp; omega)

/-- The values of a point fit the two bytes it is sent in. -/
def CurvePoint.fits (p : CurvePoint) : Prop := -128 ≤ p.temp ∧ p.temp ≤ 127 ∧ p.duty < 256

theorem CurvePoint.fits.eq {p : CurvePoint} (h : p.fits) :
    (⟨(BitVec.ofInt 8 p.temp).toInt, (BitVec.ofNat 8 p.duty).toNat⟩ : CurvePoint) = p := by
  obtain ⟨low, high, duty⟩ := h
  rw [toInt_byte_ofInt low high, BitVec.toNat_ofNat, Nat.mod_eq_of_lt duty]

/-- A curve sent in its 8 bytes is read back as it was. -/
theorem curveAt_bytes {c : Curve} (code : Byte) (rest : List Byte) (p1 : c.p1.fits) (p2 : c.p2.fits) (p3 : c.p3.fits)
    (p4 : c.p4.fits) : curveAt ([code] ++ c.bytes ++ rest) 1 = c := by
  show (⟨⟨(BitVec.ofInt 8 c.p1.temp).toInt, (BitVec.ofNat 8 c.p1.duty).toNat⟩,
    ⟨(BitVec.ofInt 8 c.p2.temp).toInt, (BitVec.ofNat 8 c.p2.duty).toNat⟩,
    ⟨(BitVec.ofInt 8 c.p3.temp).toInt, (BitVec.ofNat 8 c.p3.duty).toNat⟩,
    ⟨(BitVec.ofInt 8 c.p4.temp).toInt, (BitVec.ofNat 8 c.p4.duty).toNat⟩⟩ : Curve) = c
  rw [p1.eq, p2.eq, p3.eq, p4.eq]

theorem Curve.clamped_ok_iff (c : Curve) : c.clamped.ok = true ↔ c.clamped.legal := by
  refine ⟨Curve.clamped_legal, fun h => ?_⟩
  obtain ⟨-, t12, t23, t34, -, d12, d23, d34, -⟩ := h
  exact decide_eq_true ⟨t12, t23, t34, d12, d23, d34⟩

theorem CoolingCommon.clamped_ok_iff (c : CoolingCommon) :
    (windowAllowed c.windowMs = true ∧ c.clamped.ok = true) ↔ c.clamped.legal := by
  refine ⟨fun h => CoolingCommon.clamped_legal h.1 h.2, fun h => ?_⟩
  obtain ⟨curve, -, -, -, air, drive, window⟩ := h
  exact ⟨decide_eq_true window, decide_eq_true ⟨c.driveCurve.clamped_ok_iff.2 curve, air, drive⟩⟩

theorem zoneOfCode_number (z : Zone) : zoneOfCode z.number.val = z := by cases z <;> rfl

variable (s : State)

/-- SET_ZONE in its zone form is refused for a zone code above 3 and a curve out of order. -/
theorem State.setZone_refused {p : List Byte} (other : byteAt p 0 ≠ 3)
    (bad : 3 < byteAt p 0 ∨ (curveAt p 1).clamped.ok = false) : s.setZone p = refuse s .badValue := by
  rw [State.setZone, if_neg other, State.setZoneCurve]
  rcases bad with code | curve
  · rw [if_pos code]
  · simp only [curve, Bool.not_false, if_true, ite_self]

theorem State.setZone_written {p : List Byte} (code : byteAt p 0 < 3) (ok : (curveAt p 1).clamped.ok = true) :
    s.setZone p = (s.writeAirCurve (zoneOfCode (byteAt p 0)) (curveAt p 1).clamped,
      answer (writtenStatus ((curveAt p 1).clamped != curveAt p 1)) (u8 (byteAt p 0) ++ (curveAt p 1).clamped.bytes)) := by
  rw [State.setZone, if_neg (by omega), State.setZoneCurve]
  simp only [if_neg (show ¬ 3 < byteAt p 0 by omega), ok, Bool.not_true, Bool.false_eq_true, if_false]

theorem State.setZone_common {p : List Byte} (code : byteAt p 0 = 3) : s.setZone p = s.setZoneCommon p := if_pos code

theorem State.setZoneCommon_refused {p : List Byte}
    (bad : ¬ (windowAllowed (commonAt p).windowMs = true ∧ (commonAt p).clamped.ok = true)) :
    s.setZoneCommon p = refuse s .badValue := by
  rw [State.setZoneCommon]
  by_cases window : windowAllowed (commonAt p).windowMs = true
  · have notOk : (commonAt p).clamped.ok = false := Bool.eq_false_iff.2 fun ok => bad ⟨window, ok⟩
    simp only [notOk, Bool.not_false, if_true, ite_self]
  · exact if_pos (by simpa [CoolingCommon.clamped] using window)

theorem State.setZoneCommon_written {p : List Byte}
    (ok : windowAllowed (commonAt p).windowMs = true ∧ (commonAt p).clamped.ok = true) :
    s.setZoneCommon p = ((s.putCfg { s.cfg with common := (commonAt p).clamped }).reviewZones allZones,
      answer (writtenStatus ((commonAt p).clamped != commonAt p)) (u8 3 ++ (commonAt p).clamped.bytes)) := by
  obtain ⟨window, ok⟩ := ok
  have window' : windowAllowed (commonAt p).clamped.windowMs = true := window
  simp only [State.setZoneCommon, window', ok, Bool.not_true, Bool.false_eq_true, if_false]

end Sys2Proof.Machine
end

section
/-! The statement about the zone settings, settled. -/

namespace Sys2Proof.Machine

/-- Settles O49: the payload read back, and the checks on its clamped values. -/
theorem zoneSettingsAreCheckedAndWritten : Obligations.ZoneSettingsAreCheckedAndWritten := by
  intro z curve floor stale failover aw ac dw dc window r s two point bytes sent temp clamp c common asSent allowed refused
    reaches p1 p2 p3 p4 fits
  have read (code : Byte) (rest : List Byte) : curveAt ([code] ++ curve.bytes ++ rest) 1 = curve :=
    curveAt_bytes code rest p1 p2 p3 p4
  have alone (code : Byte) : curveAt ([code] ++ curve.bytes) 1 = curve := by
    have := read code []
    rwa [List.append_nil] at this
  refine ⟨fun payload => ?_, fun code high payload => ?_, fun payload => ?_⟩
  · replace payload : r.payload = [BitVec.ofNat 8 z.number.val] ++ curve.bytes := payload
    have code : byteAt ([BitVec.ofNat 8 z.number.val] ++ curve.bytes) 0 = z.number.val := by cases z <;> rfl
    have below : z.number.val < 3 := by cases z <;> decide
    have permitted : RequestKind.lengthOk .setZone ([BitVec.ofNat 8 z.number.val] ++ curve.bytes) = true := by
      cases z <;> rfl
    refine ⟨fun bad => ?_, fun ok => ?_⟩
    · refine reaches.exec_answers (k := .setZone) payload permitted ?_
      have notOk : curve.clamped.ok = false := Bool.eq_false_iff.2 fun ok => bad (curve.clamped_ok_iff.1 ok)
      rw [State.dispatch, State.setZone_refused _ (by omega) (.inr (by rw [alone, notOk]))]
      rfl
    · let u := s.listening.putCfg { s.cfg with airCurves := Table.put s.cfg.airCurves z.number c }
      refine ⟨u.retarget false z, ?_, u.retarget_reviews z, fun y => u.retarget_thermal false z y⟩
      refine reaches.exec_answers (k := .setZone) payload permitted ?_
      have written : (curveAt ([BitVec.ofNat 8 z.number.val] ++ curve.bytes) 1).clamped.ok = true := by
        rw [alone]
        exact curve.clamped_ok_iff.2 ok
      rw [State.dispatch, State.setZone_written _ (by omega) written, alone, code, zoneOfCode_number,
        writtenStatus_eq_clampedOr (changed := curve.clamped ≠ curve) bne_iff_ne]
      rfl
  · replace payload : r.payload = [code] ++ curve.bytes := payload
    have first : byteAt ([code] ++ curve.bytes) 0 = code.toNat := rfl
    have permitted : RequestKind.lengthOk .setZone ([code] ++ curve.bytes) = true := by
      have other : code ≠ 3 := by
        rintro rfl
        exact absurd high (by decide)
      exact (if_neg other).trans (decide_eq_true rfl)
    refine reaches.exec_answers (k := .setZone) payload permitted ?_
    rw [State.dispatch, State.setZone_refused _ (by omega) (.inl (by omega))]
    rfl
  · let rest : List Byte := [floor, stale, failover, aw, ac, dw, dc] ++ two window
    replace payload : r.payload = [3] ++ curve.bytes ++ rest := payload
    have permitted : RequestKind.lengthOk .setZone ([3] ++ curve.bytes ++ rest) = true := rfl
    have carried : commonAt ([3] ++ curve.bytes ++ rest) = asSent := by
      rw [commonAt, read]
      have windowRead : u16At ([3] ++ curve.bytes ++ rest) 16 = window := toNat_two_bytes fits
      rw [windowRead]
      rfl
    have clamps : asSent.clamped = common := rfl
    refine ⟨fun bad => ?_, fun ok => ?_⟩
    · refine reaches.exec_answers (k := .setZone) payload permitted ?_
      have notOk : ¬ (windowAllowed window = true ∧ common.ok = true) := fun ok => bad (asSent.clamped_ok_iff.1 ok)
      rw [State.dispatch, State.setZone_common _ rfl, State.setZoneCommon_refused]
      · rfl
      · rw [carried]
        exact notOk
    · let u := s.listening.putCfg { s.cfg with common := common }
      refine ⟨u.reviewZones allZones, ?_, (u.reviewZones_reviews allZones).mono fun z => by simp [mem_allZones]⟩
      refine reaches.exec_answers (k := .setZone) payload permitted ?_
      have allOk := asSent.clamped_ok_iff.2 ok
      rw [State.dispatch, State.setZone_common _ rfl, State.setZoneCommon_written _ (by rw [carried]; exact allOk), carried,
        writtenStatus_eq_clampedOr (changed := asSent.clamped ≠ asSent) bne_iff_ne]
      have answered : common.bytes = bytes c ++ [BitVec.ofNat 8 common.floorDuty, BitVec.ofNat 8 common.staleDuty,
          BitVec.ofNat 8 common.failoverDuty, BitVec.ofInt 8 common.airWarning, BitVec.ofInt 8 common.airCritical,
          BitVec.ofInt 8 common.driveWarning, BitVec.ofInt 8 common.driveCritical] ++ two window := by
        rw [CoolingCommon.bytes, u16_eq_mod]
        rfl
      rw [clamps, answered]
      rfl

end Sys2Proof.Machine
end

section
/-! SUPPORT. The write of a fan's settings (R124) and the payload of SET_FAN (R185). -/

namespace Sys2Proof.Machine

variable (s : State)

/-- The fan's state, duty and limits stand when these settings are written. -/
def State.fanStands (s : State) (f : Fan) (x : FanSettings) : Prop :=
  ((s.fanWritten f x).fan f).state = (s.fan f).state ∧ ((s.fanWritten f x).fan f).duty = (s.fan f).duty ∧
    x.idle = (s.cfg.fans.get f).idle ∧ x.full = (s.cfg.fans.get f).full

theorem State.fanWritten_fan_self (f : Fan) (x : FanSettings) :
    (s.fanWritten f x).fan f = s.fanAfterSetting f x.absent := by
  rw [State.fanWritten, State.putFan_fan, if_pos rfl]
  rfl

theorem State.writeFan_of_stands {f : Fan} {x : FanSettings} (h : s.fanStands f x) : s.writeFan f x = s.fanWritten f x := by
  obtain ⟨state, duty, limits⟩ := h
  rw [State.fanWritten_fan_self] at state duty
  exact (if_pos state).trans (if_pos ⟨state, duty, limits⟩)

theorem State.writeFan_of_notice {f : Fan} {x : FanSettings} (h : ¬ s.fanStands f x)
    (state : ((s.fanWritten f x).fan f).state = (s.fan f).state) : s.writeFan f x = (s.fanWritten f x).fanNotice f := by
  unfold State.fanStands at h
  rw [State.fanWritten_fan_self] at state h
  exact (if_pos state).trans (if_neg h)

theorem State.writeFan_of_move {f : Fan} {x : FanSettings}
    (state : ((s.fanWritten f x).fan f).state ≠ (s.fan f).state) :
    s.writeFan f x = ((s.fanWritten f x).fanNotice f).retarget false (zoneOfFan f) := by
  rw [State.fanWritten_fan_self] at state
  exact (if_neg state).trans (congrArg (fun t => State.retarget t false (zoneOfFan f)) (if_neg fun k => state k.1))

theorem State.fanWritten_zone (f : Fan) (x : FanSettings) (z : Zone) : (s.fanWritten f x).zone z = s.zone z := rfl

theorem State.writeFan_reviews (f : Fan) (x : FanSettings) :
    Reviews (fun z => z = zoneOfFan f ∧ ((s.fanWritten f x).fan f).state ≠ (s.fan f).state) (s.fanWritten f x)
      (s.writeFan f x) := by
  by_cases state : ((s.fanWritten f x).fan f).state = (s.fan f).state
  · by_cases stands : s.fanStands f x
    · rw [s.writeFan_of_stands stands]
      exact .refl _ fun z h => h.2 state
    · rw [s.writeFan_of_notice stands state]
      exact (State.fanNotice_reviews _ f).mono fun z => by simp [state]
  · rw [s.writeFan_of_move state]
    exact (State.noticed_retarget_reviews _ f).mono fun z => by simp [state]

theorem State.writeFan_thermal (f : Fan) (x : FanSettings) (z : Zone) :
    ((s.writeFan f x).zone z).thermal = (s.zone z).thermal :=
  State.writeFan_keeps (P := fun t => (t.zone z).thermal = (s.zone z).thermal) f x rfl
    (fun t h => by rw [State.fanNotice_zone]; exact h) fun t h => by rw [State.retarget_thermal]; exact h

theorem State.writeFan_sparesFans (f : Fan) (x : FanSettings) : SparesFans s (s.writeFan f x) :=
  State.writeFan_keeps (P := SparesFans s) f x (.of_events rfl) (fun t h => h.trans (t.fanNotice_sparesFans f))
    fun t h => h.trans (t.retarget_sparesFans false _)

/-- The budget unit's view of the fan: as it stands where nothing of the fan changes, else taken anew (R59). -/
theorem State.writeFan_views {f : Fan} {x : FanSettings} :
    (s.fanStands f x → (s.writeFan f x).budget.fanViews = s.budget.fanViews) ∧
      (¬ s.fanStands f x → Viewed f (s.writeFan f x)) := by
  refine ⟨fun stands => ?_, fun moves => ?_⟩
  · rw [s.writeFan_of_stands stands]
    rfl
  · by_cases state : ((s.fanWritten f x).fan f).state = (s.fan f).state
    · rw [s.writeFan_of_notice moves state]
      exact State.fanNotice_viewed _ f
    · rw [s.writeFan_of_move state]
      exact (State.fanNotice_viewed _ f).retarget _ _

theorem fanOfNumber_val (f : Fan) : fanOfNumber f.val = some f := dif_pos f.isLt

theorem fanOfNumber_eq_none {n : Nat} (h : 6 ≤ n) : fanOfNumber n = none := dif_neg (by omega)

theorem State.setFan_refused {p : List Byte} (bad : 5 < byteAt p 0 ∨ 1 < byteAt p 1) : s.setFan p = refuse s .badValue := by
  rw [State.setFan]
  rcases number : fanOfNumber (byteAt p 0) with _ | f
  · rfl
  · have absent : 1 < byteAt p 1 := by
      refine bad.resolve_left fun high => ?_
      rw [fanOfNumber_eq_none high] at number
      nomatch number
    exact if_pos absent

theorem State.setFan_written {p : List Byte} {f : Fan} (number : byteAt p 0 = f.val) (absent : byteAt p 1 ≤ 1) :
    s.setFan p = (s.writeFan f (fanSettingsAt p).clamped,
      answer (writtenStatus ((fanSettingsAt p).clamped != fanSettingsAt p))
        (u8 f.val ++ (fanSettingsAt p).clamped.bytes ++ [((s.writeFan f (fanSettingsAt p).clamped).fan f).state.byte])) := by
  rw [State.setFan, number, fanOfNumber_val]
  exact if_neg (Nat.not_lt.2 absent)

end Sys2Proof.Machine
end

section
/-! The statement about the fan settings, settled. -/

namespace Sys2Proof.Machine

/-- Settles O50: the settings parsed and clamped, and the fan's record, notice and target as they follow. -/
theorem fanSettingsMoveTheFan : Obligations.FanSettingsMoveTheFan := by
  intro n absent ppr minRpm idle full r s two x changed window reaches rpmFits idleFits fullFits payload
  have permitted : RequestKind.lengthOk .setFan r.payload = true := by rw [payload]; rfl
  have number : byteAt r.payload 0 = n.toNat := by rw [payload]; rfl
  have setting : byteAt r.payload 1 = absent.toNat := by rw [payload]; rfl
  refine ⟨fun bad => ?_, ?_⟩
  · refine reaches.exec_answers (k := .setFan) rfl permitted ?_
    rw [State.dispatch, State.setFan_refused _ (by rw [number, setting]; exact bad)]
    rfl
  · intro f named allowed was now
    have sent : fanSettingsAt r.payload = ⟨decide (absent = 1), minRpm, ppr.toNat, idle, full⟩ := by
      have rpm' : u16At r.payload 2 = minRpm := by rw [payload]; exact toNat_two_bytes rpmFits
      have idle' : u16At r.payload 5 = idle := by rw [payload]; exact toNat_two_bytes idleFits
      have full' : u16At r.payload 7 = full := by rw [payload]; exact toNat_two_bytes fullFits
      have ppr' : byteAt r.payload 4 = ppr.toNat := by rw [payload]; rfl
      have absent' : (absent.toNat == 1) = decide (absent = 1) := by
        rw [Bool.eq_iff_iff, beq_iff_eq, decide_eq_true_eq]
        exact (byte_eq_iff (n := 1) (by omega)).symm
      rw [fanSettingsAt, rpm', idle', full', ppr', setting, absent']
    have clamped : (fanSettingsAt r.payload).clamped = x := by
      rw [sent]
      rfl
    have moved : s.listening.fanAfterSetting f x.absent = now := by
      have out : (x.absent = true) ↔ absent = 1 := decide_eq_true_iff
      have there : (s.listening.fan f).state ≠ .absent ↔ ¬ (s.listening.fan f).state = .absent := Iff.rfl
      simp only [State.fanAfterSetting, out, now]
      split
      · rfl
      · rw [← ite_not]
        rfl
    have fan : (s.listening.fanWritten f x).fan f = now := (s.listening.fanWritten_fan_self f x).trans moved
    let t := s.listening.writeFan f x
    have reviews : Reviews (fun z => z = zoneOfFan f ∧ now.state ≠ was.state) (s.listening.fanWritten f x) t := by
      have := s.listening.writeFan_reviews f x
      rw [fan] at this
      exact this
    have written : s.listening.fanWritten f x =
        (s.listening.putCfg { s.cfg with fans := Table.put s.cfg.fans f x }).putFan f now := by
      rw [← moved]
      rfl
    have cfg : t.cfg.fans.get f = x := by
      rw [reviews.settles.cfg]
      exact Table.get_put_self ..
    refine ⟨t, ?_, written ▸ reviews, s.listening.writeFan_thermal f x, s.listening.writeFan_sparesFans f x, ?_⟩
    · refine reaches.exec_answers (k := .setFan) rfl permitted ?_
      have state : (t.fan f).state = now.state := (reviews.settles.fan_state f).trans (congrArg FanRecord.state fan)
      have status : writtenStatus (x != fanSettingsAt r.payload) = clampedOr changed := by
        refine writtenStatus_eq_clampedOr ?_
        rw [sent, bne_iff_ne]
      rw [State.dispatch, State.setFan_written _ (number.trans named) (by rw [setting]; exact allowed), clamped, status]
      have bytes : u8 f.val ++ x.bytes ++ [(t.fan f).state.byte] = [n, absent] ++ two x.minRpm ++ [BitVec.ofNat 8 x.ppr] ++
          two x.idle ++ two x.full ++ [now.state.byte] := by
        have first : BitVec.ofNat 8 f.val = n := by rw [← named, BitVec.ofNat_toNat, BitVec.setWidth_eq]
        have second : flag8 x.absent = [absent] := by
          rw [flag8_eq_ite]
          rcases Nat.le_one_iff_eq_zero_or_eq_one.1 allowed with zero | one
          · obtain rfl : absent = 0 := BitVec.eq_of_toNat_eq zero
            rfl
          · obtain rfl : absent = 1 := BitVec.eq_of_toNat_eq one
            rfl
        rw [FanSettings.bytes, second, u16_eq_mod, u16_eq_mod, u16_eq_mod, u8, first, state]
        rfl
      exact congrArg (fun xs => (t, answer (clampedOr changed) xs)) bytes
    · obtain ⟨stands, moves⟩ := s.listening.writeFan_views (f := f) (x := x)
      have same : s.listening.fanStands f x ↔ (now.state = was.state ∧ now.duty = was.duty ∧
          x.idle = (s.cfg.fans.get f).idle ∧ x.full = (s.cfg.fans.get f).full) := by
        rw [State.fanStands, fan]
        rfl
      by_cases still : s.listening.fanStands f x
      · rw [if_pos (same.1 still)]
        exact congrArg (fun v => Vector.get v f) (stands still)
      · rw [if_neg fun k => still (same.2 k)]
        rw [moves still, State.fanView, cfg]
        rfl

end Sys2Proof.Machine
end

section
/-! SUPPORT. The moves of one bay as the statements give them (R17): a bay prepared for its move, the removal of its queue
entry ahead of it and the join after it. -/

namespace Sys2Proof.Machine

variable {b : Bay} {s t u m : State}

/-! ## Triggers and grants across a move -/

theorem Triggered.mono {p q : Bay → Prop} (h : Triggered p t) (weaker : ∀ c, p c → q c) : Triggered q t :=
  h.imp_right fun ⟨v, last, bays⟩ => ⟨v, last, fun c k => bays c fun k' => k (weaker c k')⟩

/-- What a trigger left stands when a bay that is not RAMPING moves. -/
theorem Triggered.after_move {p : Bay → Prop} (h : Triggered p s) (own : p b) (noPass : NoPass s.arbiter t.arbiter) (time : t.time = s.time)
    (cfg : t.cfg = s.cfg) (queue : t.arbiter.queue = s.arbiter.queue) (stagger : t.arbiter.stagger = s.arbiter.stagger)
    (hold : t.arbiter.startUpHold = s.arbiter.startUpHold) (bays : ∀ c, c ≠ b → t.bay c = s.bay c)
    (state : (s.bay b).state ≠ .ramping) : Triggered p t := by
  obtain ⟨record, grants, last, mark⟩ := noPass
  rcases h with ⟨blocked, marked⟩ | ⟨v, ⟨free, vt, vc, vq, w, pass, e1, e2, e3⟩, same⟩
  · refine .inl ⟨?_, mark marked⟩
    rcases blocked with k | ⟨c, k⟩ | k | k
    · exact .inl (by rwa [stagger])
    · have other : c ≠ b := fun eq => state (eq ▸ k)
      exact .inr (.inl ⟨c, by rwa [bays c other]⟩)
    · exact .inr (.inr (.inl (by rwa [hold])))
    · exact .inr (.inr (.inr (by rwa [record])))
  · exact .inr ⟨v, ⟨free, vt.trans time.symm, vc.trans cfg.symm, vq.trans queue.symm, w, pass, last.trans e1,
      record.trans e2, grants.trans e3⟩, fun c other => (same c other).trans (bays c fun eq => other (eq ▸ own)).symm⟩

theorem Awaits.refl (b : Bay) (a : Arbiter) : Awaits b a a := fun g h => by
  refine ⟨?_, rfl, rfl⟩
  rw [if_neg fun k => by obtain ⟨⟨e, mem, same⟩, none'⟩ := k; exact none' e mem same]
  exact h

/-- A grant goes on awaiting its answer while no pass runs and the queue stands. -/
theorem Awaits.noPass {a a' a'' : Arbiter} (h : Awaits b a a') (noPass : a'.grantRecord.isSome = true → NoPass a' a'')
    (queue : a''.queue = a'.queue) : Awaits b a a'' := fun g awaited => by
  obtain ⟨record, grants, last⟩ := h g awaited
  obtain ⟨record', grants', last', -⟩ := noPass (by rw [record]; rfl)
  exact ⟨by rw [record', record, queue], grants'.trans grants, last'.trans last⟩

/-- An entry that joins does not touch the grant that awaits its answer. -/
theorem Awaits.joined {a a' a'' : Arbiter} (h : Awaits b a a') (noPass : a'.grantRecord.isSome = true → NoPass a' a'')
    (still : ∀ e ∈ a.queue, e.bay = b → ∃ x ∈ a'.queue, x.bay = b) (joins : ∃ e ∈ a''.queue, e.bay = b) : Awaits b a a'' :=
  fun g awaited => by
    obtain ⟨record, grants, last⟩ := h g awaited
    obtain ⟨record', grants', last', -⟩ := noPass (by rw [record]; rfl)
    obtain ⟨x, mem, same⟩ := joins
    rw [if_neg fun k => by
      obtain ⟨⟨e, mem, same⟩, none'⟩ := k
      obtain ⟨y, there, yb⟩ := still e mem same
      exact none' y there yb] at record
    rw [if_neg fun k => k.2 x mem same]
    exact ⟨record'.trans record, grants'.trans grants, last'.trans last⟩

/-! ## A move without a queue entry -/

theorem State.moving_arbiter (s : State) (b : Bay) (new : BayState) (timer : Option Nat) (es : List Event) :
    (s.moving b new timer es).arbiter =
      { s.arbiter with spinCount := spinCountAfter s.arbiter.spinCount (s.bay b).state new } := by
  simp [State.moving, State.noticed]

/-- A bay's leaving RAMPING, SPINNING or GRANTED is a trigger (R81). -/
theorem State.move_triggered (s : State) (b : Bay) {new : BayState} (timer : Option Nat) (es : List Event)
    (drew : (s.bay b).state.drawsInrush = true) (moves : new ≠ (s.bay b).state) : Triggered (fun c => c = b) (s.move b new timer es) := by
  have leaves : ((s.bay b).state.drawsInrush && decide ((s.bay b).state ≠ new)) = true := by
    simp [drew, Ne.symm moves]
  have notice : s.budgeted b new timer es = (State.answerGrant
      ((s.entered b new timer es).noticed b (s.bay b).state new).recompute b new).trigger := by
    rw [State.budgeted_eq, leaves]
    rfl
  have told : Triggered (fun _ => False) (s.budgeted b new timer es) := by
    rw [notice]
    exact State.trigger_triggered _
  have cooled := (State.coolingNotice_settles (s.budgeted b new timer es) b).triggered told (fun _ h => h)
  rw [State.move_cooled]
  exact (cooled.noPass (t := State.lightNotice _ b) (by rw [State.lightNotice_arbiter]) rfl rfl rfl rfl rfl rfl).mono
    fun _ h => h.elim

section
variable {new : BayState} (h1 : new ≠ .ramping) (h2 : new ≠ .granted) (timer : Option Nat) (es : List Event)

include h1 h2

/-- While a grant awaits its answer no pass runs in a move (R82). -/
theorem State.move_noPass (s : State) (b : Bay) (awaited : s.arbiter.grantRecord.isSome = true) :
    NoPass s.arbiter (s.move b new timer es).arbiter := by
  obtain ⟨u, moved, settles⟩ := s.move_eq b h1 h2 timer es
  have before : NoPass (s.moving b new timer es).arbiter u.arbiter :=
    settles.blocked (.inr (.inr (.inr (by rw [State.moving_arbiter]; exact awaited))))
  rw [moved, State.lightNotice_arbiter]
  rw [State.moving_arbiter] at before
  exact before

/-- What a trigger left stands when a bay that is not RAMPING moves, or another trigger follows it. -/
theorem State.move_keeps_triggered {p : Bay → Prop} (s : State) (b : Bay) (triggered : Triggered p s) (own : p b)
    (state : (s.bay b).state ≠ .ramping) : Triggered p (s.move b new timer es) := by
  obtain ⟨u, moved, settles⟩ := s.move_eq b h1 h2 timer es
  have moving : Triggered p (s.moving b new timer es) := by
    have arbiter := s.moving_arbiter b new timer es
    refine triggered.after_move own ?_ ?_ ?_ ?_ ?_ ?_ (fun c other => ?_) state
    · rw [arbiter]
      exact ⟨rfl, rfl, rfl, id⟩
    · simp [State.moving, State.noticed]
    · simp [State.moving, State.noticed]
    · rw [arbiter]
    · rw [arbiter]
    · rw [arbiter]
    · show (s.entered b new timer es).bay c = s.bay c
      rw [State.entered_bay, if_neg (Ne.symm other)]
  have after := settles.triggered moving fun _ h => h
  rw [moved]
  exact after.noPass (by rw [State.lightNotice_arbiter]) rfl rfl rfl rfl rfl rfl

end

theorem State.move_zone (s : State) (b : Bay) (new : BayState) (timer : Option Nat) (es : List Event) :
    ZoneRaised (s.zoneOf b) s (s.move b new timer es) := by
  have zone : (s.budgeted b new timer es).zoneOf b = s.zoneOf b := by
    rw [State.zoneOf, State.baySettings, State.budgeted_cfg, State.zoneOf, State.baySettings]
  have raised := State.retarget_raises_zone (s.budgeted b new timer es) ((s.budgeted b new timer es).zoneOf b)
  rw [zone] at raised
  rw [State.move_cooled]
  refine raised.congr (State.budgeted_cooling s b new timer es).symm ?_ ?_
  · rw [State.lightNotice_cooling, State.coolingNotice, zone]
  · rw [State.coolingNotice, zone]
    rfl

end Sys2Proof.Machine
end

section
/-! SUPPORT. A bay prepared for its move, the removal of its queue entry ahead of the move (R75) and its join after it
(R74). -/

namespace Sys2Proof.Machine

variable {b : Bay} {s t u m : State}

/-! ## Prepared for the move -/

/-- `m` is `s` with the bay's channel and record prepared for a move: its state stands, and what the other blocks hold. -/
structure Prepared (b : Bay) (s m : State) : Prop where
  same : m = { s with chans := m.chans, bays := m.bays }
  chans : ∀ c, c ≠ b → m.chan c = s.chan c
  bays : ∀ c, c ≠ b → m.bay c = s.bay c
  state : (m.bay b).state = (s.bay b).state

theorem Prepared.refl (b : Bay) (s : State) : Prepared b s s := ⟨rfl, fun _ _ => rfl, fun _ _ => rfl, rfl⟩

theorem Prepared.putChan (h : Prepared b s m) (c : Channel) : Prepared b s (m.putChan b c) where
  same := by
    rw [h.same]
    rfl
  chans d other := by
    rw [State.chan, State.putChan, Table.get_put_ne _ (Ne.symm other)]
    exact h.chans d other
  bays := h.bays
  state := h.state

theorem Prepared.toChan (h : Prepared b s m) (f : Channel → Channel) : Prepared b s (m.toChan b f) := h.putChan _

theorem Prepared.onBay (h : Prepared b s m) (f : BayRecord → BayRecord) (state : (f (m.bay b)).state = (m.bay b).state) :
    Prepared b s (m.onBay b f) where
  same := by
    rw [h.same]
    rfl
  chans := h.chans
  bays d other := by rw [State.bay_onBay, if_neg (Ne.symm other), h.bays d other]
  state := by rw [State.bay_onBay, if_pos rfl, state, h.state]

theorem Prepared.acts (h : Prepared b s m) : ActsOnBay b s m := by
  obtain ⟨same, chans, bays, state⟩ := h
  generalize m.chans = cs at same
  generalize m.bays = bs at same
  subst same
  constructor <;> intros <;> first | rfl | exact chans _ ‹_› | exact bays _ ‹_› | exact Raises.refl s | exact Extends.refl _

/-- What moves from the prepared bay moves from the bay as it was. -/
theorem Moves.prepared {events : List Event} {queue : List QueueEntry} (p : Prepared b s m) (h : Moves b events queue m t) :
    Moves b events queue s t := by
  have acts := p.acts.trans h.acts
  obtain ⟨same, chans, bays, state⟩ := p
  generalize m.chans = cs at same
  generalize m.bays = bs at same
  subst same
  obtain ⟨-, keeps, ⟨commitment, spinWait, actLight, spinCount, grantOrder⟩, ⟨more, events⟩, queue, stagger, awaits,
    triggered, zone⟩ := h
  refine ⟨acts, ⟨keeps.quarantine, keeps.reports, keeps.conditions, keeps.latn, keeps.thermal⟩, ⟨commitment, spinWait,
    actLight, ?_, ?_⟩, ⟨more, events.trans ?_⟩, queue, stagger, awaits, ?_,
    zone.congr rfl rfl rfl⟩
  · rw [spinCount, state]
  · rw [grantOrder, state]
  · exact State.raiseAll_events_congr (s := s) (t := { s with chans := cs, bays := bs }) rfl rfl _
  · rw [state] at triggered
    exact triggered

/-- Events raised ahead of a move's own. -/
theorem Moves.raised_first {first events : List Event} {queue : List QueueEntry}
    (h : Moves b events queue (s.raiseAll first) t) : Moves b (first ++ events) queue s t := by
  have acts := (s.raiseAll_acts b first).trans h.acts
  have raised : Raises (first ++ events) s t := by
    obtain ⟨more, events⟩ := h.raised
    exact ⟨more, by rw [events, List.append_assoc, State.raiseAll_append s first]⟩
  have closed := s.raiseAll_eq first
  generalize s.raiseAll first = m at *
  rw [State.putEvents] at closed
  subst closed
  obtain ⟨-, keeps, notified, -, queue, stagger, awaits, triggered, zone⟩ := h
  exact ⟨acts, ⟨keeps.quarantine, keeps.reports, keeps.conditions, keeps.latn, keeps.thermal⟩, ⟨notified.commitment,
    notified.spinWait, notified.actLight, notified.spinCount, notified.grantOrder⟩, raised, queue, stagger, awaits, triggered,
    zone.congr rfl rfl rfl⟩

/-! ## The move of a bay, its queue entry removed first -/

theorem leftBy_eq (b : Bay) (q : List QueueEntry) : leftBy b q = withoutEntry q b := by
  unfold leftBy withoutEntry
  exact List.filter_congr fun e _ => by by_cases same : e.bay = b <;> simp [same]

theorem Arbiter.holds_iff (a : Arbiter) (b : Bay) : a.holds b = true ↔ ∃ e ∈ a.queue, e.bay = b := by
  simp [Arbiter.holds]

theorem GrantRecord.without_eq (g : GrantRecord) (b : Bay) : g.without b =
    { g with bypassed := if g.bypassed = some b then none else g.bypassed, removed := g.removed || g.bay == b } := by
  unfold GrantRecord.without
  congr 1
  cases g.bypassed with
  | none => rfl
  | some h => by_cases same : h = b <;> simp [same]

/-- The queue with a bay's entry out, where that is asked for. -/
def leftIf (w : Bool) (b : Bay) (q : List QueueEntry) : List QueueEntry := if w = true then leftBy b q else q

/-- A removal request (R75, R89): the entry leaves, and the grant that awaits its answer is told; a trigger where the queue
changes. -/
structure EntryRemoved (w : Bool) (b : Bay) (s t : State) : Prop where
  same : t = s.putArbiter t.arbiter
  spinCount : t.arbiter.spinCount = s.arbiter.spinCount
  queue : t.arbiter.queue = leftIf w b s.arbiter.queue
  stagger : t.arbiter.stagger = s.arbiter.stagger
  awaits : Awaits b s.arbiter t.arbiter
  triggered : t.arbiter.queue ≠ s.arbiter.queue → Triggered (fun _ => False) t
  acts : ActsOnBay b s t

theorem State.removeEntryIf_removed (s : State) (w : Bool) (b : Bay) : EntryRemoved w b s (s.removeEntryIf w b) := by
  have acts := s.removeEntryIf_acts b w
  unfold State.removeEntryIf State.removeEntry at *
  by_cases removes : w = true
  · rw [if_pos removes] at *
    by_cases holds : s.arbiter.holds b = true
    · rw [if_pos holds] at *
      let r := s.putArbiter (s.arbiter.without b)
      have settles : Settles r r.trigger := State.trigger_settles r
      obtain ⟨e, mem, same⟩ := (s.arbiter.holds_iff b).1 holds
      refine ⟨?_, settles.spinCount, ?_, settles.stagger, fun g awaited => ?_, fun _ => State.trigger_triggered r, acts⟩
      · rfl
      · rw [settles.queue, leftIf, if_pos removes, leftBy_eq]
        rfl
      · have record : r.arbiter.grantRecord = some (g.without b) := congrArg (Option.map fun g : GrantRecord => g.without b) awaited
        obtain ⟨stands, grants, last, -⟩ := settles.blocked (.inr (.inr (.inr (by rw [record]; rfl))))
        have gone : ∀ x ∈ r.trigger.arbiter.queue, x.bay ≠ b := by
          rw [settles.queue]
          exact fun x there => by simpa using (List.mem_filter.1 there).2
        exact ⟨by rw [stands, record, if_pos ⟨⟨e, mem, same⟩, gone⟩, GrantRecord.without_eq], grants, last⟩
    · rw [if_neg holds] at *
      refine ⟨rfl, rfl, ?_, rfl, .refl b _, fun h => absurd rfl h, acts⟩
      have stands : leftBy b s.arbiter.queue = s.arbiter.queue := List.filter_eq_self.2 fun e mem =>
        decide_eq_true fun same => holds ((s.arbiter.holds_iff b).2 ⟨e, mem, same⟩)
      rw [leftIf, if_pos removes, stands]
  · rw [if_neg removes] at *
    exact ⟨rfl, rfl, (if_neg removes).symm, rfl, .refl b _, fun h => absurd rfl h, acts⟩

/-- A bay moves, its queue entry removed first where that is asked for and its channel and record prepared; it answers no
grant. -/
theorem EntryRemoved.moves {w : Bool} {r : State} (removed : EntryRemoved w b s r) (p : Prepared b r m) {new : BayState}
    (h1 : new ≠ .ramping) (h2 : new ≠ .granted) (timer : Option Nat) (es : List Event)
    (state : w = true → (s.bay b).state ≠ .ramping) :
    Moves b es (leftIf w b s.arbiter.queue) s (m.move b new timer es) := by
  have prepared := p.acts
  obtain ⟨bay, -, moveActs, keeps, notified, raised⟩ := m.move_facts b new timer es
  obtain ⟨moveQueue, moveStagger⟩ := m.move_queue b h1 h2 timer es
  have zone := m.move_zone b new timer es
  have noPass := State.move_noPass h1 h2 timer es m b
  have keepsTriggered := fun k => State.move_keeps_triggered (p := fun c => c = b) h1 h2 timer es m b k rfl
  have leaves := m.move_triggered b (new := new) timer es
  generalize m.move b new timer es = t at *
  obtain ⟨same, spinCount, queue, stagger, awaits, triggered, acts⟩ := removed
  obtain ⟨same', chans, bays, stands⟩ := p
  generalize r.arbiter = a at *
  subst same
  have calm (t : Triggered (fun _ => False) (s.putArbiter a)) (h : (s.bay b).state ≠ .ramping) :
      Triggered (fun c => c = b) m := by
    have arbiter : m.arbiter = a := congrArg State.arbiter same'
    have time : m.time = s.time := by rw [same']; rfl
    have cfg : m.cfg = s.cfg := by rw [same']; rfl
    exact Triggered.after_move (t.mono fun _ k => k.elim) rfl (arbiter.symm ▸ NoPass.refl a) time cfg
      (congrArg Arbiter.queue arbiter) (congrArg Arbiter.stagger arbiter)
      (congrArg Arbiter.startUpHold arbiter) bays h
  generalize m.chans = cs at *
  generalize m.bays = bs at *
  subst same'
  have old : (Vector.get bs b).state = (s.bay b).state := stands
  refine ⟨(acts.trans prepared).trans moveActs, ⟨keeps.quarantine, keeps.reports, keeps.conditions, keeps.latn,
    keeps.thermal⟩, ⟨notified.commitment, notified.spinWait, notified.actLight, ?_, ?_⟩, ?_, moveQueue.trans queue,
    moveStagger.trans stagger, awaits.noPass noPass moveQueue, ?_, zone.congr rfl rfl rfl⟩
  · rw [← old, ← spinCount]
    exact notified.spinCount
  · rw [← old]
    exact notified.grantOrder
  · exact Raises.congr_left (r := { s.putArbiter a with chans := cs, bays := bs }) rfl rfl raised
  · intro cause
    by_cases drew : (s.bay b).state.drawsInrush = true ∧ (t.bay b).state ≠ (s.bay b).state
    · rw [bay, ← old] at drew
      exact leaves drew.1 drew.2
    · have changed := moveQueue ▸ cause.resolve_right drew
      have still : (s.bay b).state ≠ .ramping := state (by
        by_contra stays
        exact changed (queue.trans (if_neg stays)))
      exact keepsTriggered (calm (triggered changed) still) (old.trans_ne still)

theorem State.move_moves (s : State) {new : BayState} (h1 : new ≠ .ramping) (h2 : new ≠ .granted) (w : Bool)
    (timer : Option Nat) (es : List Event) (state : w = true → (s.bay b).state ≠ .ramping) :
    Moves b es (leftIf w b s.arbiter.queue) s ((s.removeEntryIf w b).move b new timer es) :=
  (s.removeEntryIf_removed w b).moves (.refl b _) h1 h2 timer es state

/-- A prepared bay moves: its record, its channel, and the move. -/
theorem Prepared.moves (p : Prepared b s m) {new : BayState} (h1 : new ≠ .ramping) (h2 : new ≠ .granted) (w : Bool)
    (timer : Option Nat) (es : List Event) (state : w = true → (s.bay b).state ≠ .ramping) :
    ((m.removeEntryIf w b).move b new timer es).bay b = (m.bay b).enter new timer ∧
      ((m.removeEntryIf w b).move b new timer es).chan b = m.chan b ∧
      Moves b es (leftIf w b s.arbiter.queue) s ((m.removeEntryIf w b).move b new timer es) := by
  have removed := m.removeEntryIf_removed w b
  have facts := State.move_facts (m.removeEntryIf w b) b new timer es
  have arbiter : m.arbiter = s.arbiter := by rw [p.same]
  have moves := m.move_moves (b := b) h1 h2 w timer es (by rw [p.state]; exact state)
  rw [arbiter] at moves
  refine ⟨facts.bay.trans ?_, ?_, moves.prepared p⟩
  · rw [removed.same, State.bay, State.putArbiter_bays, State.bay]
  · rw [State.chan, facts.chans, removed.same, State.putArbiter_chans, State.chan]

/-! ## The join (R74) -/

theorem Settles.actLevel (h : Settles s t) (b : Bay) : t.actLevel b = s.actLevel b := by
  simp only [State.actLevel, State.bay, State.chan, h.bays, h.chans, h.lights, h.cfg]

theorem placeEntry_joined (q : List QueueEntry) (e : QueueEntry) : Joined e q (placeEntry q e) := by
  refine ⟨_, _, List.takeWhile_append_dropWhile.symm, rfl, fun x mem => by simpa using List.mem_takeWhile_imp mem,
    fun x first => ?_⟩
  have after := List.head?_dropWhile_not (fun x : QueueEntry => decide (x.cls ≤ e.cls)) q
  rw [Option.mem_def.1 first] at after
  simpa using after

theorem State.joinAt_queue (s : State) (b : Bay) (k : EntryKind) (time : EventTime) :
    (s.joinAt b k time).arbiter.queue = placeEntry s.arbiter.queue ⟨b, k, (s.baySettings b).cls, time, 0⟩ :=
  (State.trigger_settles _).queue

/-- A bay that has moved joins the queue (R22). -/
theorem Moves.joins {es : List Event} (h : Moves b es s.arbiter.queue s t) (k : EntryKind) :
    Joined ⟨b, k, (s.baySettings b).cls, s.time, 0⟩ s.arbiter.queue (t.join b k).arbiter.queue ∧
      Moves b es (t.join b k).arbiter.queue s (t.join b k) := by
  have queue := t.joinAt_queue b k t.time
  have class' : t.baySettings b = s.baySettings b := by rw [State.baySettings, h.acts.cfg, State.baySettings]
  have placed : (t.join b k).arbiter.queue = placeEntry s.arbiter.queue ⟨b, k, (s.baySettings b).cls, s.time, 0⟩ := by
    rw [State.join, queue, h.queue, class', h.acts.time]
  refine ⟨placed ▸ placeEntry_joined _ _, ?_⟩
  have joinActs := t.join_acts b k
  have triggered : Triggered (fun _ => False) (t.join b k) := State.trigger_triggered _
  have settles : Settles (t.putArbiter { t.arbiter with
      queue := placeEntry t.arbiter.queue ⟨b, k, (t.baySettings b).cls, t.time, 0⟩ }) (t.join b k) := State.trigger_settles _
  have cooling : (t.join b k).cooling = t.cooling := State.trigger_cooling _
  generalize t.join b k = u at *
  have entry : ∃ e ∈ u.arbiter.queue, e.bay = b := ⟨_, placed ▸ mem_placeEntry.2 (.inl rfl), rfl⟩
  have noPass : t.arbiter.grantRecord.isSome = true → NoPass t.arbiter u.arbiter := fun awaited =>
    settles.blocked (.inr (.inr (.inr awaited)))
  have still : ∀ e ∈ s.arbiter.queue, e.bay = b → ∃ x ∈ t.arbiter.queue, x.bay = b := fun e mem same =>
    ⟨e, h.queue ▸ mem, same⟩
  have record : u.bay b = t.bay b := congrArg (fun x => Vector.get x b) settles.bays
  have lights : u.bayLights b = t.bayLights b := congrArg (fun x : Lights => Vector.get x.bays b) settles.lights
  have chan : u.chan b = t.chan b := congrArg (fun x => Vector.get x b) settles.chans
  have phase : u.lights = t.lights := settles.lights
  obtain ⟨acts, ⟨quarantine, reports, conditions, latn, thermal⟩, ⟨commitment, spinWait, actLight, spinCount, grantOrder⟩,
    raised, -, stagger, awaits, -, zone⟩ := h
  refine ⟨acts.trans joinActs, ⟨?_, ?_, ?_, ?_, ?_⟩, ⟨?_, ?_, ?_, ?_, ?_⟩, ?_, rfl, ?_, ?_, fun _ => ?_, ?_⟩
  · exact settles.quarantine.trans quarantine
  · rw [cooling, reports]
  · rw [lights]; exact conditions
  · rw [lights, latn]
  · intro z; rw [State.zone, cooling]; exact thermal z
  · rw [settles.commitments, record]; exact commitment
  · rw [lights, record, spinWait]
  · rw [lights, actLight]; exact (settles.actLevel b).symm
  · rw [settles.spinCount, record]; exact spinCount
  · rw [settles.grantOrder, record]; exact grantOrder
  · exact raised.trans acts.time joinActs.events
  · exact settles.stagger.trans stagger
  · exact awaits.joined noPass still entry
  · exact triggered.mono fun _ h => h.elim
  · refine zone.congr rfl cooling ?_
    exact settles.zoneTarget _

end Sys2Proof.Machine
end

section
/-! SUPPORT. The reports of a channel as they are taken (R1), and a bay that moves without a queue entry. -/

namespace Sys2Proof.Machine

variable (s : State) {b : Bay} {rest : List Report}

/-- The state with the oldest report of a bay taken. -/
def State.reportTaken (b : Bay) (rest : List Report) : State := s.putChan b { s.chan b with reports := rest }

theorem State.reportTaken_prepared (b : Bay) (rest : List Report) : Prepared b s (s.reportTaken b rest) :=
  (Prepared.refl b s).putChan _

theorem State.reportTaken_bay (b c : Bay) (rest : List Report) : (s.reportTaken b rest).bay c = s.bay c := rfl

theorem State.reportTaken_chan (b : Bay) (rest : List Report) :
    (s.reportTaken b rest).chan b = { s.chan b with reports := rest } := by
  rw [State.reportTaken, State.chan_putChan, if_pos rfl]

theorem exec_contactChange {early late seated cut : Bool}
    (h : (s.chan b).reports = .contactChange early late seated cut :: rest) :
    exec (.contactChange b) s = .next ((s.reportTaken b rest).contactTaken b early late seated) := by
  show execContactChange b s = _
  rw [execContactChange, s.takeReport_cons h]
  rfl

theorem exec_seatStable {code : Code} (h : (s.chan b).reports = .seatStable code :: rest) :
    exec (.seatStable b) s = .next ((s.reportTaken b rest).seatStableTaken b code) := by
  show execSeatStable b s = _
  rw [execSeatStable, s.takeReport_cons h]
  rfl

theorem exec_rampEnd (h : (s.chan b).reports = .rampEnd :: rest) :
    exec (.rampEnd b) s = .next ((s.reportTaken b rest).rampEndTaken b) := by
  show execRampEnd b s = _
  rw [execRampEnd, s.takeReport_cons h]
  rfl

theorem exec_trip {mA : Nat} (h : (s.chan b).reports = .trip mA :: rest) :
    exec (.trip b) s = .next ((s.reportTaken b rest).tripReport b mA) := by
  show execTrip b s = _
  rw [execTrip, s.takeReport_cons h]
  rfl

theorem exec_riseCross {mA : Nat} (h : (s.chan b).reports = .riseCross mA :: rest) :
    exec (.riseCross b) s = .next ((s.reportTaken b rest).riseTaken b mA) := by
  show execRiseCross b s = _
  rw [execRiseCross, s.takeReport_cons h]
  rfl

theorem exec_fallCross {mA : Nat} (h : (s.chan b).reports = .fallCross mA :: rest) :
    exec (.fallCross b) s = .next ((s.reportTaken b rest).fallTaken b) := by
  show execFallCross b s = _
  rw [execFallCross, s.takeReport_cons h]
  rfl

variable {s}

theorem State.timing_running {st : BayState} (state : (s.bay b).state = st) (timer : (s.bay b).timer.isSome = true) :
    s.timing b st = true := by
  simp [State.timing, state, timer]

/-- A prepared bay moves without a queue entry. -/
theorem Prepared.moved {m : State} (p : Prepared b s m) {new : BayState} (h1 : new ≠ .ramping) (h2 : new ≠ .granted)
    (timer : Option Nat) (es : List Event) : (m.move b new timer es).bay b = (m.bay b).enter new timer ∧
      (m.move b new timer es).chan b = m.chan b ∧ Moves b es s.arbiter.queue s (m.move b new timer es) :=
  p.moves h1 h2 false timer es nofun

/-- A prepared bay moves to a state with an open switch. -/
theorem Prepared.opens {m : State} (p : Prepared b s m) {new : BayState} (h1 : new ≠ .ramping) (h2 : new ≠ .granted)
    (switch : new.closedSwitch = false) (timer : Option Nat) (es : List Event) :
    (m.move b new timer es).bay b = (m.bay b).openIn new timer ∧ (m.move b new timer es).chan b = m.chan b ∧
      Moves b es s.arbiter.queue s (m.move b new timer es) := by
  rw [← BayRecord.enter_open _ switch]
  exact p.moved h1 h2 timer es

/-- A prepared bay moves to a state with a closed switch. -/
theorem Prepared.closes {m : State} (p : Prepared b s m) {new : BayState} (h1 : new ≠ .ramping) (h2 : new ≠ .granted)
    (switch : new.closedSwitch = true) (timer : Option Nat) (es : List Event) :
    (m.move b new timer es).bay b = (m.bay b).closedIn new timer ∧ (m.move b new timer es).chan b = m.chan b ∧
      Moves b es s.arbiter.queue s (m.move b new timer es) := by
  rw [← BayRecord.enter_closed _ switch]
  exact p.moved h1 h2 timer es

end Sys2Proof.Machine
end

section
/-! The statements about contacts, timers and revocations, settled. -/

namespace Sys2Proof.Machine

/-- Settles O11: the report by the state it is taken in. -/
theorem contactsBeginTheSeating : Obligations.ContactsBeginTheSeating := by
  intro b early late seated cut rest s u report
  have taken := exec_contactChange s report
  have prepared := s.reportTaken_prepared b rest
  refine ⟨fun state absent => ?_, fun state there => ?_, fun state there => ?_⟩
  · rw [taken, State.contactTaken, State.reportTaken_bay, state, absent]
    rfl
  · subst there
    obtain ⟨bay, chan, moves⟩ := prepared.opens (new := .seating) nofun nofun rfl (if seated = true then none else some 10000) []
    refine ⟨_, ?_, bay, chan, moves⟩
    rw [taken, State.contactTaken, State.reportTaken_bay, state]
    rfl
  · subst there
    rw [taken, State.contactTaken, State.reportTaken_bay, state]
    cases seated <;> rfl

/-- Settles O14: the two ways back to SEATING, and the report that changes nothing. -/
theorem extractionEndsInSeating : Obligations.ExtractionEndsInSeating := by
  intro b early late seated cut rest s c state
  refine ⟨fun report contact => ?_, fun timer accepted => ?_⟩
  · have taken := exec_contactChange s report
    have some' : (!early && !late) = false := by rcases contact with rfl | rfl <;> simp
    rw [State.contactTaken, State.reportTaken_bay, state] at taken
    simp only [State.contactInExtracting, some', Bool.false_eq_true, if_false] at taken
    refine ⟨fun unseated => ?_, fun seats => ?_⟩
    · subst unseated
      exact taken
    · subst seats
      obtain ⟨bay, chan, moves⟩ := (s.reportTaken_prepared b rest).opens (new := .seating) nofun nofun rfl none
        [bayEvent .bayDisturbed b none none]
      exact ⟨_, taken, bay, chan.trans (s.reportTaken_chan b rest), moves⟩
  · obtain ⟨bay, chan, moves⟩ := (Prepared.refl b s).opens (new := .seating) nofun nofun rfl (some 10000) []
    refine ⟨_, ?_, bay, chan, moves⟩
    show execExtractionWindowExpiry b s = _
    rw [execExtractionWindowExpiry, if_pos (State.timing_running state timer), State.extractionEnds, if_pos accepted]

/-- Settles O23: the state the revocation is taken in. -/
theorem revocationsEndGrants : Obligations.RevocationsEndGrants := by
  intro b h stale pre post s u here first
  have taken := takeFirst_revocation s here first rfl
  have granted : (u.bay b).state = (s.bay b).state := rfl
  refine ⟨fun dropped => ?_, fun state fresh => ?_⟩
  · rw [taken, State.revoked]
    exact congrArg Host.Outcome.next (if_neg fun ⟨state, fresh⟩ => by
      rcases dropped with k | k
      · exact k state
      · rw [k] at fresh
        nomatch fresh)
  · obtain ⟨bay, chan, moves⟩ := (Prepared.refl b u).closes (new := .standby) nofun nofun rfl none
      [bayEvent .grantRevoked b none (some h)]
    refine ⟨_, ?_, bay, chan, moves⟩
    rw [taken, State.revoked]
    exact congrArg Host.Outcome.next (if_pos ⟨state, fresh⟩)

end Sys2Proof.Machine
end

section
/-! SUPPORT. The spins of a bay and their ends (R100 to R106), and the quarantine entry (R114). -/

namespace Sys2Proof.Machine

variable {b : Bay} {s m : State}

/-- A bay enters SPINNING, its queue entry removed first where it has one (R25, R28, R106). -/
theorem Prepared.enterSpinning (p : Prepared b s m) (w : Bool) (es : List Event)
    (state : w = true → (s.bay b).state ≠ .ramping) :
    ((m.removeEntryIf w b).enterSpinning b es).bay b = (m.bay b).closedIn .spinning (some (m.bay b).snap.spinMs) ∧
      ((m.removeEntryIf w b).enterSpinning b es).chan b =
        { m.chan b with peak := (m.chan b).live, riseWatch := none, fallWatch := none } ∧
      Moves b es (leftIf w b s.arbiter.queue) s ((m.removeEntryIf w b).enterSpinning b es) := by
  have record : (m.removeEntryIf w b).bay b = m.bay b := by
    rw [(m.removeEntryIf_removed w b).same, State.bay, State.putArbiter_bays, State.bay]
  have order : (m.removeEntryIf w b).toChan b (fun c => c.peakReset.disarm .both) =
      (m.toChan b fun c => c.peakReset.disarm .both).removeEntryIf w b := by
    cases w
    · rfl
    · exact State.removeEntry_toChan m b b _
  obtain ⟨bay, chan, moves⟩ := (p.toChan fun c => c.peakReset.disarm .both).moves (new := .spinning) nofun nofun w
    (some (m.bay b).snap.spinMs) es state
  rw [State.enterSpinning, order, record]
  exact ⟨bay.trans (BayRecord.enter_closed _ rfl _), chan.trans (by rw [State.chan_toChan, if_pos rfl]; rfl), moves⟩

theorem Prepared.spinSucceeds (p : Prepared b s m) :
    (m.spinSucceeds b).bay b = { (m.bay b).closedIn .active none with
        latest := some .success, previous := (m.bay b).latest } ∧
      (m.spinSucceeds b).chan b = { m.chan b with riseWatch := none, fallWatch := none } ∧
      Moves b [bayEvent .bayPowered b none (some (m.chan b).peak)] s.arbiter.queue s (m.spinSucceeds b) := by
  obtain ⟨bay, chan, moves⟩ := ((p.toChan fun c => c.disarm .both).onBay (fun r => r.record .success) rfl).closes
    (new := .active) nofun nofun rfl none [bayEvent .bayPowered b none (some (m.chan b).peak)]
  exact ⟨bay.trans (by rw [State.bay_onBay, if_pos rfl]; rfl), chan.trans (by
    rw [State.onBay, State.chan_putBay, State.chan_toChan, if_pos rfl]; rfl), moves⟩

theorem Prepared.spinFails (p : Prepared b s m) (o : SpinOutcome) (reading : Nat) :
    (m.spinFails b o reading).bay b = { (m.bay b).openIn .faulted (some (5000 * ((m.bay b).failCount + 1))) with
        failCount := (m.bay b).failCount + 1, latest := some o, previous := (m.bay b).latest } ∧
      (m.spinFails b o reading).chan b = { (m.chan b).openSwitch with riseWatch := none, fallWatch := none } ∧
      Moves b [bayEvent .spinFailed b (some o.byte) (some reading)] s.arbiter.queue s (m.spinFails b o reading) := by
  obtain ⟨bay, chan, moves⟩ := ((p.toChan Channel.powerOff).onBay (fun r => r.failed o) rfl).opens
    (new := .faulted) nofun nofun rfl (some (backoff ((m.bay b).failCount + 1)))
    [bayEvent .spinFailed b (some o.byte) (some reading)]
  exact ⟨bay.trans (by rw [State.bay_onBay, if_pos rfl]; rfl), chan.trans (by
    rw [State.onBay, State.chan_putBay, State.chan_toChan, if_pos rfl]; rfl), moves⟩

/-- A bay enters QUEUED and joins the queue (R22). -/
theorem Prepared.enterQueued (p : Prepared b s m) : (m.enterQueued b).bay b = (m.bay b).openIn .queued none ∧
    (m.enterQueued b).chan b = m.chan b ∧
      Joined ⟨b, .powerOn, (s.baySettings b).cls, s.time, 0⟩ s.arbiter.queue (m.enterQueued b).arbiter.queue ∧
      Moves b [] (m.enterQueued b).arbiter.queue s (m.enterQueued b) := by
  obtain ⟨bay, chan, moves⟩ := p.opens (new := .queued) nofun nofun rfl none []
  obtain ⟨joined, moves⟩ := moves.joins .powerOn
  have settles := State.trigger_settles ((m.move b .queued none []).putArbiter { (m.move b .queued none []).arbiter with
    queue := placeEntry (m.move b .queued none []).arbiter.queue ⟨b, .powerOn, ((m.move b .queued none []).baySettings b).cls,
      (m.move b .queued none []).time, 0⟩ })
  refine ⟨Eq.trans ?_ bay, Eq.trans ?_ chan, joined, moves⟩
  · exact congrArg (fun x => Vector.get x b) settles.bays
  · exact congrArg (fun x => Vector.get x b) settles.chans

theorem BayRecord.reason_eq (r : BayRecord) : r.reason = quarantineReason r := by
  have failure (o : Option SpinOutcome) : reasonOf o = if o = some .trip then some .trip else if o = some .noSpin then
      some .noSpin else if o = some .noSettle then some .noSettle else none := by
    rcases o with _ | o
    · rfl
    · cases o <;> rfl
  unfold BayRecord.reason quarantineReason
  rw [failure, failure]
  refine congrArg (fun o => Option.getD o QuarantineReason.limitLowered) ?_
  exact (Option.orElse_eq_or (f := fun _ => _)).symm

end Sys2Proof.Machine
end

section
/-! The statements about spins and bay timers, settled. -/

namespace Sys2Proof.Machine

/-- Settles O16: a spin begun by the ramp's end or a rise, by the state the report is taken in. -/
theorem reportsBeginTheSpin : Obligations.ReportsBeginTheSpin := by
  intro b mA rest s st c spins
  have begins (p : Profile) (snapshot : (s.bay b).snapshot = some p) (w : Bool) (es : List Event)
      (state : w = true → (s.bay b).state ≠ .ramping) :
      spins p es (leftIf w b s.arbiter.queue) (((s.reportTaken b rest).removeEntryIf w b).enterSpinning b es) := by
    have spun := (s.reportTaken_prepared b rest).enterSpinning w es state
    have snap : (s.bay b).snap = p := congrArg (fun x => Option.getD x profile0) snapshot
    rw [State.reportTaken_chan, State.reportTaken_bay, snap] at spun
    exact spun
  refine ⟨fun report => ⟨fun other => ?_, fun p snapshot state => ?_⟩, fun report => ⟨fun g st' w => ?_, fun p snapshot =>
    ⟨fun state => ?_, fun state => ?_, fun state => ?_⟩⟩⟩
  · rw [exec_rampEnd s report, State.rampEndTaken, State.reportTaken_bay, if_neg other]
    rfl
  · refine ⟨_, ?_, begins p snapshot false [] nofun⟩
    rw [exec_rampEnd s report, State.rampEndTaken, State.reportTaken_bay, if_pos state]
    rfl
  · rw [exec_riseCross s report, State.riseTaken, State.reportTaken_bay]
    generalize state : (s.bay b).state = x at *
    cases x with
    | granted => exact absurd state g
    | standby => exact absurd state st'
    | wakeQueued => exact absurd state w
    | empty | seating | idleOff | queued | ramping | spinning | active | poweringDown | extracting | faulted => rfl
  · replace state : (s.bay b).state = .granted := state
    refine ⟨_, ?_, begins p snapshot false [] nofun⟩
    rw [exec_riseCross s report, State.riseTaken, State.reportTaken_bay, state]
    rfl
  · replace state : (s.bay b).state = .standby := state
    refine ⟨_, ?_, begins p snapshot false _ nofun⟩
    rw [exec_riseCross s report, State.riseTaken, State.reportTaken_bay, state]
    rfl
  · replace state : (s.bay b).state = .wakeQueued := state
    have calm : (s.bay b).state ≠ .ramping := by
      rw [state]
      nofun
    refine ⟨_, ?_, begins p snapshot true _ fun _ => calm⟩
    rw [exec_riseCross s report, State.riseTaken, State.reportTaken_bay, state]
    rfl

/-- Settles O18: the checks at the spin timer in their order, and the two ends of the settle extension. -/
theorem spinsSucceedOrFail : Obligations.SpinsSucceedOrFail := by
  intro b mA rest s r c fails succeeds
  have whole := Prepared.refl b s
  refine ⟨fun p state timer snapshot still => ?_, fun state timer settling => ?_, fun report => ⟨fun state settling => ?_,
    fun other => ?_⟩⟩
  · have snap : (s.bay b).snap = p := congrArg (fun x => Option.getD x profile0) snapshot
    have taken : exec (.spinTimerExpiry b) s = .next (s.spinChecked b) := by
      have off : (s.bay b).settling = false := still
      show execSpinTimerExpiry b s = _
      rw [execSpinTimerExpiry, State.timing_running state timer, off]
      rfl
    rw [taken, State.spinChecked, snap]
    refine ⟨fun weak => ?_, fun steady settled => ?_, fun steady unsettled => ?_⟩
    · rw [if_pos weak]
      exact ⟨_, rfl, whole.spinFails .noSpin c.peak⟩
    · rw [if_neg (Nat.not_lt.2 steady), if_pos settled]
      exact ⟨_, rfl, whole.spinSucceeds⟩
    · rw [if_neg (Nat.not_lt.2 steady), if_neg (Nat.not_le.2 unsettled), State.beginSettling, snap]
      rfl
  · refine ⟨s.spinFails b .noSettle c.live, ?_, whole.spinFails .noSettle c.live⟩
    show execSettleExtensionExpiry b s = _
    rw [execSettleExtensionExpiry, State.timing_running state timer, show (s.bay b).settling = true from settling]
    rfl
  · refine ⟨_, exec_fallCross s report, ?_⟩
    rw [State.fallTaken, State.reportTaken_bay, if_pos ⟨state, settling⟩]
    have spun := (s.reportTaken_prepared b rest).spinSucceeds
    rw [State.reportTaken_chan] at spun
    exact spun
  · rw [exec_fallCross s report, State.fallTaken, State.reportTaken_bay, if_neg]
    · rfl
    · rintro ⟨state, settling⟩
      rcases other with k | k
      · exact k state
      · rw [show (s.bay b).settling = false from k] at settling
        nomatch settling

/-- Settles O19: each timer's end in the state it runs in. -/
theorem bayTimersExpire : Obligations.BayTimersExpire := by
  intro b s r reason timer
  have whole := Prepared.refl b s
  refine ⟨fun state => ?_, fun state => ?_, fun state => ?_, fun state within => ?_, fun state beyond => ?_⟩
  · show execPartialTimerExpiry b s = _
    rw [execPartialTimerExpiry, if_pos (State.timing_running state timer)]
    rfl
  · refine ⟨_, ?_, whole.closes (new := .standby) nofun nofun rfl none [bayEvent .grantExpired b none none]⟩
    show execGrantWindowExpiry b s = _
    rw [execGrantWindowExpiry, if_pos (State.timing_running state timer)]
  · refine ⟨_, ?_, whole.opens (new := .idleOff) nofun nofun rfl none []⟩
    show execDischargeExpiry b s = _
    rw [execDischargeExpiry, if_pos (State.timing_running state timer)]
  · refine ⟨s.enterQueued b, ?_, whole.enterQueued⟩
    show execBackoffExpiry b s = _
    rw [execBackoffExpiry, if_pos (State.timing_running state timer), State.backoffEnds, if_pos within]
  · obtain ⟨bay, chan, moves⟩ := whole.opens (new := .idleOff) nofun nofun rfl none []
    refine ⟨s.move b .idleOff none [], (s.move b .idleOff none []).quarantineBay b, ?_, ?_, bay, chan, moves⟩
    · show execBackoffExpiry b s = _
      rw [execBackoffExpiry, if_pos (State.timing_running state timer), State.backoffEnds, if_neg (Nat.not_le.2 beyond)]
    · have same : ((s.bay b).openIn .idleOff none).reason = reason := BayRecord.reason_eq _
      rw [State.quarantineBay, bay, moves.keeps.quarantine, moves.acts.time, same]
      rfl

end Sys2Proof.Machine
end

section
/-! SUPPORT. A bay that moves twice (R21), the bay as prepared with a condition set, and the seating completed. -/

namespace Sys2Proof.Machine

variable {b : Bay} {s t u m : State}

/-- A move in which the bay's heat and switch stand leaves every zone's target (R135). -/
theorem Moves.zoneTarget {es : List Event} {q : List QueueEntry} (h : Moves b es q s t) (heat : (s.bay b).SameHeat (t.bay b))
    (z : Zone) : t.zoneTarget z = s.zoneTarget z := by
  have zones (c : Bay) : t.zoneOf c = s.zoneOf c := by
    rw [State.zoneOf, State.baySettings, h.acts.cfg, State.zoneOf, State.baySettings]
  refine State.zoneTarget_stands z (by rw [h.acts.cfg]) (fun c => by rw [zones]) (fun c _ => ?_) (fun c _ => ?_) ?_ ?_ ?_
  · by_cases same : c = b
    · exact same ▸ heat
    · rw [h.acts.bays c same]
      exact ⟨rfl, rfl⟩
  · rw [State.freshTemp, h.keeps.reports, State.freshTemp]
  · rw [State.airTerm, State.airInput_congr h.acts.sensors, h.acts.cfg, State.airTerm]
  · rw [h.acts.sensors]
  · exact State.zoneFanFailed_congr fun f _ => by rw [h.acts.fans f]

/-- A zone raised twice to one target is raised once. -/
theorem ZoneRaised.again {z : Zone} (h1 : ZoneRaised z s t) (h2 : ZoneRaised z t u)
    (check : t.cooling.fanCheck = s.cooling.fanCheck) (target : u.zoneTarget z = t.zoneTarget z) :
    ZoneRaised z s u := by
  obtain ⟨raised, follow⟩ := h1
  obtain ⟨raised', follow'⟩ := h2
  have stands : (u.zone z).duty = (t.zone z).duty := by
    rw [raised', raised, check, target]
    split <;> omega
  refine ⟨by rw [stands, target]; exact raised, fun f hf => ?_⟩
  rw [follow' f hf, if_neg fun k => k.2 stands, stands]
  exact follow f hf

/-- A bay that draws no inrush moves on (R21). -/
theorem Moves.on {es : List Event} {q : List QueueEntry} (h : Moves b es s.arbiter.queue s t) (k : Moves b [] q t u)
    (before : (s.bay b).state.drawsInrush = false) (between : (t.bay b).state.drawsInrush = false)
    (after : (u.bay b).state.drawsInrush = false) (switch : (u.bay b).state.closedSwitch = (t.bay b).state.closedSwitch) :
    Moves b es q s u := by
  have target := k.zoneTarget ⟨by simp [BayRecord.heat, between, after], switch⟩ (s.zoneOf b)
  have notGranted {st : BayState} (calm : st.drawsInrush = false) : st ≠ .granted := by
    rintro rfl
    nomatch calm
  have zone : t.zoneOf b = s.zoneOf b := by
    rw [State.zoneOf, State.baySettings, h.acts.cfg, State.zoneOf, State.baySettings]
  have again := k.zone
  rw [zone] at again
  refine ⟨h.acts.trans k.acts, ⟨k.keeps.quarantine.trans h.keeps.quarantine, k.keeps.reports.trans h.keeps.reports,
    fun c other => (k.keeps.conditions c other).trans (h.keeps.conditions c other), k.keeps.latn.trans h.keeps.latn,
    fun z => (k.keeps.thermal z).trans (h.keeps.thermal z)⟩, ⟨k.notified.commitment, k.notified.spinWait,
    k.notified.actLight, ?_, ?_⟩, h.raised.trans h.acts.time k.raised, k.queue, k.stagger.trans h.stagger,
    fun g awaited => ?_, fun cause => ?_, h.zone.again again h.acts.fanCheck target⟩
  · have first := h.notified.spinCount
    have second := k.notified.spinCount
    simp only [before, between, after, Bool.false_eq_true, false_and, if_false] at first second ⊢
    exact second.trans first
  · have first := h.notified.grantOrder
    have second := k.notified.grantOrder
    simp only [notGranted before, notGranted between, notGranted after, false_and, if_false] at first second ⊢
    exact second.trans first
  · obtain ⟨record, grants, last⟩ := h.awaits g awaited
    rw [if_neg fun k => by
      obtain ⟨⟨e, mem, same⟩, none'⟩ := k
      exact none' e (h.queue ▸ mem) same] at record
    obtain ⟨record', grants', last'⟩ := k.awaits g record
    rw [h.queue] at record'
    exact ⟨record', grants'.trans grants, last'.trans last⟩
  · refine k.triggered (.inl ?_)
    rw [h.queue]
    exact cause.resolve_right fun ⟨drew, _⟩ => by
      rw [before] at drew
      nomatch drew

theorem Prepared.setCond (p : Prepared b s m) (c : Fin 9) (v : Bool) : Prepared b (s.setCond b c v) (m.setCond b c v) where
  same := by
    rw [p.same]
    rfl
  chans := p.chans
  bays := p.bays
  state := p.state

theorem State.removeEntryIf_setCond (s : State) (w : Bool) (b c : Bay) (k : Fin 9) (v : Bool) :
    (s.removeEntryIf w b).setCond c k v = (s.setCond c k v).removeEntryIf w b := by
  cases w
  · rfl
  · show (if s.arbiter.holds b then _ else _ : State).setCond c k v = if s.arbiter.holds b then _ else _
    split <;> rfl

end Sys2Proof.Machine
end

section
/-! The statements about trips and the seating, settled. -/

namespace Sys2Proof.Machine

/-- Settles O17: the report by the state it is taken in. -/
theorem tripsFaultTheBay : Obligations.TripsFaultTheBay := by
  intro b mA rest s r c fault report
  have taken := exec_trip s report
  have state : ((s.reportTaken b rest).bay b).state = r.state := rfl
  refine ⟨fun closed => ?_, fun opened there => ?_, fun empty => ?_⟩
  · let m := ((s.reportTaken b rest).toChan b fun c => c.disarm .both).onBay b fun r => r.failed .trip
    have prepared : Prepared b (s.setCond b 8 true) (m.setCond b 8 true) :=
      (((s.reportTaken_prepared b rest).toChan _).onBay _ rfl).setCond 8 true
    have calm : (r.state == .wakeQueued) = true → ((s.setCond b 8 true).bay b).state ≠ .ramping := fun waits => by
      have waiting : (s.bay b).state = .wakeQueued := beq_iff_eq.1 waits
      rw [State.bay_setCond, waiting]
      nofun
    have trips : (s.reportTaken b rest).tripTaken b mA = ((m.setCond b 8 true).removeEntryIf (r.state == .wakeQueued)
        b).move b .faulted (some (backoff (r.failCount + 1))) [fault] := by
      rw [← State.removeEntryIf_setCond]
      rfl
    obtain ⟨bay, chan, moves⟩ := prepared.moves (new := .faulted) nofun nofun (r.state == .wakeQueued)
      (some (backoff (r.failCount + 1))) [fault] calm
    have queue : leftIf (r.state == .wakeQueued) b s.arbiter.queue =
        if r.state = .wakeQueued then leftBy b s.arbiter.queue else s.arbiter.queue := by
      simp only [leftIf, beq_iff_eq]
    rw [← trips] at bay chan moves
    refine ⟨(s.reportTaken b rest).tripTaken b mA, ?_, bay.trans ?_, chan.trans ?_, ?_, queue ▸ moves⟩
    · rw [taken, State.tripReport, state]
      cases at' : r.state with
      | ramping | spinning | active | standby | wakeQueued | granted => rfl
      | empty | seating | idleOff | queued | poweringDown | extracting | faulted =>
        rw [at'] at closed
        nomatch closed
    · rw [State.bay_setCond, State.bay_onBay, if_pos rfl]
      rfl
    · show ((s.reportTaken b rest).toChan b fun c => c.disarm .both).chan b = _
      rw [State.chan_toChan, if_pos rfl, State.reportTaken_chan]
      rfl
    · refine (moves.keeps.conditions 8 (by decide)).trans ?_
      simp [State.setCond, State.putBayLights, State.bayLights]
  · rw [taken, State.tripReport, state]
    cases at' : r.state with
    | ramping | spinning | active | standby | wakeQueued | granted =>
      rw [at'] at opened
      nomatch opened
    | empty => exact absurd at' there
    | seating | idleOff | queued | poweringDown | extracting | faulted => rfl
  · rw [taken, State.tripReport, state, show r.state = .empty from empty]
    rfl

/-- Settles O15: the selection, the move to IDLE_OFF, and the move on to QUEUED of a bay that may queue. -/
theorem seatStableCompletesTheSeating : Obligations.SeatStableCompletesTheSeating := by
  intro b code rest s c codeByte goesOn report
  have taken := exec_seatStable s report
  refine ⟨fun other => ?_, fun state => ?_⟩
  · rw [taken, State.seatStableTaken, State.reportTaken_bay, if_neg other]
    rfl
  · let index := selectedIndex (s.cfg.matching b (some code))
    let count := (s.cfg.matching b (some code)).length
    let conflict := selectionEvents b (some code) (s.cfg.matching b (some code))
    let m := ((s.reportTaken b rest).onBay b fun r => { r with code := some code }).onBay b fun r =>
      { r with profileIndex := some index }
    have prepared : Prepared b s m := ((s.reportTaken_prepared b rest).onBay _ rfl).onBay _ rfl
    have record : m.bay b = { s.bay b with code := some code, profileIndex := some index } := by
      rw [State.bay_onBay, if_pos rfl, State.bay_onBay, if_pos rfl, State.reportTaken_bay]
    have selected : ((s.reportTaken b rest).onBay b fun r => { r with code := some code }).select b = m.raiseAll conflict := by
      have stored : (((s.reportTaken b rest).onBay b fun r => { r with code := some code }).bay b).code = some code := by
        rw [State.bay_onBay, if_pos rfl]
      rw [State.select, stored]
      rfl
    have event : conflict = if 2 ≤ count then [bayEvent .ruleConflict b (some codeByte) (some count)] else [] := rfl
    have kept : (m.raiseAll conflict).bay b = m.bay b := by rw [State.bay, State.raiseAll_bays, State.bay]
    have keptChan : (m.raiseAll conflict).chan b = m.chan b := by rw [State.chan, State.raiseAll_chans, State.chan]
    have keptQueue : (m.raiseAll conflict).arbiter.queue = s.arbiter.queue := by
      rw [State.raiseAll_arbiter, prepared.same]
    obtain ⟨bay, chan, moves⟩ := (Prepared.refl b (m.raiseAll conflict)).opens (new := .idleOff) nofun nofun rfl none
      [insertedEvent b code index]
    let v := (m.raiseAll conflict).move b .idleOff none [insertedEvent b code index]
    rw [kept, record] at bay
    rw [keptChan] at chan
    rw [keptQueue] at moves
    have moves := moves.raised_first.prepared prepared
    have completes : (s.reportTaken b rest).seatStableTaken b code = if v.mayQueue b then v.enterQueued b else v := by
      have stored : ((m.raiseAll conflict).bay b).profileIndex = some index := by rw [kept, record]
      rw [State.seatStableTaken, State.reportTaken_bay, if_pos state, State.seatCompleted, selected, stored]
      rfl
    have may : v.mayQueue b = true ↔ goesOn := by
      have settings : v.baySettings b = s.baySettings b := by rw [State.baySettings, moves.acts.cfg, State.baySettings]
      have prepared' : (v.bay b).removalPrepared = (s.bay b).removalPrepared :=
        (congrArg BayRecord.removalPrepared bay).trans rfl
      have quarantined : v.isQuarantined b = s.isQuarantined b := by
        rw [State.isQuarantined, moves.keeps.quarantine, State.isQuarantined]
      simp only [State.mayQueue, settings, prepared', quarantined, Bool.and_eq_true, beq_iff_eq, Bool.not_eq_true', goesOn,
        and_assoc]
    have queued := (Prepared.refl b v).enterQueued
    have calm : (v.bay b).state.drawsInrush = false := by rw [bay]; rfl
    have calmBefore : (s.bay b).state.drawsInrush = false := by rw [state]; rfl
    have chanOf : v.chan b = c := by
      refine chan.trans ?_
      show (s.reportTaken b rest).chan b = c
      exact s.reportTaken_chan b rest
    rw [completes] at taken
    by_cases on : goesOn
    · obtain ⟨bay', chan', joined, moves'⟩ := queued
      have goes : ((v.enterQueued b).bay b).state = .queued := by rw [bay']; rfl
      rw [if_pos (may.2 on)] at taken
      refine ⟨count, index, v.enterQueued b, taken, s.cfg.selects_matching b (some code), ?_, chan'.trans chanOf, fun _ => ?_,
        fun off => absurd on off, moves.on moves' calmBefore calm (by rw [goes]; rfl) (by rw [goes, bay]; rfl)⟩
      · rw [bay', bay, if_pos on]
        rfl
      · rw [moves.queue, moves.acts.time, State.baySettings, moves.acts.cfg] at joined
        exact joined
    · rw [if_neg fun k => on (may.1 k)] at taken
      refine ⟨count, index, v, taken, s.cfg.selects_matching b (some code), ?_, chanOf, fun k => absurd k on,
        fun _ => moves.queue, ?_⟩
      · rw [bay, if_neg on]
        rfl
      · rw [moves.queue]
        exact moves

end Sys2Proof.Machine
end

section
/-! SUPPORT. The entry to EMPTY as the statements give it (R37). -/

namespace Sys2Proof.Machine

variable {b : Bay} {s t m : State}

/-! ## The steps of the entry -/

theorem State.clearConds_eq (l : List (Fin 9)) (s : State) (b : Bay) : ∃ lights,
    l.foldl (fun t c => t.setCond b c false) s = { s with lights := lights } := by
  induction l generalizing s with
  | nil => exact ⟨s.lights, rfl⟩
  | cons c l ih =>
    obtain ⟨lights, rest⟩ := ih (s.setCond b c false)
    exact ⟨lights, by rw [List.foldl_cons, rest]; rfl⟩

theorem State.unquarantine_eq (s : State) (b : Bay) : ∃ quarantine lights,
    s.unquarantine b = { s with quarantine := quarantine, lights := lights } := by
  unfold State.unquarantine
  split
  · exact ⟨_, _, rfl⟩
  · exact ⟨s.quarantine, s.lights, rfl⟩

/-- A bay's move to EMPTY (R37). -/
def State.movedEmpty (s : State) (b : Bay) : State := s.move b .empty none (removedEvents (s.bay b) b)

theorem State.movedEmpty_facts (s : State) (b : Bay) :
    s.MoveFacts b .empty none (removedEvents (s.bay b) b) (s.movedEmpty b) := s.move_facts b .empty none _

theorem State.movedEmpty_queue (s : State) (b : Bay) : (s.movedEmpty b).arbiter.queue = s.arbiter.queue ∧
    (s.movedEmpty b).arbiter.stagger = s.arbiter.stagger ∧
    (s.arbiter.grantRecord.isSome = true → NoPass s.arbiter (s.movedEmpty b).arbiter) := by
  have stands := s.move_queue b (new := .empty) nofun nofun none (removedEvents (s.bay b) b)
  exact ⟨stands.1, stands.2, State.move_noPass (new := .empty) nofun nofun none _ s b⟩

/-- A bay that has entered EMPTY, before its drive report is discarded (R37). -/
def State.emptiedBay (s : State) (b : Bay) : State := clearedAtEmpty.foldl (fun t c => t.setCond b c false) (s.emptying b)

theorem State.emptiedBay_eq (s : State) (b : Bay) : ∃ bays quarantine lights, s.emptiedBay b =
    { s.movedEmpty b with bays := bays, quarantine := quarantine, lights := lights } := by
  let u := (s.movedEmpty b).onBay b fun r =>
    { r with code := none, profileIndex := none, failCount := 0, removalPrepared := false }
  obtain ⟨lights, cleared⟩ := State.clearConds_eq clearedAtEmpty (s.emptying b) b
  obtain ⟨quarantine, lights', unquarantined⟩ := u.unquarantine_eq b
  refine ⟨u.bays, quarantine, lights, ?_⟩
  rw [State.emptiedBay, cleared, show s.emptying b = u.unquarantine b from rfl, unquarantined]
  rfl

/-- A bay's drive report gone. -/
def State.reportDropped (s : State) (b : Bay) : State :=
  s.putCooling { s.cooling with reports := Table.put s.cooling.reports b none }

theorem State.discardReport_of_none (h : s.cooling.reports.get b = none) : s.discardReport b = s.reportDropped b := by
  have same : Table.put s.cooling.reports b none = s.cooling.reports := Table.ext_get fun i => by
    rw [Table.get_put]
    split
    · rename_i at'
      rw [← at', h]
    · rfl
  rw [State.discardReport, h, State.reportDropped, same]
  rfl

theorem State.discardReport_of_some (h : s.cooling.reports.get b ≠ none) :
    s.discardReport b = (s.reportDropped b).reviewZone (s.zoneOf b) := by
  obtain ⟨r, report⟩ := Option.ne_none_iff_exists'.1 h
  rw [State.discardReport, report]
  rfl

theorem State.discardReport_settles (s : State) (b : Bay) : Settles (s.reportDropped b) (s.discardReport b) := by
  by_cases h : s.cooling.reports.get b = none
  · rw [State.discardReport_of_none h]
  · rw [State.discardReport_of_some h]
    exact State.reviewZone_settles _ _

theorem ZoneJudged.after_raises {z : Zone} {u : State} (h : ZoneJudged z t u)
    (thermal : (t.zone z).thermal = (s.zone z).thermal) (raised : Raises [] s t) (time : t.time = s.time) :
    ZoneJudged z s u := by
  obtain ⟨judged, ys, later, told⟩ := h
  obtain ⟨xs, earlier⟩ := raised
  refine ⟨by rw [judged, thermal], xs ++ ys, ?_, fun changed => List.mem_append_right _ (told (by rwa [thermal]))⟩
  rw [later, State.raiseAll_append]
  exact State.raiseAll_events_congr earlier (by rw [time, State.raiseAll_time]) _

/-! ## The entry to EMPTY -/

theorem State.enterEmpty_get (s : State) (b : Bay) (k : Fin 9) : ((s.enterEmpty b).bayLights b).conditions.get k =
    if k ∈ clearedAtEmpty then false
    else if k = condQuarantined ∧ s.isQuarantined b = true then false
    else ((s.movedEmpty b).bayLights b).conditions.get k := by
  have quarantined : (s.movedEmpty b).isQuarantined b = s.isQuarantined b := by
    rw [State.isQuarantined, (s.movedEmpty_facts b).keeps.quarantine, State.isQuarantined]
  rw [State.enterEmpty_bayLights, State.clearConds_get, ← quarantined]
  exact if_congr Iff.rfl rfl ((State.unquarantine_get _ b k).trans rfl)

theorem State.enterEmpty_lamps (s : State) (b : Bay) :
    ((s.enterEmpty b).bayLights b).lact = ((s.movedEmpty b).bayLights b).lact ∧
      ((s.enterEmpty b).bayLights b).latn = ((s.movedEmpty b).bayLights b).latn := by
  have cleared (u : State) (l : List (Fin 9)) : ((l.foldl (fun t c => t.setCond b c false) u).bayLights b).latn =
      (u.bayLights b).latn :=
    foldl_keeps (fun t : State => (t.bayLights b).latn) (fun t c => by simp [State.bayLights_setCond]) l u
  have unquarantined (u : State) : ((u.unquarantine b).bayLights b).lact = (u.bayLights b).lact ∧
      ((u.unquarantine b).bayLights b).latn = (u.bayLights b).latn := by
    unfold State.unquarantine
    split
    · simp [State.bayLights_setCond]
    · exact ⟨rfl, rfl⟩
  rw [State.enterEmpty_bayLights, State.clearConds_lact, cleared]
  exact unquarantined _

/-- A bay enters EMPTY as R37 says. -/
theorem State.enterEmpty_emptied (s : State) (b : Bay) :
    Emptied b (s.bay b).latest (s.bay b).previous s.arbiter.queue s (s.enterEmpty b) := by
  obtain ⟨record, -, moveActs, keeps, notified, raised⟩ := s.movedEmpty_facts b
  obtain ⟨queue, stagger, noPass⟩ := s.movedEmpty_queue b
  obtain ⟨bays, quarantine, lights, emptied⟩ := s.emptiedBay_eq b
  have settles : Settles ((s.emptiedBay b).reportDropped b) (s.enterEmpty b) := State.discardReport_settles (s.emptiedBay b) b
  have reviews : (s.emptiedBay b).cooling.reports.get b ≠ none → ReviewsThermal (fun z => z = (s.emptiedBay b).zoneOf b)
      ((s.emptiedBay b).reportDropped b) (s.enterEmpty b) := fun report => by
    have reviewed := State.reviewZone_reviews ((s.emptiedBay b).reportDropped b) ((s.emptiedBay b).zoneOf b)
    rw [← State.discardReport_of_some report] at reviewed
    exact reviewed
  have unread : (s.emptiedBay b).cooling.reports.get b = none → s.enterEmpty b = (s.emptiedBay b).reportDropped b :=
    State.discardReport_of_none
  have get := s.enterEmpty_get b
  obtain ⟨lact, latn⟩ := s.enterEmpty_lamps b
  have bay : (s.enterEmpty b).bay b = (s.bay b).emptied := (s.enterEmpty_bay b b).trans (if_pos rfl)
  have state : ((s.enterEmpty b).bay b).state = ((s.movedEmpty b).bay b).state := by rw [bay, record]; rfl
  have acts := s.enterEmpty_acts b
  have gone := s.enterEmpty_quarantine b
  generalize s.enterEmpty b = t at *
  generalize s.emptiedBay b = w at *
  generalize s.movedEmpty b = v at *
  subst emptied
  have zone : v.zoneOf b = s.zoneOf b := by
    rw [State.zoneOf, State.baySettings, moveActs.cfg, State.zoneOf, State.baySettings]
  have empty : (t.bay b).state = .empty := by rw [bay]; rfl
  have later : Raises [] v t := Raises.congr_left
    (r := State.reportDropped { v with bays := bays, quarantine := quarantine, lights := lights } b) rfl rfl settles.events
  refine
    { record := bay
      removed := raised.trans moveActs.time later
      quarantine := gone
      identify := ?_
      cleared := fun c mem => (get c).trans (if_pos mem)
      quarantined := ?_
      latn := latn.trans keeps.latn
      report := ?_
      acts := acts
      notified := ⟨?_, ?_, ?_, ?_, ?_⟩
      queue := settles.queue.trans queue
      stagger := settles.stagger.trans stagger
      awaits := ?_
      judged := fun report => ?_
      triggered := fun critical left => ?_ }
  · rw [get, if_neg (by decide), if_neg fun k => absurd k.1 (by decide), keeps.conditions 0 (by decide)]
  · rw [get, if_neg (by decide), keeps.conditions 7 (by decide)]
    exact if_congr (and_iff_right rfl) rfl rfl
  · rw [settles.reports]
    exact Table.get_put_self ..
  · rw [settles.commitments, BayRecord.commitment_congr (r := v.bay b) state (by rw [bay, record]; rfl)]
    exact notified.commitment
  · rw [get, if_neg (by decide), if_neg fun k => absurd k.1 (by decide), state]
    exact notified.spinWait
  · rw [lact, notified.actLight, State.actLevel, State.actLevel, ← state, empty]
    rfl
  · rw [settles.spinCount, state]
    exact notified.spinCount
  · rw [settles.grantOrder, state]
    exact notified.grantOrder
  · have moved : Awaits b s.arbiter v.arbiter := (Awaits.refl b s.arbiter).noPass noPass queue
    exact moved.noPass (fun awaited => settles.blocked (.inr (.inr (.inr awaited)))) settles.queue
  · have read : v.cooling.reports.get b ≠ none := by rw [keeps.reports]; exact report
    have judged := (reviews read).judged (v.zoneOf b) rfl
    rw [zone] at judged
    exact judged.after_raises (keeps.thermal _) moveActs.events moveActs.time
  · by_cases read : v.cooling.reports.get b = none
    · rw [unread read] at left
      exact absurd ((keeps.thermal _).trans critical) left
    · exact (reviews read).triggered (s.zoneOf b) ((keeps.thermal _).trans critical) left

end Sys2Proof.Machine
end

section
/-! SUPPORT. The entry to EMPTY with the report taken, and the extraction (R35, R37). -/

namespace Sys2Proof.Machine

variable {b : Bay} {s t m : State}

theorem Emptied.putChan {c : Channel} {latest previous : Option SpinOutcome} {queue : List QueueEntry}
    (h : Emptied b latest previous queue (s.putChan b c) t) : Emptied b latest previous queue s t where
  record := h.record
  removed := Raises.congr_left (r := s.putChan b c) rfl rfl h.removed
  quarantine := h.quarantine
  identify := h.identify
  cleared := h.cleared
  quarantined := h.quarantined
  latn := h.latn
  report := h.report
  acts := (s.putChan_acts b c).trans h.acts
  notified := ⟨h.notified.commitment, h.notified.spinWait, h.notified.actLight, h.notified.spinCount, h.notified.grantOrder⟩
  queue := h.queue
  stagger := h.stagger
  awaits := h.awaits
  judged report := (h.judged report).after_raises rfl (Raises.refl s) rfl
  triggered := h.triggered

theorem State.enterEmpty_chan (s : State) (b : Bay) : (s.enterEmpty b).chan b = s.chan b := by
  obtain ⟨bays, quarantine, lights, emptied⟩ := s.emptiedBay_eq b
  have settles : Settles ((s.emptiedBay b).reportDropped b) (s.enterEmpty b) := State.discardReport_settles (s.emptiedBay b) b
  rw [State.chan, settles.chans, emptied]
  exact congrArg (fun x => Vector.get x b) (s.movedEmpty_facts b).chans

/-- A bay enters EMPTY from the state in which its report is taken. -/
theorem State.reportTaken_enterEmpty (s : State) (b : Bay) (rest : List Report) :
    ((s.reportTaken b rest).enterEmpty b).chan b = { s.chan b with reports := rest } ∧
      Emptied b (s.bay b).latest (s.bay b).previous s.arbiter.queue s ((s.reportTaken b rest).enterEmpty b) :=
  ⟨(State.enterEmpty_chan _ b).trans (s.reportTaken_chan b rest), (State.enterEmpty_emptied (s.reportTaken b rest) b).putChan⟩

theorem State.contactInService_lost (s : State) (b : Bay) :
    s.contactInService b false false false = (s.extract b).enterEmpty b := by
  simp only [State.contactInService, Bool.false_eq_true, if_false, Bool.not_false, Bool.and_self, if_true]

/-- A prepared bay is extracted (R35). -/
theorem Prepared.extract (p : Prepared b s m) :
    (m.extract b).bay b = ((m.bay b).recordIfSpinning .extracted).openIn .extracting (some 2000) ∧
      (m.extract b).chan b = { (m.chan b).openSwitch with riseWatch := none, fallWatch := none } ∧
      Moves b [] (leftIf ((m.bay b).state == .queued || (m.bay b).state == .wakeQueued) b s.arbiter.queue) s
        (m.extract b) := by
  have record (r : BayRecord) : (r.recordIfSpinning .extracted).state = r.state := by
    unfold BayRecord.recordIfSpinning
    split <;> rfl
  have prepared := (p.toChan Channel.powerOff).onBay (fun r => r.recordIfSpinning .extracted) (record _)
  obtain ⟨bay, chan, moves⟩ := prepared.moves (new := .extracting) nofun nofun
    ((m.bay b).state == .queued || (m.bay b).state == .wakeQueued) (some 2000) [] fun waits => by
      rw [p.state] at waits
      intro ramping
      rw [ramping] at waits
      nomatch waits
  refine ⟨bay.trans ?_, chan.trans ?_, moves⟩
  · rw [State.bay_onBay, if_pos rfl]
    exact BayRecord.enter_open _ rfl _
  · rw [State.onBay, State.chan_putBay, State.chan_toChan, if_pos rfl]
    rfl

end Sys2Proof.Machine
end

section
/-! The statements about lost contacts and extractions, settled. -/

namespace Sys2Proof.Machine

/-- Settles O12: the report by the state it is taken in, and the window's end by the accepted level. -/
theorem lostContactsEmptyTheBay : Obligations.LostContactsEmptyTheBay := by
  intro b late seated cut rest s r
  refine ⟨fun report states => ?_, fun state timer lost => ?_⟩
  · obtain ⟨chan, emptied⟩ := s.reportTaken_enterEmpty b rest
    refine ⟨_, ?_, chan, emptied⟩
    rw [exec_contactChange s report, State.contactTaken, State.reportTaken_bay]
    rcases states with state | ⟨state, lost⟩
    · rw [show (s.bay b).state = .seating from state]
      rfl
    · rw [show (s.bay b).state = .extracting from state, lost]
      rfl
  · refine ⟨_, ?_, s.enterEmpty_chan b, s.enterEmpty_emptied b⟩
    show execExtractionWindowExpiry b s = _
    rw [execExtractionWindowExpiry, if_pos (State.timing_running state timer), State.extractionEnds, lost]
    rfl

/-- Settles O13: the extraction, and the entry to EMPTY that follows it where both contacts are lost. -/
theorem unseatedBaysAreExtracted : Obligations.UnseatedBaysAreExtracted := by
  intro b early late seated cut rest s r spins latest previous queue c opened report notEmpty notSeating notExtracting
  have taken : exec (.contactChange b) s = .next ((s.reportTaken b rest).contactInService b early late seated) := by
    rw [exec_contactChange s report, State.contactTaken, State.reportTaken_bay]
    generalize at' : (s.bay b).state = st
    cases st with
    | empty => exact absurd at' notEmpty
    | seating => exact absurd at' notSeating
    | extracting => exact absurd at' notExtracting
    | idleOff | queued | ramping | spinning | active | standby | wakeQueued | granted | poweringDown | faulted => rfl
  obtain ⟨bay, chan, moves⟩ := (s.reportTaken_prepared b rest).extract
  rw [State.reportTaken_bay] at bay moves
  rw [State.reportTaken_chan] at chan
  have inFlight : r.state.spinInFlight = true ↔ spins := by
    simp only [spins]
    cases r.state <;> simp [BayState.spinInFlight]
  have record : ((s.bay b).recordIfSpinning .extracted).openIn .extracting (some 2000) =
      { r.openIn .extracting (some 2000) with latest := latest, previous := previous } := by
    unfold BayRecord.recordIfSpinning
    by_cases flies : spins
    · rw [if_pos (inFlight.2 flies)]
      simp only [latest, previous, if_pos flies]
      rfl
    · rw [if_neg fun k => flies (inFlight.1 k)]
      simp only [latest, previous, if_neg flies]
      rfl
  have left : leftIf ((s.bay b).state == .queued || (s.bay b).state == .wakeQueued) b s.arbiter.queue = queue := by
    simp only [leftIf, Bool.or_eq_true, beq_iff_eq, queue]
    rfl
  rw [record] at bay
  rw [left] at moves
  refine ⟨fun seats => ?_, fun unseated contact => ?_, fun unseated noEarly noLate => ?_⟩
  · subst seats
    exact taken
  · subst unseated
    have some' : (!early && !late) = false := by rcases contact with rfl | rfl <;> simp
    refine ⟨(s.reportTaken b rest).extract b, ?_, bay, chan, moves⟩
    rw [taken, State.contactInService, some']
    rfl
  · subst unseated noEarly noLate
    rw [State.contactInService_lost] at taken
    generalize (s.reportTaken b rest).extract b = u at *
    refine ⟨u.enterEmpty b, u, taken, bay, chan, moves, (u.enterEmpty_chan b).trans chan, ?_⟩
    have emptied := u.enterEmpty_emptied b
    rw [bay, moves.queue] at emptied
    exact emptied

end Sys2Proof.Machine
end

section
/-! SUPPORT. A move that carries out the grant awaiting it (R24, R27, R87), and the last pass behind the notices (R85). -/

namespace Sys2Proof.Machine

variable {b : Bay} {s t m : State}

/-! ## The last pass -/

/-- A pass has run, and what it left stands on the bays it ran on. -/
def RanLast (t : State) : Prop := ∃ v, LastPass v t ∧ v.bays = t.bays

theorem RanLast.congr (h : RanLast s) (arbiter : t.arbiter.queue = s.arbiter.queue ∧ t.arbiter.lastPass = s.arbiter.lastPass ∧
      t.arbiter.grantRecord = s.arbiter.grantRecord ∧ t.arbiter.grants = s.arbiter.grants)
    (time : t.time = s.time) (cfg : t.cfg = s.cfg) (bays : t.bays = s.bays) : RanLast t := by
  obtain ⟨v, ⟨free, vt, vc, vq, w, pass, last, record, grants⟩, same⟩ := h
  obtain ⟨queue, last', record', grants'⟩ := arbiter
  exact ⟨v, ⟨free, vt.trans time.symm, vc.trans cfg.symm, vq.trans queue.symm, w, pass, last'.trans last,
    record'.trans record, grants'.trans grants⟩, same.trans bays.symm⟩

theorem State.trigger_ranLast (s : State) (free : ¬ Blocked s) : RanLast s.trigger :=
  ⟨s, ⟨free, rfl, rfl, (State.trigger_settles s).queue.symm, s.trigger, State.trigger_passTaken s, rfl, rfl, rfl⟩, rfl⟩

theorem RanLast.behind : Behind RanLast := by
  refine .of_budget (fun s h => ?_) (fun s x h => ?_) (fun s x h => ?_) fun s e h => ?_
  · by_cases blocked : Blocked s
    · rw [(State.trigger_passTaken s).1 blocked]
      exact h.congr ⟨rfl, rfl, rfl, rfl⟩ rfl rfl rfl
    · exact s.trigger_ranLast blocked
  all_goals exact h.congr ⟨rfl, rfl, rfl, rfl⟩ rfl rfl rfl

/-! ## The answer of the arbiter (R87) -/

/-- A grant taken as carried out, ahead of the trigger (R87). -/
def State.grantAnswered (s : State) (g : GrantRecord) : State :=
  s.putArbiter { s.arbiter with
    queue := chargeBypass (withoutEntry s.arbiter.queue g.bay) g.bypassed
    stagger := if s.cfg.admission.stagger = 0 then none else some s.cfg.admission.stagger
    grantRecord := none }

theorem State.triggerIf_false (s : State) : s.triggerIf false = s := rfl

theorem State.answerGrant_answered {new : BayState} {g : GrantRecord} (awaits : s.arbiter.grantRecord = some g)
    (answers : Machine.grantAnswered g b new = true) : s.answerGrant b new = (s.grantAnswered g).trigger := by
  unfold State.answerGrant
  rw [awaits]
  exact if_pos answers

/-- The light controller's part of a notice leaves what the arbiter holds. -/
theorem RanLast.noticed (h : RanLast s) (b : Bay) : RanLast ((s.coolingNotice b).lightNotice b) := by
  have ran := RanLast.behind.retarget false (s.zoneOf b) h
  exact ran.congr (by rw [State.lightNotice_arbiter]; exact ⟨rfl, rfl, rfl, rfl⟩) rfl rfl rfl

/-- While passes are blocked the notices set the mark and leave what the arbiter holds (R82). -/
theorem State.trigger_waits (blocked : Blocked s) (b : Bay) :
    let t := (s.trigger.coolingNotice b).lightNotice b
    t.arbiter.grantRecord = s.arbiter.grantRecord ∧ t.arbiter.grants = s.arbiter.grants ∧ t.arbiter.pendingMark = true ∧
      t.arbiter.lastPass = s.arbiter.lastPass := by
  intro t
  have marked : s.trigger = s.putArbiter { s.arbiter with pendingMark := true } := (State.trigger_passTaken s).1 blocked
  obtain ⟨record, grants, last, mark⟩ :=
    (State.coolingNotice_settles s.trigger b).blocked (blocked.congr (by rw [marked]; rfl) (by rw [marked]; rfl)
      (by rw [marked]; rfl) (by rw [marked]; rfl))
  simp only [t, State.lightNotice_arbiter]
  rw [marked] at record grants last mark ⊢
  exact ⟨record, grants, mark rfl, last⟩

section
variable {new : BayState} (timer : Option Nat) (es : List Event) {g : GrantRecord}
  (awaits : s.arbiter.grantRecord = some g)

include awaits

/-- What a move has recomputed when its answer is taken: while the grant awaits its answer no pass has run (R82). -/
theorem State.moving_recomputed : NoPass s.arbiter (s.moving b new timer es).recompute.arbiter := by
  have held : (s.moving b new timer es).arbiter.grantRecord.isSome = true := by simp [State.moving_arbiter, awaits]
  have noPass := (State.recompute_settles (s.moving b new timer es)).blocked (.inr (.inr (.inr held)))
  rw [State.moving_arbiter] at noPass
  exact noPass

/-- A move that answers the grant: what the notices before it leave, the answer with its trigger, and the notices after. -/
theorem State.move_answers (answers : Machine.grantAnswered g b new = true) (calm : (s.bay b).state.drawsInrush = false) :
    ∃ r : State, NoPass s.arbiter r.arbiter ∧ r.arbiter.startUpHold = s.arbiter.startUpHold ∧ r.cfg = s.cfg ∧
      (∀ c, r.bay c = if b = c then (s.bay b).enter new timer else s.bay c) ∧
      s.move b new timer es = ((r.grantAnswered g).trigger.coolingNotice b).lightNotice b := by
  have noPass := s.moving_recomputed timer es awaits (b := b) (new := new)
  have settles := State.recompute_settles (s.moving b new timer es)
  have budgeted : s.budgeted b new timer es = ((s.moving b new timer es).recompute.answerGrant b new) := by
    have moving : s.moving b new timer es = (s.entered b new timer es).noticed b (s.bay b).state new := rfl
    rw [State.budgeted_eq, calm, Bool.false_and, State.triggerIf_false, moving]
  have hold : (s.moving b new timer es).arbiter.startUpHold = s.arbiter.startUpHold := by rw [State.moving_arbiter]
  have cfg : (s.moving b new timer es).cfg = s.cfg := by simp [State.moving, State.noticed]
  have bays : (s.moving b new timer es).bays = (s.entered b new timer es).bays := rfl
  rw [State.move_cooled, budgeted]
  generalize s.moving b new timer es = m at *
  generalize m.recompute = r at *
  refine ⟨r, noPass, settles.startUpHold.trans hold, settles.cfg.trans cfg, fun c => ?_, ?_⟩
  · rw [State.bay, settles.bays, bays]
    exact s.entered_bay b c new timer es
  · rw [State.answerGrant_answered (noPass.1.trans awaits) answers]

end

end Sys2Proof.Machine
end

section
/-! SUPPORT. A prepared bay that answers its grant. -/

namespace Sys2Proof.Machine

variable {b : Bay} {s t m : State}

theorem chargeBypass_eq (q : List QueueEntry) (head : Option Bay) : chargeBypass q head =
    q.map fun e => if head = some e.bay then { e with bypass := e.bypass + 1 } else e := by
  cases head with
  | none => simp [chargeBypass]
  | some h =>
    refine List.map_congr_left fun e _ => ?_
    simp only [Option.some.injEq, eq_comm]

theorem KeepsIndications.prepared (p : Prepared b s m) (h : KeepsIndications b m t) : KeepsIndications b s t := by
  obtain ⟨same, -, -, -⟩ := p
  generalize m.chans = cs at same
  generalize m.bays = bs at same
  subst same
  exact ⟨h.quarantine, h.reports, h.conditions, h.latn, h.thermal⟩

theorem Notified.prepared (p : Prepared b s m) (h : Notified b m t) : Notified b s t := by
  obtain ⟨same, -, -, state⟩ := p
  generalize m.chans = cs at same
  generalize m.bays = bs at same
  subst same
  refine ⟨h.commitment, h.spinWait, h.actLight, ?_, ?_⟩
  · rw [← state]
    exact h.spinCount
  · rw [← state]
    exact h.grantOrder

/-- A prepared bay moves as its grant says: what stands, what its notices give, and the queue and stagger timer of the
answer (R87, R90, R92). -/
theorem Prepared.granted (p : Prepared b s m) {new : BayState} {kind : EntryKind} {head : Option Bay} {removed : Bool}
    (awaits : s.arbiter.grantRecord = some ⟨b, kind, head, removed⟩)
    (answers : grantAnswered ⟨b, kind, head, removed⟩ b new = true) (timer : Option Nat) (es : List Event) :
    let t := m.move b new timer es
    t.bay b = (m.bay b).enter new timer ∧ t.chan b = m.chan b ∧ Raises es s t ∧ ActsOnBay b s t ∧ KeepsIndications b s t ∧
      Notified b s t ∧ ZoneRaised (s.zoneOf b) s t ∧
      t.arbiter.queue = (leftBy b s.arbiter.queue).map
        (fun e => if head = some e.bay then { e with bypass := e.bypass + 1 } else e) ∧
      t.arbiter.stagger = (if s.cfg.admission.stagger = 0 then none else some s.cfg.admission.stagger) := by
  intro t
  obtain ⟨bay, chans, acts, keeps, notified, raised⟩ := m.move_facts b new timer es
  have zone := m.move_zone b new timer es
  have arbiter : m.arbiter = s.arbiter := by rw [p.same]
  have cfg : m.cfg = s.cfg := by rw [p.same]
  have cooling : m.cooling = s.cooling := by rw [p.same]
  have events : m.events = s.events := by rw [p.same]
  have time : m.time = s.time := by rw [p.same]
  have zoneOf : m.zoneOf b = s.zoneOf b := by rw [State.zoneOf, State.baySettings, cfg, State.zoneOf, State.baySettings]
  obtain ⟨queue, stagger⟩ := m.move_queue_granted b (arbiter ▸ awaits) answers timer es
  rw [zoneOf] at zone
  rw [arbiter, chargeBypass_eq, ← leftBy_eq] at queue
  rw [cfg] at stagger
  exact ⟨bay, congrArg (fun x => Vector.get x b) chans, raised.congr_left events time, p.acts.trans acts, keeps.prepared p,
    notified.prepared p, zone.congr cooling.symm rfl rfl, queue, stagger⟩

theorem State.grantReached_powerOn {priced : Option (Nat × Nat)} {p : Profile}
    (takes : s.takesGrant ⟨b, .powerOn, priced, false⟩ = true) (current : s.profileOf b = p) :
    s.grantReached ⟨b, .powerOn, priced, false⟩ = ((s.onBay b fun r => { r with snapshot := some p }).toChan b
      fun c => c.closeSwitch p.trip).move b .ramping none [] := by
  subst current
  exact if_pos takes

theorem State.grantReached_wake {priced : Option (Nat × Nat)} (takes : s.takesGrant ⟨b, .wake, priced, false⟩ = true) :
    s.grantReached ⟨b, .wake, priced, false⟩ = s.wakeGranted b := if_pos takes

theorem Channel.closeSwitch_eq (c : Channel) (trip : Nat) : c.closeSwitch trip =
    if c.switch = .opened ∧ c.seated = true then
      { c with switch := .ramping, tripLevel := some trip, rampTimer := some 20, rampEndWithheld := false }
    else c := by
  unfold Channel.closeSwitch
  cases c.switch <;> simp

/-- The answer of a prepared bay whose passes stay blocked waits with its mark set (R82). -/
theorem Prepared.grant_waits (p : Prepared b s m) {new : BayState} {g : GrantRecord}
    (awaits : s.arbiter.grantRecord = some g) (answers : grantAnswered g b new = true) (timer : Option Nat) (es : List Event)
    (calm : (s.bay b).state.drawsInrush = false) (blocked : s.cfg.admission.stagger ≠ 0 ∨ new = .ramping ∨
      (∃ d, d ≠ b ∧ (s.bay d).state = .ramping) ∨ s.arbiter.startUpHold = true) :
    let t := m.move b new timer es
    t.arbiter.grantRecord = none ∧ t.arbiter.grants = s.arbiter.grants ∧ t.arbiter.pendingMark = true ∧
      t.arbiter.lastPass = s.arbiter.lastPass := by
  have arbiter : m.arbiter = s.arbiter := by rw [p.same]
  have cfg : m.cfg = s.cfg := by rw [p.same]
  obtain ⟨r, ⟨-, grants, last, -⟩, hold, cfg', bays, moved⟩ :=
    m.move_answers timer es (arbiter ▸ awaits) answers (p.state ▸ calm)
  rw [arbiter] at grants last hold
  have still : Blocked (r.grantAnswered g) := by
    rcases blocked with k | k | ⟨d, other, k⟩ | k
    · left
      show (if r.cfg.admission.stagger = 0 then none else some r.cfg.admission.stagger).isSome = true
      rw [cfg', cfg, if_neg k]
      rfl
    · refine .inr (.inl ⟨b, ?_⟩)
      show (r.bay b).state = _
      rw [bays, if_pos rfl]
      exact k
    · refine .inr (.inl ⟨d, ?_⟩)
      show (r.bay d).state = _
      rw [bays, if_neg (Ne.symm other), p.bays d other]
      exact k
    · exact .inr (.inr (.inl (hold.trans k)))
  obtain ⟨record, grants', mark, last'⟩ := State.trigger_waits still b
  intro t
  rw [show t = _ from moved]
  exact ⟨record, grants'.trans grants, mark, last'.trans last⟩

/-- The answer of a prepared bay whose passes are not blocked runs a pass (R81). -/
theorem Prepared.grant_ranLast (p : Prepared b s m) {new : BayState} {g : GrantRecord}
    (awaits : s.arbiter.grantRecord = some g) (answers : grantAnswered g b new = true) (timer : Option Nat) (es : List Event)
    (calm : (s.bay b).state.drawsInrush = false) (other : new ≠ .ramping) (stagger : s.cfg.admission.stagger = 0)
    (ramping : ∀ d, (s.bay d).state ≠ .ramping) (hold : s.arbiter.startUpHold = false) : RanLast (m.move b new timer es) := by
  have arbiter : m.arbiter = s.arbiter := by rw [p.same]
  have cfg : m.cfg = s.cfg := by rw [p.same]
  obtain ⟨r, -, hold', cfg', bays, moved⟩ := m.move_answers timer es (arbiter ▸ awaits) answers (p.state ▸ calm)
  have free : ¬ Blocked (r.grantAnswered g) := by
    rintro (k | ⟨d, k⟩ | k | k)
    · replace k : (if r.cfg.admission.stagger = 0 then none else some r.cfg.admission.stagger).isSome = true := k
      rw [cfg', cfg, if_pos stagger] at k
      nomatch k
    · replace k : (r.bay d).state = .ramping := k
      rw [bays] at k
      split at k
      · exact other k
      · rename_i different
        rw [p.bays d (Ne.symm different)] at k
        exact ramping d k
    · have k : r.arbiter.startUpHold = true := k
      rw [hold', arbiter, hold] at k
      nomatch k
    · nomatch k
  rw [moved]
  exact (State.trigger_ranLast _ free).noticed b

/-- A grant whose bay waits for it is taken (R24). -/
theorem State.takesGrant_eq_true {g : Grant} {r : GrantRecord} (fresh : g.stale = false)
    (awaits : s.arbiter.grantRecord = some r) (stands : r.removed = false)
    (matches' : match g.kind with
      | .powerOn => (s.bay g.bay).state = .queued ∧
          g.priced = some ((s.profileOf g.bay).inrush, (s.profileOf g.bay).heat)
      | .wake => (s.bay g.bay).state = .wakeQueued) : s.takesGrant g = true := by
  unfold State.takesGrant
  cases kind : g.kind with
  | powerOn =>
    rw [kind] at matches'
    simp [fresh, awaits, stands, matches'.1, matches'.2]
  | wake =>
    rw [kind] at matches'
    simp only at matches'
    simp [fresh, awaits, stands, matches']

end Sys2Proof.Machine
end

section
/-! The statement about grants carried out, settled. -/

namespace Sys2Proof.Machine

/-- Settles O20: the grant taken, the move that answers it, and the trigger of the answer, blocked or not. -/
theorem matchingGrantsAreCarriedOut : Obligations.MatchingGrantsAreCarriedOut := by
  intro b i head priced pre post s p c u window answered waits blocked first
  have whole := Prepared.refl b u
  refine ⟨fun grants record state index => ?_, fun grants record state => ?_⟩
  · have calm : (u.bay b).state.drawsInrush = false := by rw [show (u.bay b).state = .queued from state]; rfl
    have current : u.profileOf b = p := congrArg (fun i => s.cfg.profile (Option.getD i 0)) index
    let m := (u.onBay b fun r => { r with snapshot := some p }).toChan b fun c => c.closeSwitch p.trip
    have prepared : Prepared b u m := (whole.onBay _ rfl).toChan _
    have takes : u.takesGrant ⟨b, .powerOn, some (p.inrush, p.heat), false⟩ = true :=
      u.takesGrant_eq_true rfl record rfl ⟨state, by rw [current]⟩
    have taken : exec (.grantTaken b) s = .next (m.move b .ramping none []) := by
      rw [takeFirst_grant s grants first rfl, State.grantReached_powerOn takes current]
    have answers : grantAnswered ⟨b, .powerOn, head, false⟩ b .ramping = true := by simp [grantAnswered]
    obtain ⟨bay, chan, -, acts, keeps, notified, zone, queue, stagger⟩ := prepared.granted record answers none []
    refine ⟨m.move b .ramping none [], taken, bay.trans ?_, chan.trans ?_, ⟨acts, ⟨keeps.quarantine, keeps.reports,
      keeps.conditions, keeps.latn, keeps.thermal⟩, ⟨notified.commitment, notified.spinWait, notified.actLight,
      notified.spinCount, notified.grantOrder⟩, zone, queue, stagger⟩,
      prepared.grant_waits record answers none [] calm (.inr (.inl rfl))⟩
    · rw [State.bay_toChan, State.bay_onBay, if_pos rfl]
      rfl
    · rw [State.chan_toChan, if_pos rfl]
      exact Channel.closeSwitch_eq ..
  · have calm : (u.bay b).state.drawsInrush = false := by rw [show (u.bay b).state = .wakeQueued from state]; rfl
    have takes : u.takesGrant ⟨b, .wake, priced, false⟩ = true := u.takesGrant_eq_true rfl record rfl state
    have taken : exec (.grantTaken b) s = .next (u.move b .granted (some window) [bayEvent .grant b none (some window)]) := by
      rw [takeFirst_grant s grants first rfl, State.grantReached_wake takes]
      rfl
    have answers : grantAnswered ⟨b, .wake, head, false⟩ b .granted = true := by simp [grantAnswered]
    obtain ⟨bay, chan, raised, acts, keeps, notified, zone, queue, stagger⟩ := whole.granted record answers (some window)
      [bayEvent .grant b none (some window)]
    refine ⟨_, taken, bay, chan, Raises.congr_left (r := u) rfl rfl raised, ⟨acts, ⟨keeps.quarantine, keeps.reports,
      keeps.conditions, keeps.latn, keeps.thermal⟩, ⟨notified.commitment, notified.spinWait, notified.actLight,
      notified.spinCount, notified.grantOrder⟩, zone, queue, stagger⟩, fun held => ?_, fun free => ?_⟩
    · refine whole.grant_waits record answers _ _ calm ?_
      rcases held with k | ⟨d, k⟩ | k
      · exact .inl k
      · refine .inr (.inr (.inl ⟨d, fun same => ?_, k⟩))
        rw [same, state] at k
        nomatch k
      · exact .inr (.inr (.inr k))
    · refine whole.grant_ranLast record answers _ _ calm nofun ?_ (fun d k => ?_) ?_
      · by_contra k
        exact free (.inl k)
      · exact free (.inr (.inl ⟨d, k⟩))
      · exact Bool.eq_false_iff.2 fun k => free (.inr (.inr k))

end Sys2Proof.Machine
end

section
/-! SUPPORT. The bay requests for one bay (Tables 2-4 to 2-7, R34, R116). -/

namespace Sys2Proof.Machine

variable {b : Bay} {s t m : State}

/-! ## The removal-prepared flag (R32) -/

theorem State.setRemoval_prepared (s : State) (b : Bay) (v : Bool) : Prepared b (s.setCond b 5 v) (s.setRemoval b v) :=
  ((Prepared.refl b s).onBay (fun r => { r with removalPrepared := v }) rfl).setCond 5 v

theorem State.setRemoval_chan (s : State) (b : Bay) (v : Bool) : (s.setRemoval b v).chan b = s.chan b := rfl

theorem State.setRemoval_record (s : State) (b : Bay) (v : Bool) :
    (s.setRemoval b v).bay b = { s.bay b with removalPrepared := v } := (s.setRemoval_bay b b v).trans (if_pos rfl)

theorem State.setRemoval_get (s : State) (b : Bay) (v : Bool) (c : Fin 9) :
    ((s.setRemoval b v).bayLights b).conditions.get c = if (5 : Fin 9) = c then v else (s.bayLights b).conditions.get c := by
  rw [State.setRemoval, State.bayLights_setCond, if_pos rfl, Table.get_put]
  rfl

theorem State.setRemoval_zoneTarget (s : State) (b : Bay) (v : Bool) (z : Zone) :
    (s.setRemoval b v).zoneTarget z = s.zoneTarget z := by
  refine State.zoneTarget_stands z rfl (fun _ => Iff.rfl) (fun c _ => ?_) (fun _ _ => rfl) rfl rfl rfl
  rw [State.setRemoval_bay]
  split
  · rename_i same
    exact same ▸ ⟨rfl, rfl⟩
  · exact ⟨rfl, rfl⟩

/-- What moves before the flag is set moves with the condition set before it. -/
theorem Moves.setRemoval {es : List Event} {q : List QueueEntry} (h : Moves b es q s t) (v : Bool)
    (calm : (t.bay b).state ≠ .ramping) : Moves b es q (s.setCond b 5 v) (t.setRemoval b v) := by
  have record := t.setRemoval_record b v
  have get := t.setRemoval_get b v
  have state : ((t.setRemoval b v).bay b).state = (t.bay b).state := by rw [record]
  have others (c : Bay) (other : c ≠ b) : (t.setRemoval b v).bay c = t.bay c := by
    rw [t.setRemoval_bay, if_neg (Ne.symm other)]
  have lamps (u : State) (c : Bay) (other : c ≠ b) : (u.setCond b 5 v).bayLights c = u.bayLights c := by
    rw [State.bayLights_setCond, if_neg (Ne.symm other)]
  have lit : ((t.setRemoval b v).bayLights b).lact = (t.bayLights b).lact ∧
      ((t.setRemoval b v).bayLights b).latn = (t.bayLights b).latn := by
    rw [State.setRemoval, State.bayLights_setCond, if_pos rfl]
    exact ⟨rfl, rfl⟩
  have base : ∀ c, c ≠ (5 : Fin 9) → ((s.setCond b 5 v).bayLights b).conditions.get c = (s.bayLights b).conditions.get c :=
    fun c other => by rw [State.bayLights_setCond, if_pos rfl, Table.get_put, if_neg (Ne.symm other)]
  have baseLatn : ((s.setCond b 5 v).bayLights b).latn = (s.bayLights b).latn := by
    rw [State.bayLights_setCond, if_pos rfl]
  have acts : ActsOnBay b (s.setCond b 5 v) (t.setRemoval b v) :=
    { h.acts with
      bays := fun c other => (others c other).trans (h.acts.bays c other)
      lights := fun c other => by
        rw [lamps s c other]
        exact (lamps _ c other).trans (h.acts.lights c other)
      events := Raises.congr_left (r := s) rfl rfl h.acts.events }
  obtain ⟨quarantine, reports, conditions, latn, thermal⟩ := h.keeps
  obtain ⟨commitment, spinWait, actLight, spinCount, grantOrder⟩ := h.notified
  refine ⟨acts, ⟨quarantine, reports, fun c other => ?_, ?_, thermal⟩, ⟨?_, ?_, ?_, ?_, ?_⟩, ?_, h.queue, h.stagger, h.awaits,
    fun cause => ?_, h.zone.congr rfl rfl (t.setRemoval_zoneTarget b v _)⟩
  · rw [get]
    by_cases five : (5 : Fin 9) = c
    · subst five
      rw [if_pos rfl, State.bayLights_setCond, if_pos rfl, Table.get_put_self]
    · rw [if_neg five, base c (Ne.symm five), conditions c other]
  · rw [lit.2, latn, baseLatn]
  · rw [record]
    exact commitment
  · rw [get, if_neg (by decide), record]
    exact spinWait
  · rw [lit.1, actLight, State.actLevel, State.actLevel, state]
    rfl
  · rw [state]
    exact spinCount
  · rw [state]
    exact grantOrder
  · exact Raises.congr_left (r := s) rfl rfl h.raised
  · rw [state] at cause
    exact (h.triggered cause).after_move rfl ⟨rfl, rfl, rfl, id⟩ rfl rfl rfl rfl rfl others calm

/-! ## One bay of a bay request -/

theorem State.powerOnBay_gives (b : Bay) (s : State) : PowerOnGives b s (s.powerOnBay b).1 (s.powerOnBay b).2 := by
  unfold PowerOnGives State.powerOnBay
  cases (s.bay b).state with
  | idleOff =>
    by_cases listed : s.isQuarantined b = true
    · simp only [if_pos listed, and_self]
    · simp only [if_neg listed]
      obtain ⟨bay, chan, joined, moves⟩ := (s.setRemoval_prepared b false).enterQueued
      rw [s.setRemoval_record b false] at bay
      exact ⟨trivial, bay, chan, joined, moves⟩
  | queued | ramping | spinning | active | standby | wakeQueued | granted | empty | seating | poweringDown | extracting
  | faulted => exact ⟨rfl, rfl⟩

/-- A prepared bay's power is taken away (R30). -/
theorem State.powerDown_powers (s : State) (b : Bay) : PowersDown b (s.bay b).removalPrepared s s (s.powerDown b) := by
  have state (r : BayRecord) : (r.recordIfSpinning .aborted).state = r.state := by
    unfold BayRecord.recordIfSpinning
    split <;> rfl
  have prepared := ((Prepared.refl b s).toChan Channel.powerOff).onBay (fun r => r.recordIfSpinning .aborted) (state _)
  obtain ⟨bay, chan, moves⟩ := prepared.moves (new := .poweringDown) nofun nofun ((s.bay b).state == .wakeQueued)
    (some 500) [] fun waits => by
      rw [beq_iff_eq.1 waits]
      nofun
  have queue : leftIf ((s.bay b).state == .wakeQueued) b s.arbiter.queue =
      if (s.bay b).state = .wakeQueued then leftBy b s.arbiter.queue else s.arbiter.queue := by
    simp only [leftIf, beq_iff_eq]
  have inFlight : (s.bay b).state.spinInFlight = true ↔ (s.bay b).state = .ramping ∨ (s.bay b).state = .spinning := by
    cases (s.bay b).state <;> simp [BayState.spinInFlight]
  refine ⟨bay.trans ?_, chan.trans ?_, queue ▸ moves⟩
  · rw [State.bay_onBay, if_pos rfl]
    refine (BayRecord.enter_open _ rfl _).trans ?_
    rw [State.bay_toChan]
    unfold BayRecord.recordIfSpinning
    by_cases flies : (s.bay b).state = .ramping ∨ (s.bay b).state = .spinning
    · rw [if_pos (inFlight.2 flies), if_pos flies, if_pos flies]
      rfl
    · rw [if_neg fun k => flies (inFlight.1 k), if_neg flies, if_neg flies]
      rfl
  · show ((s.toChan b Channel.powerOff).chan b) = _
    rw [State.chan_toChan, if_pos rfl]
    rfl

/-- A power-off that then sets or clears the removal flag. -/
theorem PowersDown.setRemoval {v : Bool} (h : PowersDown b v s s t) (w : Bool) :
    PowersDown b w (s.setCond b 5 w) s (t.setRemoval b w) := by
  obtain ⟨bay, chan, moves⟩ := h
  have state : (t.bay b).state = .poweringDown := by
    rw [bay]
    rfl
  refine ⟨?_, (t.setRemoval_chan b w).trans chan, moves.setRemoval w ?_⟩
  · rw [State.setRemoval_record, bay]
  · rw [state]
    decide

theorem State.powerOffBay_gives (b : Bay) (s : State) : PowerOffGives b s (s.powerOffBay b).1 (s.powerOffBay b).2 := by
  unfold PowerOffGives State.powerOffBay
  have down := s.powerDown_powers b
  generalize state : (s.bay b).state = st
  cases st with
  | queued =>
    obtain ⟨bay, chan, moves⟩ := (Prepared.refl b s).moves (new := .idleOff) nofun nofun true none [] fun _ => by
      rw [state]
      nofun
    exact ⟨rfl, bay.trans (BayRecord.enter_open _ rfl _), chan, moves⟩
  | faulted =>
    obtain ⟨bay, chan, moves⟩ := (Prepared.refl b s).opens (new := .idleOff) nofun nofun rfl none []
    exact ⟨rfl, bay, chan, moves⟩
  | ramping | spinning | active | standby | wakeQueued | granted => exact ⟨rfl, down⟩
  | idleOff | poweringDown | empty | seating | extracting => exact ⟨rfl, rfl⟩

theorem State.prepareBay_gives (b : Bay) (s : State) : PrepareGives b s (s.prepareBay b).1 (s.prepareBay b).2 := by
  unfold PrepareGives State.prepareBay
  have down := (s.powerDown_powers b).setRemoval true
  generalize state : (s.bay b).state = st
  cases st with
  | queued =>
    have removed := (s.setCond b 5 true).removeEntryIf_removed true b
    rw [← State.removeEntryIf_setCond] at removed
    have prepared : Prepared b ((s.removeEntryIf true b).setCond b 5 true) ((s.removeEntry b).setRemoval b true) :=
      (s.removeEntry b).setRemoval_prepared b true
    have facts := ((s.removeEntry b).setRemoval b true).move_facts b .idleOff none []
    have moves := removed.moves prepared (new := .idleOff) nofun nofun none [] fun _ => by
      rw [State.bay_setCond, state]
      nofun
    have same := (s.removeEntryIf_removed true b).same
    have record : (s.removeEntry b).bay b = s.bay b := (congrArg (fun t : State => t.bay b) same).trans rfl
    have chan : (s.removeEntry b).chan b = s.chan b := (congrArg (fun t : State => t.chan b) same).trans rfl
    refine ⟨rfl, facts.bay.trans ?_, (congrArg (fun x => Vector.get x b) facts.chans).trans chan, moves⟩
    rw [State.setRemoval_record, record]
    exact BayRecord.enter_open _ rfl _
  | faulted =>
    obtain ⟨bay, chan, moves⟩ := (s.setRemoval_prepared b true).opens (new := .idleOff) nofun nofun rfl none []
    rw [State.setRemoval_record] at bay
    exact ⟨rfl, bay, chan, moves⟩
  | idleOff | poweringDown => exact ⟨rfl, rfl⟩
  | ramping | spinning | active | standby | wakeQueued | granted => exact ⟨rfl, down⟩
  | empty | seating | extracting => exact ⟨rfl, rfl⟩

theorem State.spinRequestBay_gives (b : Bay) (s : State) :
    SpinRequestGives b s (s.spinRequestBay b).1 (s.spinRequestBay b).2 := by
  unfold SpinRequestGives State.spinRequestBay
  cases (s.bay b).state with
  | standby =>
    obtain ⟨bay, chan, moves⟩ := (Prepared.refl b s).closes (new := .wakeQueued) nofun nofun rfl none []
    obtain ⟨joined, moves⟩ := moves.joins .wake
    exact ⟨rfl, bay, chan, joined, moves⟩
  | wakeQueued | granted | empty | seating | idleOff | queued | ramping | spinning | active | poweringDown | extracting
  | faulted => exact ⟨rfl, rfl⟩

theorem State.spinDownBay_gives (b : Bay) (s : State) : SpinDownGives b s (s.spinDownBay b).1 (s.spinDownBay b).2 := by
  unfold SpinDownGives State.spinDownBay
  cases (s.bay b).state with
  | active =>
    obtain ⟨bay, chan, moves⟩ := ((Prepared.refl b s).toChan fun c => c.armRise (s.bay b).snap.steady).closes
      (new := .standby) nofun nofun rfl none []
    refine ⟨rfl, bay, fun p snapshot => chan.trans ?_, moves⟩
    rw [State.chan_toChan, if_pos rfl, BayRecord.snap, snapshot]
    rfl
  | standby | wakeQueued | granted | empty | seating | idleOff | queued | ramping | spinning | poweringDown | extracting
  | faulted => exact ⟨rfl, rfl⟩

theorem State.setPolicyBay_zone (s : State) (b : Bay) (policy : Option Policy) (cls : Option (Fin 3)) (z : Zone) :
    s.setPolicyBay ⟨policy, cls, some z⟩ b = ((s.putCfg { s.cfg with
      bays := Table.put s.cfg.bays b (BaySettings.mk (policy.getD (s.baySettings b).policy) (cls.getD (s.baySettings b).cls)
        ((some z).getD (s.baySettings b).zone)) }).zoneNotice (s.zoneOf b) z, .ok) := by
  rw [State.setPolicyBay]
  rfl

theorem State.setPolicyBay_gives (w : PolicyWrite) (b : Bay) (s : State) :
    PolicyGives w.policy w.cls w.zone b s (s.setPolicyBay w b).1 (s.setPolicyBay w b).2 := by
  obtain ⟨policy, cls, zone⟩ := w
  refine ⟨rfl, fun keeps => ?_, fun z writes => ?_⟩
  · replace keeps : zone = none := keeps
    subst keeps
    rfl
  · replace writes : zone = some z := writes
    subst writes
    have noticed (u : State) : ReviewsThermal (fun y => y = s.zoneOf b ∨ y = z) u (u.zoneNotice (s.zoneOf b) z) :=
      (u.reviewZones_reviews [s.zoneOf b, z]).mono fun y => by simp
    rw [State.setPolicyBay_zone]
    dsimp only
    exact noticed _

theorem State.clearQuarantineBay_gives (b : Bay) (s : State) :
    ClearQuarantineGives b s (s.clearQuarantineBay b).1 (s.clearQuarantineBay b).2 := by
  refine ⟨rfl, ?_⟩
  unfold State.clearQuarantineBay State.unquarantine
  by_cases listed : s.isQuarantined b = true
  · simp only [if_pos listed]
    rfl
  · simp only [if_neg listed]

end Sys2Proof.Machine
end

section
/-! The statement about the bay requests, settled. -/

namespace Sys2Proof.Machine

theorem toNat_eq_ff_iff (x : Byte) : x.toNat = 255 ↔ x = 0xff := by bv_omega

theorem unlessFF_toNat {α : Type} (x : Byte) (v : α) : unlessFF x.toNat v = if x = 0xff then none else some v := by
  simp only [unlessFF, toNat_eq_ff_iff]

theorem toNat_eq_zero_iff (x : Byte) : x.toNat = 0 ↔ x = 0 := by bv_omega

theorem toNat_eq_one_iff (x : Byte) : x.toNat = 1 ↔ x = 1 := by bv_omega

theorem unlessFF_classOfCode (x : Byte) : unlessFF x.toNat (classOfCode x.toNat) =
    if x = 0xff then none else if x = 0 then some 0 else if x = 1 then some 1 else some 2 := by
  simp only [unlessFF_toNat, classOfCode, toNat_eq_zero_iff, toNat_eq_one_iff, apply_ite some]

theorem unlessFF_zoneOfCode (x : Byte) : unlessFF x.toNat (zoneOfCode x.toNat) =
    if x = 0xff then none else if x = 0 then some .a else if x = 1 then some .b else some .c := by
  simp only [unlessFF_toNat, zoneOfCode, toNat_eq_zero_iff, toNat_eq_one_iff, apply_ite some]

theorem clampedCode_toNat (x : Byte) : clampedCode x.toNat = true ↔ 2 < x.toNat ∧ x ≠ 0xff := by
  rw [clampedCode, decide_eq_true_iff, Ne, toNat_eq_ff_iff]

/-- Settles O42: each bay of the list in turn has what its table gives for the state it is in. -/
theorem bayRequestsActBayByBay : Obligations.BayRequestsActBayByBay := by
  intro r bays s acts reaches
  refine ⟨fun names => ?_, ?_⟩
  · have permitted {k : RequestKind} (permits : k.lengthOk r.payload = bayListFits r.payload) :
        k.lengthOk r.payload = true := permits.trans (bayListFits_of_names names)
    exact ⟨reaches.exec_onBayList (k := .powerOn) names (permitted rfl) rfl State.powerOnBay_gives,
      reaches.exec_onBayList (k := .powerOff) names (permitted rfl) rfl State.powerOffBay_gives,
      reaches.exec_onBayList (k := .prepareRemoval) names (permitted rfl) rfl State.prepareBay_gives,
      reaches.exec_onBayList (k := .spinRequest) names (permitted rfl) rfl State.spinRequestBay_gives,
      reaches.exec_onBayList (k := .spinDownNote) names (permitted rfl) rfl State.spinDownBay_gives,
      reaches.exec_onBayList (k := .clearQuarantine) names (permitted rfl) rfl State.clearQuarantineBay_gives⟩
  intro policy cls zone list policyTo clsTo zoneTo clamped payload names
  have first : byteAt r.payload 0 = policy.toNat := by rw [payload]; rfl
  have permitted : RequestKind.setBayPolicy.lengthOk r.payload = true := by
    rw [payload]
    simp [RequestKind.lengthOk, bayListFits_of_names names]
  refine ⟨fun ofPolicy => ?_, fun beyond other => ?_⟩
  · have second : byteAt r.payload 1 = cls.toNat := by rw [payload]; rfl
    have third : byteAt r.payload 2 = zone.toNat := by rw [payload]; rfl
    have dropped : r.payload.drop 3 = list := by rw [payload]; rfl
    have named : policy.toNat ≤ 1 ∨ policy.toNat = 255 := by
      rcases ofPolicy with rfl | rfl | rfl <;> decide
    have carried := s.listening.setBayPolicy_eq_onBayList (p := r.payload) (first ▸ named)
    have status : writtenStatus (clampedCode cls.toNat || clampedCode zone.toNat) = clampedOr clamped :=
      writtenStatus_eq_clampedOr (by rw [Bool.or_eq_true, clampedCode_toNat, clampedCode_toNat])
    have policyEq : unlessFF policy.toNat (if policy.toNat = 0 then Policy.auto else .hold) = policyTo := by
      simp only [unlessFF_toNat, toNat_eq_zero_iff, apply_ite some]
      rfl
    rw [first, second, third, dropped, status, policyEq, unlessFF_classOfCode, unlessFF_zoneOfCode] at carried
    exact reaches.exec_onBayList (k := .setBayPolicy) names permitted carried (State.setPolicyBay_gives _)
  · have carried := s.listening.setBayPolicy_eq_refuse (p := r.payload) (first ▸ beyond) (by
      rw [first, Ne, toNat_eq_ff_iff]
      exact other)
    exact reaches.exec_answers (k := .setBayPolicy) rfl permitted carried

end Sys2Proof.Machine
end

section
/-! SUPPORT. The quarantine check on a lowered retry limit (R113, R114). -/

namespace Sys2Proof.Machine

variable {b : Bay} {s t u : State}

/-- The entry a quarantined bay is given (R114). -/
def State.quarantineEntryOf (s : State) (b : Bay) : QuarantineEntry :=
  ⟨b, (s.bay b).code, quarantineReason (s.bay b), (s.bay b).failCount, s.time⟩

/-- The event a quarantined bay raises (R114). -/
def State.quarantineEventOf (s : State) (b : Bay) : Event :=
  bayEvent .bayQuarantined b (some (quarantineReason (s.bay b)).byte) (some (s.bay b).failCount)

/-- `t` is `s` after bay `b` has gone to IDLE_OFF and been quarantined, its queue entry removed first where it was QUEUED. -/
structure BayChecked (b : Bay) (s t : State) : Prop where
  bay : t.bay b = (s.bay b).openIn .idleOff none
  bays : ∀ c, c ≠ b → t.bay c = s.bay c
  condition : (t.bayLights b).conditions.get 7 = true
  lights : ∀ c, c ≠ b → t.bayLights c = s.bayLights c
  quarantine : t.quarantine = s.quarantine ++ [s.quarantineEntryOf b]
  events : ∃ more, t.events = (s.raiseAll (more ++ [s.quarantineEventOf b])).events
  queue : t.arbiter.queue = leftIf ((s.bay b).state == .queued) b s.arbiter.queue
  triggered : t.arbiter.queue ≠ s.arbiter.queue ∨ Triggered (fun _ => True) s → Triggered (fun _ => True) t
  time : t.time = s.time

theorem Triggered.removeEntryIf {p : Bay → Prop} (h : Triggered p s) (w : Bool) (b : Bay) :
    Triggered p (s.removeEntryIf w b) := by
  unfold State.removeEntryIf State.removeEntry
  split
  · split
    · exact (State.trigger_triggered _).mono fun _ k => k.elim
    · exact h
  · exact h

theorem Triggered.quarantineBay {p : Bay → Prop} (h : Triggered p s) (b : Bay) : Triggered p (s.quarantineBay b) :=
  h.noPass (t := s.quarantineBay b) (NoPass.refl s.arbiter) rfl rfl rfl rfl rfl rfl

theorem State.quarantineBay_lamp (s : State) (b : Bay) : ((s.quarantineBay b).bayLights b).conditions.get 7 = true := by
  show ((s.setCond b 7 true).bayLights b).conditions.get 7 = true
  rw [State.bayLights_setCond, if_pos rfl, Table.get_put_self]

/-- A bay found over the limit (R113). -/
theorem State.quarantined_checked (s : State) (b : Bay) (calm : (s.bay b).state ≠ .ramping) :
    BayChecked b s (((s.removeEntryIf ((s.bay b).state == .queued) b).move b .idleOff none []).quarantineBay b) := by
  have triggered (h : Triggered (fun _ => True) s) :=
    State.move_keeps_triggered (new := .idleOff) nofun nofun none [] _ b
      (h.removeEntryIf ((s.bay b).state == .queued) b) trivial (by
        rw [State.bay, State.removeEntryIf_bays]
        exact calm)
  obtain ⟨bay, -, moves⟩ := (Prepared.refl b s).moves (new := .idleOff) nofun nofun ((s.bay b).state == .queued) none []
    fun _ => calm
  generalize (s.removeEntryIf ((s.bay b).state == .queued) b).move b .idleOff none [] = m at *
  have acts := moves.acts.trans (m.quarantineBay_acts (b := b))
  have record : m.bay b = (s.bay b).openIn .idleOff none := bay.trans (BayRecord.enter_open _ rfl _)
  have reason : (m.bay b).reason = quarantineReason (s.bay b) := by
    rw [record]
    exact BayRecord.reason_eq _
  obtain ⟨more, events⟩ := moves.raised
  refine ⟨?_, acts.bays, m.quarantineBay_lamp b, acts.lights, ?_, ⟨more, ?_⟩, ?_, ?_, acts.time⟩
  · rw [State.bay, State.quarantineBay_bays]
    exact record
  · rw [State.quarantineBay, reason, record, moves.acts.time]
    show m.quarantine ++ _ = _
    rw [moves.keeps.quarantine]
    rfl
  · rw [State.raiseAll_append, State.quarantineBay, reason, record]
    exact State.raiseAll_events_congr (s := s.raiseAll more) (t := (m.putQuarantine _).setCond b condQuarantined true)
      events (moves.acts.time.trans (State.raiseAll_time ..).symm) [_]
  · rw [State.quarantineBay_arbiter]
    exact moves.queue
  · rw [State.quarantineBay_arbiter]
    rintro (changed | before)
    · exact ((moves.triggered (.inl changed)).mono fun _ _ => trivial).quarantineBay b
    · exact (triggered before).quarantineBay b

/-- `t` is `s` after the bays of the list that are picked have been quarantined in the list's order. -/
structure BaysChecked (picks : Bay → Bool) (l : List Bay) (s t : State) : Prop where
  picked : ∀ c ∈ l, picks c = true →
    t.bay c = (s.bay c).openIn .idleOff none ∧ (t.bayLights c).conditions.get 7 = true
  others : ∀ c, ¬ (c ∈ l ∧ picks c = true) → t.bay c = s.bay c ∧ t.bayLights c = s.bayLights c
  quarantine : t.quarantine = s.quarantine ++ (l.filter picks).map s.quarantineEntryOf
  events : ∃ more, t.events = (s.raiseAll more).events ∧ ((l.filter picks).map s.quarantineEventOf).Sublist more
  queue : t.arbiter.queue = s.arbiter.queue.filter
    fun e => decide (¬ (e.bay ∈ l ∧ picks e.bay = true ∧ (s.bay e.bay).state = .queued))
  triggered : t.arbiter.queue ≠ s.arbiter.queue → Triggered (fun _ => True) t
  time : t.time = s.time

theorem BaysChecked.nil (picks : Bay → Bool) (s : State) : BaysChecked picks [] s s where
  picked := by simp
  others _ _ := ⟨rfl, rfl⟩
  quarantine := by simp
  events := ⟨[], rfl, .refl _⟩
  queue := by simp
  triggered h := absurd rfl h
  time := rfl

/-- One bay more, not picked. -/
theorem BaysChecked.skip {picks : Bay → Bool} {l : List Bay} (h : BaysChecked picks l s t) (skips : picks b = false) :
    BaysChecked picks (l ++ [b]) s t := by
  have filtered : (l ++ [b]).filter picks = l.filter picks := by simp [skips]
  have among (c : Bay) : c ∈ l ++ [b] ∧ picks c = true ↔ c ∈ l ∧ picks c = true := by
    refine and_congr_left fun picked => ?_
    have other : c ≠ b := fun eq => by simp [eq, skips] at picked
    simp [other]
  refine ⟨fun c mem picked => ?_, fun c other => ?_, ?_, ?_, ?_, h.triggered, h.time⟩
  · exact h.picked c ((among c).1 ⟨mem, picked⟩).1 picked
  · exact h.others c fun k => other ((among c).2 k)
  · rw [filtered]
    exact h.quarantine
  · rw [filtered]
    exact h.events
  · rw [h.queue]
    simp only [← and_assoc, among]

/-- One bay more, picked and quarantined. -/
theorem BaysChecked.snoc {picks : Bay → Bool} {l : List Bay} (h : BaysChecked picks l s t) (new : b ∉ l)
    (picked : picks b = true) (checked : BayChecked b t u) : BaysChecked picks (l ++ [b]) s u := by
  have record : t.bay b = s.bay b := (h.others b fun k => new k.1).1
  have entry : t.quarantineEntryOf b = s.quarantineEntryOf b := by
    rw [State.quarantineEntryOf, record, h.time, State.quarantineEntryOf]
  have event : t.quarantineEventOf b = s.quarantineEventOf b := by
    rw [State.quarantineEventOf, record, State.quarantineEventOf]
  have filtered : (l ++ [b]).filter picks = l.filter picks ++ [b] := by simp [picked]
  refine ⟨fun c mem here => ?_, fun c other => ?_, ?_, ?_, ?_, fun changed => ?_, checked.time.trans h.time⟩
  · by_cases same : c = b
    · subst same
      exact ⟨record ▸ checked.bay, checked.condition⟩
    · obtain ⟨bay, lamp⟩ := h.picked c (by simpa [same] using mem) here
      exact ⟨(checked.bays c same).trans bay, checked.lights c same ▸ lamp⟩
  · have same : c ≠ b := fun eq => other (by simp [eq, picked])
    obtain ⟨bay, lamp⟩ := h.others c fun k => other ⟨by simp [k.1], k.2⟩
    exact ⟨(checked.bays c same).trans bay, (checked.lights c same).trans lamp⟩
  · rw [checked.quarantine, h.quarantine, entry, filtered, List.map_append, List.append_assoc]
    rfl
  · obtain ⟨more, events, sublist⟩ := h.events
    obtain ⟨next, raised⟩ := checked.events
    refine ⟨more ++ (next ++ [s.quarantineEventOf b]), ?_, ?_⟩
    · rw [raised, event, State.raiseAll_append s more]
      exact State.raiseAll_events_congr events (h.time.trans (State.raiseAll_time ..).symm) _
    · rw [filtered, List.map_append]
      exact sublist.append (List.sublist_append_right _ _)
  · rw [checked.queue, h.queue, record, leftIf]
    by_cases waits : (s.bay b).state = .queued
    · rw [if_pos (beq_iff_eq.2 waits), leftBy, List.filter_filter]
      refine List.filter_congr fun e _ => ?_
      by_cases same : e.bay = b
      · simp [same, picked, waits]
      · simp [same]
    · rw [if_neg fun k => waits (beq_iff_eq.1 k)]
      refine List.filter_congr fun e _ => ?_
      by_cases same : e.bay = b
      · simp [same, waits]
      · simp [same]
  · by_cases stands : u.arbiter.queue = t.arbiter.queue
    · exact checked.triggered (.inr (h.triggered (stands ▸ changed)))
    · exact checked.triggered (.inl stands)

/-- A bay is checked as its record and the retry limit in force say (R113). -/
theorem State.checkBay_picked {picks : Bay → Bool}
    (picks_iff : picks b = true ↔ ((s.bay b).state = .queued ∨ (s.bay b).state = .faulted) ∧
      s.cfg.admission.retryLimit < (s.bay b).failCount) :
    (picks b = true → BayChecked b s (s.checkBay b)) ∧ (picks b = false → s.checkBay b = s) := by
  have checkable : (s.bay b).state.checkable = true ↔ (s.bay b).state = .queued ∨ (s.bay b).state = .faulted := by
    cases (s.bay b).state <;> simp [BayState.checkable]
  refine ⟨fun picked => ?_, fun skips => ?_⟩
  · obtain ⟨state, beyond⟩ := picks_iff.1 picked
    have calm : (s.bay b).state ≠ .ramping := by rcases state with k | k <;> simp [k]
    rw [State.checkBay, if_pos ⟨checkable.2 state, beyond⟩]
    exact s.quarantined_checked b calm
  · refine if_neg fun ⟨state, beyond⟩ => ?_
    rw [picks_iff.2 ⟨checkable.1 state, beyond⟩] at skips
    cases skips

/-- The check of the bays of a list, each as it stood before the check (R113). -/
theorem State.checkBays_checked {picks : Bay → Bool} (s : State)
    (picks_iff : ∀ b, picks b = true ↔ ((s.bay b).state = .queued ∨ (s.bay b).state = .faulted) ∧
      s.cfg.admission.retryLimit < (s.bay b).failCount) (l : List Bay) (nodup : l.Nodup) :
    BaysChecked picks l s (l.foldl State.checkBay s) ∧ (l.foldl State.checkBay s).cfg = s.cfg := by
  induction l using List.reverseRecOn with
  | nil => exact ⟨.nil picks s, rfl⟩
  | append_singleton l b ih =>
    obtain ⟨distinct, -, apart⟩ := List.nodup_append.1 nodup
    have new : b ∉ l := fun mem => apart b mem b (by simp) rfl
    obtain ⟨checked, cfg⟩ := ih distinct
    rw [List.foldl_append]
    generalize l.foldl State.checkBay s = t at *
    have record : t.bay b = s.bay b := (checked.others b fun k => new k.1).1
    have one := State.checkBay_picked (s := t) (b := b) (picks := picks) (by rw [record, cfg]; exact picks_iff b)
    refine ⟨?_, (State.checkBay_cfg ..).trans cfg⟩
    cases picked : picks b with
    | true => exact checked.snoc new picked (one.1 picked)
    | false =>
      show BaysChecked picks (l ++ [b]) s (t.checkBay b)
      rw [one.2 picked]
      exact checked.skip picked

end Sys2Proof.Machine
end

section
/-! The statement about SET_ADMISSION, settled. -/

namespace Sys2Proof.Machine

/-- The trigger that follows the write of the parameters. -/
theorem State.writeAdmission_eq (s : State) (x : AdmissionParams) : s.writeAdmission x =
    ((s.putCfg { s.cfg with admission := x }).quarantineCheckIf (decide (x.retryLimit < s.cfg.admission.retryLimit))).triggerIf
      (decide (s.cfg.admission.k < x.k ∨ s.cfg.admission.bypassLimit < x.bypassLimit ∨
        s.cfg.admission.retryLimit < x.retryLimit)) := by
  simp only [State.writeAdmission, Bool.decide_or, Bool.or_assoc]

theorem State.writeAdmission_calm (s : State) {x : AdmissionParams}
    (keeps : s.cfg.admission.retryLimit ≤ x.retryLimit) : s.writeAdmission x = (s.putCfg { s.cfg with admission := x }).triggerIf
      (decide (s.cfg.admission.k < x.k ∨ s.cfg.admission.bypassLimit < x.bypassLimit ∨
        s.cfg.admission.retryLimit < x.retryLimit)) := by
  rw [State.writeAdmission_eq, decide_eq_false (Nat.not_lt.2 keeps)]
  rfl

/-- A lowered retry limit: the check of every bay, and then the trigger where one is due. -/
theorem State.writeAdmission_lowered (s : State) {x : AdmissionParams} {picks : Bay → Bool}
    (lowers : x.retryLimit < s.cfg.admission.retryLimit)
    (picks_iff : ∀ b, picks b = true ↔ ((s.bay b).state = .queued ∨ (s.bay b).state = .faulted) ∧
      x.retryLimit < (s.bay b).failCount) :
    ∃ w, BaysChecked picks allBays (s.putCfg { s.cfg with admission := x }) w ∧ s.writeAdmission x = w.triggerIf
      (decide (s.cfg.admission.k < x.k ∨ s.cfg.admission.bypassLimit < x.bypassLimit ∨
        s.cfg.admission.retryLimit < x.retryLimit)) := by
  refine ⟨_, (State.checkBays_checked (s.putCfg { s.cfg with admission := x }) picks_iff allBays allBays_nodup).1, ?_⟩
  rw [State.writeAdmission_eq, decide_eq_true lowers]
  rfl

/-- Settles O46: the clamped parameters are written, a lowered limit is followed by the check of the bays, and a raised value
by the trigger. -/
theorem setAdmissionWritesAndChecks : Obligations.SetAdmissionWritesAndChecks := by
  intro k bypass retry stagger window r s two old new changed u raised checked reaches staggerFits windowFits payload
  have permitted : RequestKind.setAdmission.lengthOk r.payload = true := by rw [payload]; rfl
  have sent : admissionAt r.payload = ⟨k.toNat, stagger, bypass.toNat, retry.toNat, window⟩ := by
    have b0 : byteAt r.payload 0 = k.toNat := by rw [payload]; rfl
    have b1 : u16At r.payload 1 = stagger := by rw [payload]; exact toNat_two_bytes staggerFits
    have b2 : byteAt r.payload 3 = bypass.toNat := by rw [payload]; rfl
    have b3 : byteAt r.payload 4 = retry.toNat := by rw [payload]; rfl
    have b4 : u16At r.payload 5 = window := by rw [payload]; exact toNat_two_bytes windowFits
    rw [admissionAt, b0, b1, b2, b3, b4]
  have clamped : (admissionAt r.payload).clamped = new := by rw [sent]; rfl
  have status : writtenStatus (new != admissionAt r.payload) = clampedOr changed := by
    refine writtenStatus_eq_clampedOr ?_
    rw [sent, bne_iff_ne, Ne, AdmissionParams.mk.injEq]
    simp only [changed]
    omega
  have bytes : new.bytes = [BitVec.ofNat 8 new.k] ++ two new.stagger ++
      [BitVec.ofNat 8 new.bypassLimit, BitVec.ofNat 8 new.retryLimit] ++ two new.grantWindow := by
    simp only [AdmissionParams.bytes, u16_eq_mod]
    rfl
  refine ⟨s.listening.writeAdmission new, reaches.exec_answers (k := .setAdmission) rfl permitted ?_, ?_, ?_,
    fun keeps calm => ?_, fun keeps raises => ?_, fun lowers => ?_⟩
  · simp only [State.dispatch, State.setAdmission, clamped, status, bytes]
  · simp only [State.writeAdmission, State.triggerIf_cfg, State.quarantineCheckIf_cfg]
    rfl
  · simp only [State.writeAdmission, State.triggerIf_link, State.quarantineCheckIf_link]
    rfl
  · rw [s.listening.writeAdmission_calm keeps]
    show u.triggerIf (decide raised) = u
    rw [decide_eq_false calm]
    rfl
  · rw [s.listening.writeAdmission_calm keeps]
    show PassTaken u (u.triggerIf (decide raised))
    rw [decide_eq_true raises]
    exact u.trigger_passTaken
  · obtain ⟨w, done, written⟩ := s.listening.writeAdmission_lowered (picks := fun b => decide (checked b)) lowers
      fun b => decide_eq_true_iff
    replace written : s.listening.writeAdmission new = w.triggerIf (decide raised) := written
    have chans : (s.listening.writeAdmission new).chans = s.chans := by
      simp only [State.writeAdmission, State.triggerIf_chans, State.quarantineCheckIf_chans]
      rfl
    rw [written] at chans ⊢
    change BaysChecked _ _ u w at done
    have settles := w.triggerIf_settles (decide raised)
    have triggers : raised → ∃ v, PassTaken v (w.triggerIf (decide raised)) := fun raises => by
      rw [decide_eq_true raises]
      exact ⟨w, w.trigger_passTaken⟩
    generalize w.triggerIf (decide raised) = t at *
    have lamp (b : Bay) : t.bayLights b = w.bayLights b := by rw [State.bayLights, settles.lights, State.bayLights]
    have bay (b : Bay) : t.bay b = w.bay b := by rw [State.bay, settles.bays, State.bay]
    have queue : w.arbiter.queue = s.arbiter.queue.filter
        (fun e => decide (¬ (checked e.bay ∧ (s.bay e.bay).state = .queued))) := by
      rw [done.queue]
      exact List.filter_congr fun e _ => by simp [mem_allBays, u]; rfl
    refine ⟨fun b here => ?_, fun b other => ?_, ?_, ?_, settles.queue.trans queue, fun changed => ?_, triggers, ?_⟩
    · obtain ⟨record, lit⟩ := done.picked b (mem_allBays b) (decide_eq_true here)
      exact ⟨(bay b).trans record, lamp b ▸ lit⟩
    · obtain ⟨record, lit⟩ := done.others b fun k => other (of_decide_eq_true k.2)
      exact ⟨(bay b).trans record, by rw [lamp, lit]; rfl⟩
    · rw [settles.quarantine, done.quarantine]
      rfl
    · obtain ⟨more, events, sublist⟩ := done.events
      obtain ⟨next, raised⟩ := settles.events
      refine ⟨more ++ next, ?_, sublist.trans (List.sublist_append_left _ _)⟩
      rw [raised, List.nil_append, s.raiseAll_append]
      have first : w.events = (s.raiseAll more).events := events.trans (State.raiseAll_events_congr (s := s) (t := u) rfl rfl more)
      exact State.raiseAll_events_congr first (done.time.trans (s.raiseAll_time more).symm) next
    · exact settles.triggered (done.triggered fun same => changed (settles.queue.trans same)) fun _ h => h
    · exact chans

end Sys2Proof.Machine
end

section
/-! SUPPORT. The first budget computation of a cold start, and the fan notices that find its figures as they are (R72,
R144). -/

namespace Sys2Proof.Machine

variable {s : State}

theorem Table.put_same {α : Type} {n : Nat} (v : Table α n) (i : Fin n) : Table.put v i (v.get i) = v := by
  apply Vector.ext
  intro j hj
  have at' := Table.get_put v i ⟨j, hj⟩ (v.get i)
  simp only [Vector.get_eq_getElem] at at' ⊢
  rw [at']
  split
  · rename_i same
    simp [same]
  · rfl

/-- A recomputation that finds its figures and its budget state as they are, with no grant to ask back, changes nothing. -/
theorem State.recompute_stands (figures : s.budget.figures = s.formFigures)
    (state : s.budget.overcommitted = decide (s.formFigures.headroom < 0)) (order : s.budget.grantOrder = []) :
    s.recompute = s := by
  have formed : s.withFigures = s := by
    rw [State.withFigures, ← figures]
    rfl
  have moves : s.budgetState = s := by
    rw [← figures] at state
    rw [State.budgetState, state]
    by_cases short : s.budget.figures.headroom < 0
    · simp [short]
    · simp [short]
  rw [State.recompute, formed, moves, s.revocationStep_stands (.inr (.inr order)), State.budgetTriggers,
    decide_eq_false (lt_irrefl _), decide_eq_false (lt_irrefl _)]
  rfl

theorem State.fanNotice_stands {f : Fan} (view : s.budget.fanViews.get f = s.fanView f)
    (figures : s.budget.figures = s.formFigures)
    (state : s.budget.overcommitted = decide (s.formFigures.headroom < 0)) (order : s.budget.grantOrder = []) :
    s.fanNotice f = s := by
  have same : s.putBudget { s.budget with fanViews := s.budget.fanViews.put f (s.fanView f) } = s := by
    rw [← view, Table.put_same]
    rfl
  rw [State.fanNotice, same, State.recompute_stands figures state order]

/-- The blocks of a cold start with the events queued ahead of the budget's (R193, R194). -/
def State.coldRaised (s : State) (straps : BitVec 3) : State :=
  (s.blocksCold straps).raiseAll (⟨.coldStart, .none, none, none⟩ :: defaultedEvents s.store.imageAtStart 0)

theorem State.coldRaised_budget (s : State) (straps : BitVec 3) : (s.coldRaised straps).budget =
    .cold s.store.imageAtStart.load (Table.each SlotLines.restarted s.budget.slots) := by
  rw [State.coldRaised, State.raiseAll_budget, State.blocksCold]

theorem State.coldRaised_cfg (s : State) (straps : BitVec 3) : (s.coldRaised straps).cfg = s.store.imageAtStart.load := by
  rw [State.coldRaised, State.raiseAll_cfg, State.blocksCold]

/-- The first computation finds no supply and the commitments at 0 (R72). -/
theorem State.coldRaised_figures (s : State) (straps : BitVec 3) : (s.coldRaised straps).formFigures =
    ⟨0, 0, (s.coldRaised straps).budget.fanLoad, (s.coldRaised straps).cfg.supply.base + (s.coldRaised straps).budget.fanLoad,
      -(((s.coldRaised straps).cfg.supply.base + (s.coldRaised straps).budget.fanLoad : Nat) : Int)⟩ := by
  have supply : (s.coldRaised straps).contributing = [] := by
    have lines (k : Slot) : (((s.coldRaised straps).budget.slots.get k).condition == .contributing) = false := by
      rw [State.coldRaised_budget, Budget.cold, Table.get_each]
      rfl
    simp [State.contributing, lines]
  have committed : (s.coldRaised straps).budget.committed = 0 := by
    rw [State.coldRaised_budget]
    have nothing : (fun b : Bay => (Vector.replicate 24 0).get b) = fun _ => 0 := funext fun b => Table.get_replicate 0 b
    simp only [Budget.committed, Budget.cold, nothing]
    rfl
  generalize s.coldRaised straps = t at *
  have raw : rawSupply t.cfg.supply.policy [] = 0 := by cases t.cfg.supply.policy <;> rfl
  simp [State.formFigures, supply, committed, raw, effectiveSupply]

/-- The fan notices of a cold start find the views that the first computation has (R144). -/
theorem State.coldStart_eq (s : State) (straps : BitVec 3) : s.coldStart straps = (s.coldRaised straps).recompute := by
  have views (f : Fan) : (s.coldRaised straps).budget.fanViews.get f = (s.coldRaised straps).fanView f := by
    rw [State.fanView, State.coldRaised_budget, State.coldRaised_cfg, State.coldRaised, State.raiseAll_cooling]
    simp only [State.blocksCold, Budget.cold, Cooling.cold, Table.get_each]
    rfl
  have order : (s.coldRaised straps).budget.grantOrder = [] := by
    rw [State.coldRaised_budget]
    rfl
  show allFans.foldl State.fanNotice (s.coldRaised straps).recompute = _
  generalize s.coldRaised straps = u at *
  have done := u.recompute_recomputed
  generalize u.recompute = t at *
  have figures : t.formFigures = u.formFigures := State.formFigures_congr
    (fun k => by rw [done.settles.slots]) (by rw [done.settles.cfg]) done.fanViews fun b => by rw [done.settles.commitments]
  have stands (f : Fan) : t.fanNotice f = t := by
    refine State.fanNotice_stands ?_ (done.figures.trans figures.symm) (figures ▸ done.overcommitted)
      (done.settles.grantOrder.trans order)
    rw [done.fanViews, views, State.fanView, State.fanView, done.cooling, done.settles.cfg]
  have all (l : List Fan) : l.foldl State.fanNotice t = t := by
    induction l with
    | nil => rfl
    | cons f l ih => rw [List.foldl_cons, stands, ih]
  exact all allFans

end Sys2Proof.Machine
end

section
/-! The statement about cold starts, settled. -/

namespace Sys2Proof.Machine

theorem SettingsImage.ok_iff (i : SettingsImage) : i.ok = true ↔ i.check = Config.settingsCheck i.items := by
  rw [SettingsImage.ok, beq_iff_eq]

theorem SettingsImage.spoilt_not_ok (i : SettingsImage) : i.spoilt.ok = false := by
  rw [Bool.eq_false_iff, Ne, SettingsImage.ok_iff]
  show ¬ Config.settingsCheck i.items + 1 = Config.settingsCheck i.items
  generalize Config.settingsCheck i.items = c
  bv_omega

/-- A cold start finds a sound image where no write was cut short and the stored check agrees (R194, R195). -/
theorem Store.imageAtStart_ok (x : Store) :
    x.imageAtStart.ok = true ↔ x.image.check = Config.settingsCheck x.image.items ∧ x.writing.isSome = false := by
  unfold Store.imageAtStart
  cases writing : x.writing.isSome with
  | true => simp [SettingsImage.spoilt_not_ok]
  | false => simp [SettingsImage.ok_iff]

theorem Store.imageAtStart_load (x : Store) : x.imageAtStart.load =
    if x.image.check = Config.settingsCheck x.image.items ∧ x.writing.isSome = false then x.image.items
    else factorySettings := by
  unfold SettingsImage.load
  by_cases sound : x.image.check = Config.settingsCheck x.image.items ∧ x.writing.isSome = false
  · rw [if_pos (x.imageAtStart_ok.2 sound), if_pos sound, Store.imageAtStart, if_neg (by simp [sound.2])]
  · rw [if_neg (mt x.imageAtStart_ok.1 sound), if_neg sound]

/-- COLD_START, and SETTINGS_DEFAULTED where the image is not sound, are queued at event time 0 (R193). -/
theorem State.coldRaised_eq (s : State) (straps : BitVec 3) : s.coldRaised straps = (s.blocksCold straps).putEvents
    ⟨[⟨⟨.coldStart, .none, none, none⟩, 0⟩] ++ (defaultedEvents s.store.imageAtStart 0).map (fun e => ⟨e, 0⟩), false⟩ := by
  rw [State.coldRaised, State.raiseAll_eq]
  unfold defaultedEvents
  split <;> rfl

/-- A budget event queued behind those of the cold start. -/
theorem State.coldRaised_raised (s : State) (straps : BitVec 3) {es : List Event} (few : es.length ≤ 1) :
    ((s.coldRaised straps).raiseAll es).events =
      ⟨[⟨⟨.coldStart, .none, none, none⟩, 0⟩] ++ (defaultedEvents s.store.imageAtStart 0).map (fun e => ⟨e, 0⟩) ++
        es.map (fun e => ⟨e, 0⟩), false⟩ := by
  have most : (defaultedEvents s.store.imageAtStart 0).length ≤ 1 := by
    unfold defaultedEvents
    split <;> simp
  rw [State.raiseAll_eq, State.coldRaised_eq]
  show EventQueue.mk (_ ++ (es.take _).map fun e => ⟨e, 0⟩) (false || decide _) = _
  simp only [State.putEvents_events, List.length_append, List.length_map, List.length_cons, List.length_nil]
  rw [List.take_of_length_le (by omega), decide_eq_false (by omega)]
  rfl

/-- Settles O4: the blocks' cold states, with the first computation's figures and events. -/
theorem coldStartsSetEveryBlock : Obligations.ColdStartsSetEveryBlock := by
  intro straps s image sound cfg line
  have load : s.store.imageAtStart.load = cfg := s.store.imageAtStart_load
  have found : s.store.imageAtStart = image := rfl
  have ok : s.store.imageAtStart.ok = decide sound := by
    rw [Bool.eq_iff_iff, Store.imageAtStart_ok, decide_eq_true_iff]
  have defaulted : (defaultedEvents s.store.imageAtStart 0).map (fun e => (⟨e, 0⟩ : EventRecord)) =
      if sound then [] else [⟨⟨.settingsDefaulted, .none, some 0, none⟩, 0⟩] := by
    rw [defaultedEvents, ok]
    by_cases k : sound
    · simp [k]
    · simp [k]
  have figures := s.coldRaised_figures straps
  have done := (s.coldRaised straps).recompute_recomputed
  rw [← s.coldStart_eq straps] at done
  have events := done.events
  have untriggered := done.untriggered
  have unrevoked := done.notRevoked (.inr (.inr (by rw [State.coldRaised_budget]; rfl)))
  have settles := done.settles
  have cooling := s.coldStart_cooling straps
  have store := s.coldStart_store straps
  have cfgEq := s.coldStart_cfg straps
  have link := s.coldStart_link straps
  rw [load] at cooling cfgEq
  rw [ok, found] at store
  have cold := s.coldRaised_budget straps
  rw [load] at cold
  have loadOf : (s.coldStart straps).budget.fanLoad = (s.coldRaised straps).budget.fanLoad := by
    rw [Budget.fanLoad, done.fanViews, Budget.fanLoad]
  rw [State.coldRaised_cfg, load, ← loadOf] at figures
  have overcommitted := done.overcommitted
  have formed := done.figures
  have views := done.fanViews
  rw [figures] at overcommitted formed events
  refine ⟨s.coldStart straps, rfl, rfl, ?_⟩
  generalize s.coldStart straps = t at *
  rw [cold] at views
  have lights : t.lights = .cold := by rw [settles.lights, State.coldRaised_eq]; rfl
  have negative : (-((cfg.supply.base + t.budget.fanLoad : Nat) : Int) < 0) ↔ 0 < cfg.supply.base + t.budget.fanLoad := by
    omega
  refine ⟨?_, cfgEq, fun b => ?_, fun b => ?_, ?_, ?_, fun k => ?_, fun b => ?_, ?_, ?_, ?_, fun f => ?_, formed, ?_,
    fun z => ?_, fun f => ?_, fun k => ?_, fun b => ?_, ?_, ?_, ?_, fun b => ?_, ?_, link, ?_, store, ?_, ?_⟩
  · rw [settles.resetLow, State.coldRaised_eq]
    rfl
  · rw [State.bay, settles.bays, State.coldRaised_eq]
    exact Table.get_replicate BayRecord.cold b
  · rw [State.chan, settles.chans, State.coldRaised_eq]
    exact Table.get_each Channel.restarted s.chans b
  · rw [settles.quarantine, State.coldRaised_eq]
    rfl
  · rw [untriggered (by rw [formed, cold]; exact Nat.zero_le _) (by rw [formed, cold]; exact le_refl 0),
      State.coldRaised_eq]
    rfl
  · rw [settles.slots, cold]
    exact Table.get_each SlotLines.restarted s.budget.slots k
  · rw [settles.commitments, cold]
    exact Table.get_replicate 0 b
  · rw [settles.grantOrder, cold]
    rfl
  · rw [unrevoked.1, cold]
    rfl
  · rw [unrevoked.2, cold]
    rfl
  · rw [views]
    exact Table.get_each FanView.cold cfg.fans f
  · rw [overcommitted]
    exact decide_eq_decide.2 negative
  · rw [State.zone, cooling]
    cases z <;> rfl
  · rw [State.fan, cooling]
    refine (Table.get_each (fun f : FanSettings => FanRecord.cold f.absent cfg.common.windowMs) cfg.fans f).trans ?_
    cases (cfg.fans.get f).absent <;> rfl
  · rw [cooling]
    exact Table.get_replicate _ k
  · rw [cooling]
    exact Table.get_replicate _ b
  · rw [cooling]
    rfl
  · rw [cooling]
    rfl
  · rw [cooling]
    rfl
  · have lamp : t.bayLights b = ⟨.replicate 9 false, false, false⟩ := by
      rw [State.bayLights, lights]
      exact Table.get_replicate _ b
    rw [lamp]
    exact ⟨fun c => Table.get_replicate false c, rfl, rfl⟩
  · rw [lights]
    rfl
  · rw [settles.time, State.coldRaised_eq]
    rfl
  · rw [settles.pending, State.coldRaised_eq]
    rfl
  · have state : (s.coldRaised straps).budget.overcommitted = false := by rw [cold]; rfl
    rw [state] at events
    by_cases short : 0 < cfg.supply.base + t.budget.fanLoad
    · rw [budgetChange, if_pos ⟨negative.2 short, rfl⟩, List.nil_append, State.coldRaised_raised _ _ (by simp),
        defaulted] at events
      rw [events, if_pos short]
      rfl
    · rw [budgetChange, if_neg fun k => short (negative.1 k.1), if_neg nofun, List.nil_append,
        State.coldRaised_raised _ _ (by simp), defaulted] at events
      rw [events, if_neg short]
      rfl

end Sys2Proof.Machine
end

section
/-! SUPPORT. The part of a warm restart that waits for no settings write (R195): the lamps, the channels, the arbiter, the
budget unit and the events it leaves. -/

namespace Sys2Proof.Machine

variable {b : Bay} {s t u : State} {free : Fin 9 → Prop}

/-! ## The lamps a restart leaves alone -/

/-- `t` is `s` with the same light conditions but for the free ones, and the controller's own values as they were. -/
structure LampsKept (free : Fin 9 → Prop) (s t : State) : Prop where
  conditions : ∀ b c, ¬ free c → (t.bayLights b).conditions.get c = (s.bayLights b).conditions.get c
  own : t.lights = { s.lights with bays := t.lights.bays }

theorem LampsKept.refl (free : Fin 9 → Prop) (s : State) : LampsKept free s s := ⟨fun _ _ _ => rfl, rfl⟩

theorem LampsKept.of_lights (h : t.lights = s.lights) : LampsKept free s t := by
  refine ⟨fun b c _ => by rw [State.bayLights, h, State.bayLights], by rw [h]⟩

theorem LampsKept.trans (h : LampsKept free s t) (k : LampsKept free t u) : LampsKept free s u := by
  refine ⟨fun b c other => (k.conditions b c other).trans (h.conditions b c other), ?_⟩
  rw [k.own, h.own]

/-- What acts on one bay keeps the lamps when it keeps that bay's. -/
theorem LampsKept.of_acts (h : ActsOnBay b s t)
    (own : ∀ c, ¬ free c → (t.bayLights b).conditions.get c = (s.bayLights b).conditions.get c) : LampsKept free s t := by
  refine ⟨fun d c other => ?_, ?_⟩
  · by_cases same : d = b
    · exact same ▸ own c other
    · rw [h.lights d same]
  · have mask := h.mask
    have locate := h.locate
    have phase := h.phase
    have boundary := h.boundary
    have elf := h.elf
    have ell := h.ell
    generalize t.lights = x at *
    generalize s.lights = y at *
    cases x
    cases y
    simp_all

theorem LampsKept.foldl {α : Type} {f : State → α → State} (keeps : ∀ t a, LampsKept free t (f t a)) (l : List α)
    (s : State) : LampsKept free s (l.foldl f s) := by
  induction l generalizing s with
  | nil => exact .refl free s
  | cons a l ih => exact (keeps s a).trans (ih _)

theorem State.mapTo_lamps (s : State) (b : Bay) (new : BayState) (timer : Option Nat) :
    LampsKept (· = condSpinWait) s (s.mapTo b new timer) :=
  have first : LampsKept (· = condSpinWait) s (s.onBay b fun r => r.enter new timer) := .of_lights rfl
  first.trans (.of_acts (State.lightNotice_acts _ b) (State.lightNotice_facts b _).2.2.1)

theorem State.mapBay_lamps (s : State) (b : Bay) : LampsKept (· = condSpinWait) s (s.mapBay b) := by
  unfold State.mapBay
  cases (s.bay b).state with
  | empty | idleOff | active | standby | poweringDown | extracting => exact .refl _ s
  | seating | faulted => exact .of_lights rfl
  | queued => exact s.mapTo_lamps b _ _
  | ramping | spinning | granted =>
    have first : LampsKept (· = condSpinWait) s (s.toChan b Channel.peakReset) := .of_lights rfl
    exact first.trans (State.mapTo_lamps _ b _ _)
  | wakeQueued => exact (s.mapTo_lamps b _ _).trans (.of_lights rfl)

theorem State.rebuilt_lamps (s : State) : LampsKept free s s.rebuilt := .of_lights rfl

theorem State.rearm_lamps (s : State) (b : Bay) : LampsKept free s (s.rearm b) := .of_lights (s.rearm_lights b)

theorem State.warmAtOnce_lamps (s : State) : LampsKept (· = condSpinWait) s s.warmAtOnce := by
  have first : LampsKept (· = condSpinWait) s s.warmFirst := .of_lights rfl
  have mapped := first.trans (.foldl State.mapBay_lamps allBays s.warmFirst)
  rw [State.warmAtOnce_eq]
  generalize allBays.foldl State.mapBay s.warmFirst = u at *
  exact (mapped.trans u.rebuilt_lamps).trans (.foldl State.rearm_lamps allBays _)

/-! ## The channels -/

theorem BayRecord.acrossRestart_standby (r : BayRecord) :
    r.acrossRestart.state = .standby ↔ r.state = .standby ∨ r.state = .wakeQueued := by
  unfold BayRecord.acrossRestart
  cases state : r.state <;> simp [BayRecord.openIn, BayRecord.closedIn, state]

theorem BayRecord.acrossRestart_snap (r : BayRecord) (standby : r.state = .standby ∨ r.state = .wakeQueued) :
    r.acrossRestart.snap = r.snap := by
  unfold BayRecord.acrossRestart
  rcases standby with state | state
  · simp only [state]
  · simp only [state]
    rfl

theorem State.warmAtOnce_chan (s : State) (b : Bay) : s.warmAtOnce.chan b = { s.chan b with
    peak := if (s.bay b).state.drawsInrush = true then (s.chan b).live else (s.chan b).peak
    riseWatch := if (s.bay b).state = .standby ∨ (s.bay b).state = .wakeQueued then some (s.bay b).snap.steady else none
    fallWatch := none
    rampEndWithheld := decide ((s.chan b).switch = .ramping)
    seatTimer := (s.chan b).seatTimer.map (fun _ => 0)
    reports := (s.chan b).reports ++
      [.contactChange (s.chan b).early.accepted (s.chan b).late.accepted (s.chan b).seated false] } := by
  have withheld : ((s.chan b).switch == SwitchPos.ramping) = decide ((s.chan b).switch = .ramping) := rfl
  refine (State.of_view (s.warmAtOnce_view b)).2.trans ?_
  simp only [rearmedView, mappedView, BayRecord.acrossRestart_standby, Channel.warm, withheld]
  by_cases draws : (s.bay b).state.drawsInrush = true
  · have other : ¬ ((s.bay b).state = .standby ∨ (s.bay b).state = .wakeQueued) := by
      rintro (state | state) <;> rw [state] at draws <;> cases draws
    simp only [if_pos draws, if_neg other]
    rfl
  · by_cases standby : (s.bay b).state = .standby ∨ (s.bay b).state = .wakeQueued
    · simp only [if_neg draws, if_pos standby, BayRecord.acrossRestart_snap _ standby]
      rfl
    · simp only [if_neg draws, if_neg standby]
      rfl

/-! ## The arbiter, the budget unit and the events -/

theorem BayRecord.acrossRestart_drawsInrush (r : BayRecord) :
    r.acrossRestart.state.drawsInrush = r.state.drawsInrush := by
  unfold BayRecord.acrossRestart
  cases state : r.state <;> simp [BayRecord.openIn, BayRecord.closedIn, BayState.drawsInrush, state]

theorem State.mapBay_events (s : State) (b : Bay) : (s.mapBay b).events =
    (s.raiseAll (if (s.bay b).state = .wakeQueued then [bayEvent .wakeDropped b none none] else [])).events := by
  unfold State.mapBay
  cases (s.bay b).state <;> rfl

theorem State.mapBays_events (l : List Bay) (nodup : l.Nodup) (s : State) : (l.foldl State.mapBay s).events =
    (s.raiseAll ((l.filter fun b => (s.bay b).state == .wakeQueued).map
      fun b => bayEvent .wakeDropped b none none)).events := by
  induction l generalizing s with
  | nil => rfl
  | cons b l ih =>
    obtain ⟨notIn, nodup⟩ := List.nodup_cons.1 nodup
    have others : l.filter (fun c => ((s.mapBay b).bay c).state == .wakeQueued) =
        l.filter fun c => (s.bay c).state == .wakeQueued := by
      refine List.filter_congr fun c mem => ?_
      rw [State.mapBay_bay, if_neg (fun same : b = c => notIn (same ▸ mem))]
    rw [List.foldl_cons, ih nodup, others]
    have first := s.mapBay_events b
    by_cases drops : (s.bay b).state = .wakeQueued
    · rw [if_pos drops] at first
      rw [List.filter_cons_of_pos (p := fun b => (s.bay b).state == .wakeQueued) (beq_iff_eq.2 drops), List.map_cons]
      exact State.raiseAll_events_congr (s := s.raiseAll [bayEvent .wakeDropped b none none]) first
        ((State.mapBay_time s b).trans (s.raiseAll_time _).symm) _
    · rw [if_neg drops] at first
      rw [List.filter_cons_of_neg (p := fun b => (s.bay b).state == .wakeQueued) fun k => drops (beq_iff_eq.1 k)]
      exact State.raiseAll_events_congr first (State.mapBay_time s b) _

theorem State.rebuilt_events (s : State) : s.rebuilt.events = s.events := rfl

theorem State.warmAtOnce_events (s : State) : s.warmAtOnce.events =
    (s.raiseAll (⟨.warmRestart, .none, none, none⟩ :: (allBays.filter fun b => (s.bay b).state == .wakeQueued).map
      fun b => bayEvent .wakeDropped b none none)).events := by
  rw [State.warmAtOnce_eq, foldl_keeps State.events State.rearm_events, State.rebuilt_events]
  have mapped := State.mapBays_events allBays allBays_nodup s.warmFirst
  simp only [State.warmFirst_bay] at mapped
  generalize (allBays.filter fun b => (s.bay b).state == .wakeQueued).map (fun b => bayEvent .wakeDropped b none none) = es
    at *
  have events : s.warmFirst.events = (s.raise ⟨.warmRestart, .none, none, none⟩).events := rfl
  have time : s.warmFirst.time = (s.raise ⟨.warmRestart, .none, none, none⟩).time := rfl
  exact mapped.trans (State.raiseAll_events_congr events time es)

/-- The part of a warm restart that is done at once. -/
theorem State.warmAtOnce_restarted (s : State) : RestartedAtOnce s s.warmAtOnce where
  bays := s.warmAtOnce_bay
  chans := s.warmAtOnce_chan
  conditions b c other := s.warmAtOnce_lamps.conditions b c other
  lights := State.warmAtOnce_lights_agree
  lightsOwn := s.warmAtOnce_lamps.own
  arbiter := by
    rw [State.warmAtOnce_arbiter, State.countSpins]
    simp only [State.mapped_bay, BayRecord.acrossRestart_drawsInrush]
    rfl
  budget := by
    have rebuilt : (allBays.foldl State.mapBay s.warmFirst).rebuiltCommitments =
        Table.each (fun r => r.acrossRestart.commitment) s.bays := by
      refine Vector.ext fun j hj => ?_
      have at' := State.rebuiltCommitments_get (allBays.foldl State.mapBay s.warmFirst) ⟨j, hj⟩
      rw [State.mapped_bay] at at'
      exact at'.trans (Table.get_each (fun r => r.acrossRestart.commitment) s.bays ⟨j, hj⟩).symm
    rw [State.warmAtOnce_budget, rebuilt]
    rfl
  events := s.warmAtOnce_events
  quarantine := s.warmAtOnce_quarantine
  cooling := s.warmAtOnce_cooling
  link := s.warmAtOnce_link
  time := s.warmAtOnce_time
  store := s.warmAtOnce_store
  cfg := s.warmAtOnce_cfg
  pending := s.warmAtOnce_pending
  resetLow := s.warmAtOnce_resetLow

end Sys2Proof.Machine
end

section
/-! SUPPORT. The reload of a warm restart up to its re-selection: the image, the fans and the zone duties, the recomputation
and the thermal states (R194, R145, R73, R139). -/

namespace Sys2Proof.Machine

variable {s t u r : State}

theorem defaultedEvents_eq (i : SettingsImage) (detail : Byte) : defaultedEvents i detail = loadEvents i detail := by
  unfold defaultedEvents loadEvents
  by_cases sound : i.check = Config.settingsCheck i.items
  · rw [if_pos (i.ok_iff.2 sound), if_pos sound]
  · rw [if_neg (mt i.ok_iff.1 sound), if_neg sound]

theorem SettingsImage.load_eq (i : SettingsImage) : i.load = loaded i := by
  unfold SettingsImage.load loaded
  by_cases sound : i.check = Config.settingsCheck i.items
  · rw [if_pos (i.ok_iff.2 sound), if_pos sound]
  · rw [if_neg (mt i.ok_iff.1 sound), if_neg sound]

/-! ## Up to the recomputation -/

/-- The load touches the configuration, the store, the events and the cooling controller alone. -/
theorem State.reloadedFans_same (s : State) : s.reloadedFans = { s with
    cfg := loaded s.store.image
    store := { s.store with
      defaulted := decide (s.store.image.check ≠ Config.settingsCheck s.store.image.items), reloadAwaited := none }
    events := (s.raiseAll (loadEvents s.store.image 1)).events
    cooling := s.reloadedFans.cooling } := by
  have defaulted : (!s.store.image.ok) = decide (s.store.image.check ≠ Config.settingsCheck s.store.image.items) := by
    rw [Bool.eq_iff_iff, decide_eq_true_iff, Bool.not_eq_true', Bool.eq_false_iff, Ne, SettingsImage.ok_iff]
  have events : s.reload.events = (s.raiseAll (loadEvents s.store.image 1)).events := by
    rw [State.reload, defaultedEvents_eq]
    exact State.raiseAll_events_congr (s := s) (t := (s.putCfg s.store.image.load).putStore _) rfl rfl _
  rw [s.reloadedFans_eq]
  generalize s.reloadedFans.cooling = c
  have closed : s.reload = { s with
      cfg := s.store.image.load
      store := { s.store with defaulted := !s.store.image.ok, reloadAwaited := none }
      events := s.reload.events } := by
    rw [State.reload, State.raiseAll_eq]
    rfl
  rw [closed, events, defaulted, SettingsImage.load_eq]
  rfl

/-- `r` is `s` after the image has been loaded, the fans and the zone duties set by it, and one recomputation taken. -/
structure Loaded (s r : State) : Prop where
  same : r = { s with
    cfg := loaded s.store.image
    store := { s.store with
      defaulted := decide (s.store.image.check ≠ Config.settingsCheck s.store.image.items), reloadAwaited := none }
    events := r.events, cooling := r.cooling, budget := r.budget, arbiter := r.arbiter }
  queue : r.arbiter.queue = s.arbiter.queue
  events : r.events = (s.raiseAll (loadEvents s.store.image 1 ++
    budgetChange s.budget.overcommitted r.budget.figures.headroom)).events
  slots : r.budget.slots = s.budget.slots
  commitments : r.budget.commitments = s.budget.commitments
  views : ViewsAgree r
  priced : Priced r
  cooling : r.cooling = { s.cooling with fans := r.cooling.fans, zones := r.cooling.zones }
  duty : ∀ z, (r.zone z).duty =
    if s.cooling.fanCheck.isSome = true then (s.zone z).duty else max (s.zone z).duty (r.zoneTarget z)
  thermal : ∀ z, (r.zone z).thermal = (s.zone z).thermal
  fan : ∀ f, r.fan f = (s.fan f).acrossReload ((loaded s.store.image).fans.get f).absent s.cooling.fanCheck.isSome
    (r.zone (zoneOfFan f)).duty (loaded s.store.image).common.windowMs

/-- What settles changes the budget unit, the arbiter, the cooling controller and the events alone. -/
theorem Settles.same (h : Settles s t) : t = { s with
    budget := t.budget, arbiter := t.arbiter, cooling := t.cooling, events := t.events } := by
  obtain ⟨chans, bays, quarantine, lights, link, time, store, cfg, pending, resetLow, -⟩ := h
  cases s
  cases t
  dsimp only at *
  subst chans bays quarantine lights link time store cfg pending resetLow
  rfl

theorem State.reloadedCooling_eq (s : State) : s.reloadedCooling = s.reloadedFans.viewed.recompute := rfl

theorem State.reloadedCooling_loaded (s : State) : Loaded s s.reloadedCooling := by
  have same := s.reloadedFans_same
  have keeps := s.reloadedFans_keeps
  have duty := s.reloadedFans_duty
  have zone := s.reloadedFans_zone
  have fan := s.reloadedFans_fan
  rw [State.reloadedCooling_eq]
  generalize s.reloadedFans = q at *
  have views := q.viewed_agrees
  have target := q.viewed_zoneTarget
  have viewed : q.viewed = q.putBudget { q.budget with fanViews := q.viewed.budget.fanViews } := rfl
  generalize q.viewed = v at *
  have done := v.recompute_recomputed
  have priced := v.recompute_priced
  generalize v.recompute = r at *
  have cooling : r.cooling = q.cooling := done.cooling.trans (by rw [viewed]; rfl)
  have zones (z : Zone) : r.zone z = q.zone z := by rw [State.zone, cooling, State.zone]
  have targets (z : Zone) : r.zoneTarget z = q.zoneTarget z := (done.settles.zoneTarget z).trans (target z)
  have arbiter : v.arbiter = s.arbiter := by
    rw [viewed, same]
    rfl
  have budget : v.budget = { s.budget with fanViews := v.budget.fanViews } := by
    rw [viewed, same]
    rfl
  have cfg : r.cfg = loaded s.store.image := done.settles.cfg.trans (by rw [viewed, same]; rfl)
  have qcfg : q.cfg = loaded s.store.image := by rw [same]
  refine ⟨done.settles.same.trans (by rw [viewed, same]; rfl), done.settles.queue.trans (by rw [arbiter]), ?_,
    done.settles.slots.trans (by rw [budget]), done.settles.commitments.trans (by rw [budget]), fun f => ?_, priced, ?_,
    fun z => ?_, fun z => ?_, fun f => ?_⟩
  · have events : v.events = (s.raiseAll (loadEvents s.store.image 1)).events := by
      rw [viewed, same]
      rfl
    have time : v.time = (s.raiseAll (loadEvents s.store.image 1)).time := by
      rw [State.raiseAll_time, viewed, same]
      rfl
    rw [done.events, done.figures, List.nil_append, s.raiseAll_append, budget]
    exact State.raiseAll_events_congr events time _
  · rw [done.fanViews, State.fanView_frame f done.cooling done.settles.cfg]
    exact views f
  · rw [cooling]
    exact keeps
  · rw [zones, targets]
    exact duty z
  · rw [zones, zone]
  · rw [State.fan, cooling, zones]
    refine (fan f).trans ?_
    rw [SettingsImage.load_eq]

end Sys2Proof.Machine
end

section
/-! SUPPORT. The reload of a warm restart up to its bays: the thermal states judged (R139) and the profiles selected anew
(R40, R47). -/

namespace Sys2Proof.Machine

variable {s t u r j w : State}

/-! ## The thermal states -/

/-- `t` is `s` after the thermal states of these zones have been judged, with no target formed anew. -/
structure Judged (zones : Zone → Prop) (s t : State) : Prop where
  settles : Settles s t
  budget : t.budget = s.budget
  fans : ∀ f, t.fan f = s.fan f
  duty : ∀ z, (t.zone z).duty = (s.zone z).duty
  others : ∀ z, ¬ zones z → t.zone z = s.zone z
  judged : ∀ z, zones z → ZoneJudged z s t
  triggered : ∀ z, (s.zone z).thermal = .critical → (t.zone z).thermal ≠ .critical → Triggered (fun _ => False) t

theorem State.judgeZone_judged (s : State) (y : Zone) : Judged (fun z => z = y) s (s.judgeZone y) where
  settles := s.judgeZone_settles y
  budget := s.judgeZone_budget y
  fans := s.judgeZone_fan y
  duty z := s.judgeZone_duty y z
  others _ other := s.judgeZone_zone_other other
  judged z same := same ▸ s.judgeZone_judges z
  triggered z critical left := by
    by_cases same : z = y
    · subst same
      exact s.judgeZone_triggered z critical left
    · rw [s.judgeZone_zone_other same] at left
      exact absurd critical left

theorem Judged.trans {p q : Zone → Prop} (h : Judged p s t) (k : Judged q t u) : Judged (fun z => p z ∨ q z) s u where
  settles := h.settles.trans k.settles
  budget := k.budget.trans h.budget
  fans f := (k.fans f).trans (h.fans f)
  duty z := (k.duty z).trans (h.duty z)
  others z out := (k.others z fun hz => out (.inr hz)).trans (h.others z fun hz => out (.inl hz))
  judged z hz := by
    by_cases hq : q z
    · by_cases hp : p z
      · exact (h.judged z hp).trans (k.judged z hq) h.settles k.settles
      · exact (k.judged z hq).after_settles h.settles (by rw [h.others z hp])
    · exact (h.judged z (hz.resolve_right hq)).of_settles h.settles.time k.settles (by rw [k.others z hq])
  triggered z critical left := by
    by_cases still : (t.zone z).thermal = .critical
    · exact k.triggered z still left
    · exact k.settles.triggered (h.triggered z critical still) fun _ h => h

theorem Judged.mono {p q : Zone → Prop} (h : Judged p s t) (same : ∀ z, p z ↔ q z) : Judged q s t := by
  obtain rfl : p = q := funext fun z => propext (same z)
  exact h

theorem State.foldl_judgeZone_judged (zs : List Zone) (s : State) :
    Judged (fun z => z ∈ zs) s (zs.foldl State.judgeZone s) := by
  induction zs generalizing s with
  | nil => exact ⟨.refl s, rfl, fun _ => rfl, fun _ => rfl, fun _ _ => rfl, nofun, fun _ h k => absurd h k⟩
  | cons y zs ih => exact ((s.judgeZone_judged y).trans (ih _)).mono (by simp)

theorem State.judgeZones_judged (s : State) : Judged (fun _ => True) s (allZones.foldl State.judgeZone s) :=
  (State.foldl_judgeZone_judged allZones s).mono fun z => by simp [mem_allZones]

theorem Settles.cooling_keeps (h : Settles s t) : t.cooling =
    { s.cooling with fans := t.cooling.fans, zones := t.cooling.zones } := by
  obtain ⟨sensors, reports, evaluation, sensorRead, fanCheck⟩ := And.intro h.sensors (And.intro h.reports
    (And.intro h.evaluation (And.intro h.sensorRead h.fanCheck)))
  generalize t.cooling = x at *
  generalize s.cooling = y at *
  cases x
  cases y
  dsimp only at *
  subst sensors reports evaluation sensorRead fanCheck
  rfl

/-! ## The re-selection -/

/-- The states in which a bay selects its profile again (R40). -/
def reselects : List BayState := [.idleOff, .queued, .faulted]

/-- What a trigger left stands while no bay changes state. -/
theorem Triggered.of_states (h : Triggered (fun _ => True) s) (arbiter : t.arbiter = s.arbiter) (time : t.time = s.time)
    (cfg : t.cfg = s.cfg) (states : ∀ b, (t.bay b).state = (s.bay b).state) : Triggered (fun _ => True) t := by
  rcases h with ⟨blocked, marked⟩ | ⟨v, ⟨free, vt, vc, vq, rest⟩, -⟩
  · refine .inl ⟨?_, arbiter ▸ marked⟩
    unfold Blocked at *
    simpa only [arbiter, states] using blocked
  · refine .inr ⟨v, ⟨free, vt.trans time.symm, vc.trans cfg.symm, by rw [vq, arbiter], ?_⟩, fun c other => absurd trivial other⟩
    rw [arbiter]
    exact rest

/-- `w` is `s` after the reload up to its bays. -/
structure Refreshed (s w : State) : Prop where
  same : w = { s with
    cfg := loaded s.store.image
    store := { s.store with
      defaulted := decide (s.store.image.check ≠ Config.settingsCheck s.store.image.items), reloadAwaited := none }
    bays := w.bays, events := w.events, cooling := w.cooling, budget := w.budget, arbiter := w.arbiter }
  bays : ∀ b, w.bay b = { s.bay b with profileIndex := (w.bay b).profileIndex }
  selected : ∀ b, (s.bay b).state ∈ reselects → ∃ count index,
    Selects (loaded s.store.image) b (s.bay b).code count index ∧ (w.bay b).profileIndex = some index
  notSelected : ∀ b, (s.bay b).state ∉ reselects → (w.bay b).profileIndex = (s.bay b).profileIndex
  queue : w.arbiter.queue = s.arbiter.queue
  triggered : ∀ z, (s.zone z).thermal = .critical → (w.zone z).thermal ≠ .critical → Triggered (fun _ => True) w
  raised : Raises (loadEvents s.store.image 1 ++ budgetChange s.budget.overcommitted w.budget.figures.headroom) s w
  slots : w.budget.slots = s.budget.slots
  commitments : w.budget.commitments = s.budget.commitments
  views : ViewsAgree w
  priced : Priced w
  cooling : w.cooling = { s.cooling with fans := w.cooling.fans, zones := w.cooling.zones }
  duty : ∀ z, (w.zone z).duty =
    if s.cooling.fanCheck.isSome = true then (s.zone z).duty else max (s.zone z).duty (w.zoneTarget z)
  fan : ∀ f, w.fan f = (s.fan f).acrossReload ((loaded s.store.image).fans.get f).absent s.cooling.fanCheck.isSome
    (w.zone (zoneOfFan f)).duty (loaded s.store.image).common.windowMs
  judged : ∀ z, ZoneJudged z s w

theorem Loaded.refreshed (load : Loaded s r) (judge : Judged (fun _ => True) r j) : Refreshed s (j.reselect reselects) := by
  have frame := j.reselect_eq reselects
  have stands := fun b => j.bay_reselect_of_notMem (states := reselects) (b := b)
  obtain ⟨count, index, selects, raised⟩ := j.reselect_selects reselects
  generalize j.reselect reselects = w at *
  have jsame := judge.settles.same
  have rsame := load.same
  have jbay (b : Bay) : j.bay b = s.bay b := by rw [State.bay, jsame, rsame, State.bay]
  have jcfg : j.cfg = loaded s.store.image := by rw [jsame, rsame]
  have jtime : j.time = s.time := by rw [jsame, rsame]
  simp only [jbay, jcfg] at stands selects
  have record (b : Bay) : w.bay b = { s.bay b with profileIndex := (w.bay b).profileIndex } := by
    by_cases mem : (s.bay b).state ∈ reselects
    · rw [(selects b mem).2]
    · rw [stands b mem]
  have cooling : w.cooling = j.cooling := by rw [frame]
  have budget : w.budget = r.budget := (by rw [frame] : w.budget = j.budget).trans judge.budget
  have cfg : w.cfg = r.cfg := (by rw [frame] : w.cfg = j.cfg).trans judge.settles.cfg
  have zone (z : Zone) : w.zone z = j.zone z := by rw [State.zone, cooling, State.zone]
  have fan (f : Fan) : w.fan f = r.fan f := by rw [State.fan, cooling]; exact judge.fans f
  have duty (z : Zone) : (w.zone z).duty = (r.zone z).duty := by rw [zone]; exact judge.duty z
  have target (z : Zone) : w.zoneTarget z = r.zoneTarget z := by
    rw [← judge.settles.zoneTarget]
    refine State.zoneTarget_stands z (by rw [frame]) (fun c => by rw [frame]; rfl) (fun c _ => ?_) (fun c _ => by rw [frame]; rfl)
      (by rw [frame]; rfl) (by rw [frame]) (by rw [frame]; rfl)
    rw [record, jbay]
    exact BayRecord.sameHeat_of rfl rfl
  have view (f : Fan) : w.fanView f = r.fanView f :=
    State.fanView_congr f (by rw [fan]) (by rw [fan]) (by rw [cfg]) (by rw [cfg])
  have critical (z : Zone) (was : (s.zone z).thermal = .critical) (left : (w.zone z).thermal ≠ .critical) :
      Triggered (fun _ => True) w := by
    have triggered := judge.triggered z (by rw [load.thermal]; exact was) (by rw [← zone]; exact left)
    refine (triggered.mono fun _ k => k.elim).of_states (by rw [frame]) (by rw [frame]) (by rw [frame]) fun b => ?_
    rw [record, jbay]
  have first : Raises (loadEvents s.store.image 1 ++ budgetChange s.budget.overcommitted r.budget.figures.headroom) s r :=
    ⟨[], by rw [List.append_nil]; exact load.events⟩
  have rtime : r.time = s.time := by rw [rsame]
  have last : Raises [] j w := ⟨_, raised⟩
  refine ⟨?_, record, fun b mem => ⟨count b, index b, (selects b mem).1, ?_⟩, fun b out => by rw [stands b out], ?_, critical,
    ?_, ?_, ?_, fun f => ?_, load.priced.of_budget budget (by rw [cfg]), ?_, fun z => ?_, fun f => ?_, fun z => ?_⟩
  · rw [frame, jsame, rsame]
  · rw [(selects b mem).2]
  · rw [frame, judge.settles.queue, load.queue]
  · rw [budget]
    exact (first.trans rtime judge.settles.events).trans jtime last
  · rw [budget]
    exact load.slots
  · rw [budget]
    exact load.commitments
  · rw [budget, view]
    exact load.views f
  · rw [cooling, judge.settles.cooling_keeps, load.cooling]
  · rw [duty, target]
    exact load.duty z
  · rw [fan, duty]
    exact load.fan f
  · obtain ⟨thermal, ys, events, told⟩ := judge.judged z trivial
    have air : w.airInput z = j.airInput z := State.airInput_congr (by rw [cooling]) z
    have sources : w.thermalSources z = j.thermalSources z :=
      State.thermalSources_congr (by rw [frame]) (by rw [cooling]) (by rw [cooling]) z
    obtain ⟨xs, before⟩ := first
    generalize loadEvents s.store.image 1 ++ budgetChange s.budget.overcommitted r.budget.figures.headroom = es at before
    obtain ⟨zs, after⟩ := last
    refine ⟨by rw [zone, sources, ← load.thermal]; exact thermal, (es ++ xs ++ ys) ++ zs, ?_, fun changed => ?_⟩
    · rw [after, List.nil_append, s.raiseAll_append (es ++ xs ++ ys)]
      refine State.raiseAll_events_congr ?_ (jtime.trans (State.raiseAll_time ..).symm) zs
      rw [events, s.raiseAll_append (es ++ xs)]
      exact State.raiseAll_events_congr before (rtime.trans (State.raiseAll_time ..).symm) ys
    · rw [zone, ← load.thermal] at changed
      rw [zone, air]
      simp [told changed]

end Sys2Proof.Machine
end

section
/-! SUPPORT. Bays that go between IDLE_OFF, QUEUED and FAULTED while every zone is cooled to its target: what a restart's
requeue and quarantine check leave as it was (R40, R113). -/

namespace Sys2Proof.Machine

variable {b : Bay} {s t u w : State} {new : BayState}

/-- What of a bay record no move touches. -/
def BayRecord.kept (r : BayRecord) :
    Option Code × Nat × Option SpinOutcome × Option SpinOutcome × Bool × Option (Fin 8) :=
  (r.code, r.failCount, r.latest, r.previous, r.removalPrepared, r.profileIndex)

/-- The conditions that a requeue and a quarantine check may set. -/
def restartLamp (c : Fin 9) : Prop := c = condSpinWait ∨ c = condQuarantined

/-- `t` is `s` after bays without power have moved among their states, and been queued, unqueued or quarantined. -/
structure Calm (s t : State) : Prop where
  same : t = { s with
    bays := t.bays, quarantine := t.quarantine, budget := t.budget, arbiter := t.arbiter, lights := t.lights
    events := t.events }
  slots : t.budget.slots = s.budget.slots
  views : t.budget.fanViews = s.budget.fanViews
  priced : Priced s → Priced t
  commitments : CommitmentsAgree s → CommitmentsAgree t
  figures : CommitmentsAgree s → Priced s → t.budget.figures = s.budget.figures
  heat : ∀ c, (s.bay c).SameHeat (t.bay c)
  kept : ∀ c, (t.bay c).kept = (s.bay c).kept
  lamps : LampsKept restartLamp s t
  events : Raises [] s t
  listed : ∃ more, t.quarantine = s.quarantine ++ more
  triggered : t.arbiter.queue ≠ s.arbiter.queue ∨ Triggered (fun _ => True) s → Triggered (fun _ => True) t

theorem Calm.refl (s : State) : Calm s s :=
  ⟨rfl, rfl, rfl, id, id, fun _ _ => rfl, fun _ => ⟨rfl, rfl⟩, fun _ => rfl, .refl _ s, .refl s, ⟨[], (List.append_nil _).symm⟩,
    fun h => h.resolve_left fun k => k rfl⟩

theorem Calm.trans (h : Calm s t) (k : Calm t u) : Calm s u where
  same := by rw [k.same, h.same]
  slots := k.slots.trans h.slots
  views := k.views.trans h.views
  priced p := k.priced (h.priced p)
  commitments p := k.commitments (h.commitments p)
  figures agree p := (k.figures (h.commitments agree) (h.priced p)).trans (h.figures agree p)
  heat c := ⟨(k.heat c).1.trans (h.heat c).1, (k.heat c).2.trans (h.heat c).2⟩
  kept c := (k.kept c).trans (h.kept c)
  lamps := h.lamps.trans k.lamps
  events := h.events.trans (by rw [h.same]) k.events
  listed := by
    obtain ⟨xs, first⟩ := h.listed
    obtain ⟨ys, second⟩ := k.listed
    exact ⟨xs ++ ys, by rw [second, first, List.append_assoc]⟩
  triggered cause := by
    refine k.triggered ?_
    by_cases stands : u.arbiter.queue = t.arbiter.queue
    · exact .inr (h.triggered (stands ▸ cause))
    · exact .inl stands

theorem Calm.cooling (h : Calm s t) : t.cooling = s.cooling := by rw [h.same]

theorem Calm.cfg (h : Calm s t) : t.cfg = s.cfg := by rw [h.same]

theorem Calm.zoneTarget (h : Calm s t) (z : Zone) : t.zoneTarget z = s.zoneTarget z :=
  State.zoneTarget_stands z (by rw [h.cfg]) (fun c => by rw [State.zoneOf, State.baySettings, h.cfg]; rfl) (fun c _ => h.heat c)
    (fun c _ => by rw [State.freshTemp, h.cooling, State.freshTemp])
    (by simp only [State.airTerm, State.airInput, h.cooling, h.cfg]) (by rw [h.cooling])
    (by simp only [State.zoneFanFailed, h.cooling])

/-- Every zone's duty is held by the fan check or is at least its target. -/
def DutiesStand (s : State) : Prop := ∀ z, s.cooling.fanCheck.isSome = true ∨ s.zoneTarget z ≤ (s.zone z).duty

theorem Calm.dutiesStand (h : Calm s t) (stand : DutiesStand s) : DutiesStand t := fun z => by
  rw [h.zoneTarget, State.zone, h.cooling]
  exact stand z

theorem Calm.foldl {α : Type} {f : State → α → State} (calm : ∀ t a, DutiesStand t → Calm t (f t a)) (l : List α)
    (stand : DutiesStand s) : Calm s (l.foldl f s) := by
  induction l generalizing s with
  | nil => exact .refl s
  | cons a l ih =>
    have first := calm s a stand
    exact first.trans (ih (first.dutiesStand stand))

/-- What changes the arbiter alone, with a trigger for a change of its queue. -/
theorem Calm.of_arbiter (same : t = { s with arbiter := t.arbiter })
    (triggered : t.arbiter.queue ≠ s.arbiter.queue ∨ Triggered (fun _ => True) s → Triggered (fun _ => True) t) :
    Calm s t := by
  have budget : t.budget = s.budget := by rw [same]
  have bay (c : Bay) : t.bay c = s.bay c := by rw [same]; rfl
  refine ⟨by rw [same], by rw [budget], by rw [budget], fun p => p.of_budget budget (by rw [same]), fun p c => ?_,
    fun _ _ => by rw [budget], fun c => ?_, fun c => by rw [bay], .of_lights (by rw [same]), .of_events_eq (by rw [same]),
    ⟨[], by rw [same, List.append_nil]⟩, triggered⟩
  · rw [budget, bay]
    exact p c
  · rw [bay]
    exact ⟨rfl, rfl⟩

theorem State.removeEntryIf_calm (s : State) (v : Bool) (b : Bay) : Calm s (s.removeEntryIf v b) := by
  have removed := s.removeEntryIf_removed v b
  refine .of_arbiter removed.same fun cause => ?_
  rcases cause with changed | before
  · exact (removed.triggered changed).mono fun _ k => k.elim
  · exact before.removeEntryIf v b

theorem State.joinAt_calm (s : State) (b : Bay) (k : EntryKind) (time : EventTime) : Calm s (s.joinAt b k time) := by
  refine .of_arbiter rfl fun _ => ?_
  exact (State.trigger_triggered _).mono fun _ k => k.elim

theorem State.quarantineBay_calm (s : State) (b : Bay) : Calm s (s.quarantineBay b) := by
  have bay (c : Bay) : (s.quarantineBay b).bay c = s.bay c := s.bay_quarantineBay b c
  have budget : (s.quarantineBay b).budget = s.budget := s.quarantineBay_budget b
  refine ⟨rfl, rfl, rfl, fun p => p.of_budget budget rfl, fun p c => ?_, fun _ _ => rfl, fun c => ?_, fun c => by rw [bay], ?_,
    (s.quarantineBay_acts (b := b)).events, ⟨_, rfl⟩, fun cause => ?_⟩
  · rw [budget, bay]
    exact p c
  · rw [bay]
    exact ⟨rfl, rfl⟩
  · refine .of_acts (s.quarantineBay_acts b) fun c other => ?_
    show ((s.setCond b 7 true).bayLights b).conditions.get c = _
    rw [State.bayLights_setCond, if_pos rfl, Table.get_put, if_neg fun k => other (.inr k.symm)]
  · rcases cause with changed | before
    · exact absurd (by rw [State.quarantineBay_arbiter]) changed
    · exact before.quarantineBay b

end Sys2Proof.Machine
end

section
/-! SUPPORT. A move between IDLE_OFF, QUEUED and FAULTED, and the requeue and quarantine check of a restart (R40, R113). -/

namespace Sys2Proof.Machine

variable {b : Bay} {s t u w : State} {new : BayState}

/-! ## The move of a bay without power -/

/-- The states a requeue or a quarantine check moves a bay between. -/
def BayState.rests : BayState → Bool
  | .idleOff | .queued | .faulted => true
  | .empty | .seating | .ramping | .spinning | .active | .standby | .wakeQueued | .granted | .poweringDown
  | .extracting => false

theorem BayState.calm_of_rests {x : BayState} (h : x.rests = true) :
    x.closedSwitch = false ∧ x.drawsInrush = false ∧ x ≠ .ramping ∧ x ≠ .granted := by
  cases x <;> simp_all [BayState.rests, BayState.closedSwitch, BayState.drawsInrush]

theorem BayRecord.rests_commitment {r : BayRecord} (h : r.state.rests = true) : r.commitment = 0 := by
  cases state : r.state <;> simp_all [BayState.rests, BayRecord.commitment]

theorem BayRecord.enter_rests {r : BayRecord} (old : r.state.rests = true) (rests : new.rests = true) :
    r.SameHeat (r.enter new none) ∧ (r.enter new none).commitment = r.commitment ∧
      (r.enter new none).kept = r.kept := by
  obtain ⟨closed, drew, -⟩ := BayState.calm_of_rests rests
  obtain ⟨wasClosed, hadDrawn, -⟩ := BayState.calm_of_rests old
  refine ⟨⟨?_, ?_⟩, ?_, ?_⟩
  · simp [BayRecord.heat, BayRecord.enter, closed, drew, hadDrawn]
  · rw [wasClosed]
    exact closed
  · rw [BayRecord.rests_commitment old, BayRecord.rests_commitment (r := r.enter new none) rests]
  · rfl

theorem State.moving_bay (s : State) (b c : Bay) (new : BayState) (timer : Option Nat) (es : List Event) :
    (s.moving b new timer es).bay c = if b = c then (s.bay b).enter new timer else s.bay c := s.entered_bay b c new timer es

/-- The state of a silent move before its notices are acted on. -/
theorem State.moving_same (s : State) (b : Bay) (new : BayState) (timer : Option Nat) :
    s.moving b new timer [] = { s with
      bays := (s.moving b new timer []).bays, budget := (s.moving b new timer []).budget
      arbiter := (s.moving b new timer []).arbiter } := rfl

/-- A bay that moves without power leaves every zone as it is: its move is one recomputation and the light notice. -/
theorem State.move_rests (s : State) (b : Bay) (stand : DutiesStand s) (old : (s.bay b).state.rests = true)
    (rests : new.rests = true) : s.move b new none [] = (s.moving b new none []).recompute.lightNotice b := by
  obtain ⟨-, -, notRamping, notGranted⟩ := BayState.calm_of_rests rests
  obtain ⟨-, drew, -⟩ := BayState.calm_of_rests old
  have budgeted : s.budgeted b new none [] = (s.moving b new none []).recompute := by
    rw [State.budgeted_eq, drew, State.answerGrant_other _ _ notRamping notGranted, Bool.false_and, State.triggerIf,
      if_neg (by decide), State.moving, State.entered]
  have heat (c : Bay) : (s.bay c).SameHeat ((s.moving b new none []).bay c) := by
    rw [State.moving_bay]
    split
    · rename_i same
      exact same ▸ (BayRecord.enter_rests old rests).1
    · exact ⟨rfl, rfl⟩
  have target (z : Zone) : (s.moving b new none []).zoneTarget z = s.zoneTarget z :=
    State.zoneTarget_stands z rfl (fun _ => Iff.rfl) (fun c _ => heat c) (fun _ _ => rfl) rfl rfl rfl
  rw [State.move_cooled, budgeted]
  have settles := State.recompute_settles (s.moving b new none [])
  have cooling : (s.moving b new none []).recompute.cooling = s.cooling :=
    (State.recompute_cooling _).trans (by rw [State.moving_same])
  generalize (s.moving b new none []).recompute = u at *
  have still (z : Zone) : u.newDuty false z = (u.zone z).duty := by
    rw [State.newDuty_false, settles.zoneTarget, target, State.zone, cooling]
    rcases stand z with held | raised
    · rw [if_pos held]
    · split
      · rfl
      · exact max_eq_left raised
  rw [State.coolingNotice, State.retarget_eq, if_pos (still _)]

/-- The light notice touches the lights alone. -/
theorem State.lightNotice_same (s : State) (b : Bay) : s.lightNotice b = { s with lights := (s.lightNotice b).lights } := rfl

theorem State.move_calm (s : State) (b : Bay) (stand : DutiesStand s) (old : (s.bay b).state.rests = true)
    (rests : new.rests = true) : Calm s (s.move b new none []) := by
  obtain ⟨-, -, notRamping, notGranted⟩ := BayState.calm_of_rests rests
  obtain ⟨heat, commitment, kept⟩ := BayRecord.enter_rests old rests
  have triggered := fun h => State.move_keeps_triggered (p := fun _ => True) notRamping notGranted none [] s b h trivial
    (BayState.calm_of_rests old).2.2.1
  have queue := (s.move_queue b notRamping notGranted none []).1
  have facts := s.move_facts b new none []
  have rewritten := s.move_rests b stand old rests
  have committed (c : Bay) : (s.moving b new none []).budget.commitments.get c =
      if b = c then ((s.bay b).enter new none).commitment else s.budget.commitments.get c := by
    show ((s.entered b new none []).budget.noticed b _ new _).commitments.get c = _
    have own : (s.entered b new none []).bay b = (s.bay b).enter new none := (s.entered_bay b b new none []).trans (if_pos rfl)
    rw [Budget.noticed_commitments]
    exact if_congr Iff.rfl (congrArg BayRecord.commitment own) rfl
  have record := fun c => s.moving_bay b c new none []
  have frame := s.moving_same b new none
  have views : (s.moving b new none []).budget.fanViews = s.budget.fanViews := rfl
  have slots : (s.moving b new none []).budget.slots = s.budget.slots := rfl
  have state : (s.moving b new none []).budget.overcommitted = s.budget.overcommitted := rfl
  have done := (s.moving b new none []).recompute_recomputed
  have priced := (s.moving b new none []).recompute_priced
  rw [rewritten] at triggered queue facts ⊢
  have lit := State.lightNotice_budget (s.moving b new none []).recompute b
  generalize s.moving b new none [] = m at *
  generalize m.recompute = u at *
  have notice := u.lightNotice_same b
  generalize u.lightNotice b = t at *
  have bays : t.bays = m.bays := by rw [notice, done.settles.bays]
  have bay (c : Bay) : t.bay c = if b = c then (s.bay b).enter new none else s.bay c := by
    rw [State.bay, bays]
    exact record c
  have form (agree : CommitmentsAgree s) : m.formFigures = s.formFigures := by
    refine State.formFigures_congr (fun k => by rw [slots]) (by rw [frame]) views fun c => ?_
    rw [committed, commitment]
    split
    · rename_i same
      rw [← same, agree b]
    · rfl
  refine ⟨?_, ?_, ?_, fun _ => ?_, fun agree c => ?_, fun agree price => ?_, fun c => ?_, fun c => ?_, ?_, ?_, ?_, ?_⟩
  · have settled := done.settles.same
    rw [done.cooling] at settled
    rw [notice, settled, frame]
  · rw [lit, done.settles.slots, slots]
  · rw [lit, done.fanViews, views]
  · exact priced.of_budget lit (by rw [notice])
  · rw [lit, done.settles.commitments, committed, bay]
    split
    · rfl
    · exact agree c
  · rw [lit, done.figures, form agree, price.1]
  · rw [bay]
    split
    · rename_i same
      exact same ▸ heat
    · exact ⟨rfl, rfl⟩
  · rw [bay]
    split
    · rename_i same
      exact same ▸ kept
    · rfl
  · exact .of_acts facts.acts fun c other => facts.keeps.conditions c fun k => other (.inl k)
  · exact facts.raised
  · exact ⟨[], by rw [facts.keeps.quarantine, List.append_nil]⟩
  · exact fun cause => triggered (cause.resolve_left fun k => k queue)

/-! ## The quarantine check and the requeue -/

theorem State.checkBay_calm (s : State) (b : Bay) (stand : DutiesStand s) : Calm s (s.checkBay b) := by
  unfold State.checkBay
  split
  · rename_i picked
    have rests : (s.bay b).state.rests = true := by
      have checkable := picked.1
      cases state : (s.bay b).state <;> simp_all [BayState.checkable, BayState.rests]
    have removed := s.removeEntryIf_calm ((s.bay b).state == .queued) b
    have bay : (s.removeEntryIf ((s.bay b).state == .queued) b).bay b = s.bay b := by
      rw [State.bay, State.removeEntryIf_bays, State.bay]
    generalize s.removeEntryIf ((s.bay b).state == .queued) b = u at *
    have moved := u.move_calm b (removed.dutiesStand stand) (new := .idleOff) (by rw [bay]; exact rests) rfl
    exact (removed.trans moved).trans (State.quarantineBay_calm _ b)
  · exact .refl s

theorem State.quarantineCheck_calm (s : State) (stand : DutiesStand s) : Calm s s.quarantineCheck :=
  .foldl (fun t b => t.checkBay_calm b) allBays stand

theorem State.requeue_calm (s : State) (time : EventTime) (b : Bay) (stand : DutiesStand s) : Calm s (s.requeue time b) := by
  unfold State.requeue
  split
  · rename_i goes
    have moved := s.move_calm b stand (new := .queued) (by rw [goes.1]; rfl) rfl
    exact moved.trans (State.joinAt_calm _ b .powerOn time)
  · exact .refl s

theorem Rejoined.snoc {items : Settings} {time : EventTime} {l : List Bay} {q q' q'' : List QueueEntry}
    (h : Rejoined items time l q q') (joined : Joined ⟨b, .powerOn, (items.bays.get b).cls, time, 0⟩ q' q'') :
    Rejoined items time (l ++ [b]) q q'' := by
  induction l generalizing q with
  | nil => exact ⟨q'', h ▸ joined, rfl⟩
  | cons c l ih =>
    obtain ⟨mid, first, rest⟩ := h
    exact ⟨mid, first, ih rest⟩

/-- `t` is `s` after the bays of the list that go back have moved to QUEUED in the list's order. -/
structure BaysRequeued (goes : Bay → Bool) (time : EventTime) (l : List Bay) (s t : State) : Prop where
  back : ∀ c ∈ l, goes c = true → t.bay c = (s.bay c).openIn .queued none
  others : ∀ c, ¬ (c ∈ l ∧ goes c = true) → t.bay c = s.bay c
  quarantine : t.quarantine = s.quarantine
  cfg : t.cfg = s.cfg
  queue : l.Nodup → Rejoined s.cfg time (l.filter goes) s.arbiter.queue t.arbiter.queue

theorem State.requeues (s : State) (time : EventTime) {goes : Bay → Bool}
    (goes_iff : ∀ b, goes b = true ↔ (s.bay b).state = .idleOff ∧ (s.cfg.bays.get b).policy = .auto ∧
      (s.bay b).removalPrepared = false ∧ s.isQuarantined b = false) (l : List Bay) :
    BaysRequeued goes time l s (l.foldl (fun t b => t.requeue time b) s) := by
  induction l using List.reverseRecOn with
  | nil => exact ⟨nofun, fun _ _ => rfl, rfl, rfl, fun _ => rfl⟩
  | append_singleton l b ih =>
    rw [List.foldl_append]
    generalize l.foldl (fun t b => t.requeue time b) s = t at *
    obtain ⟨back, others, quarantine, cfg, queue⟩ := ih
    show BaysRequeued goes time (l ++ [b]) s (t.requeue time b)
    have may : (t.bay b = s.bay b) → ((t.bay b).state = .idleOff ∧ t.mayQueue b = true ↔ goes b = true) := fun record => by
      rw [goes_iff, State.mayQueue, State.baySettings, State.isQuarantined, record, quarantine, cfg, Bool.and_eq_true,
        Bool.and_eq_true, beq_iff_eq, Bool.not_eq_true', Bool.not_eq_true', and_assoc]
      rfl
    by_cases picked : goes b = true
    · by_cases again : b ∈ l
      · have stays : t.requeue time b = t := if_neg fun k => by
          rw [back b again picked] at k
          nomatch k.1
        have among (c : Bay) : c ∈ l ++ [b] ↔ c ∈ l := by
          by_cases same : c = b <;> simp [same, again]
        rw [stays]
        refine ⟨fun c mem => back c ((among c).1 mem), fun c out => others c fun k => out ⟨(among c).2 k.1, k.2⟩, quarantine,
          cfg, fun nodup => absurd again ?_⟩
        exact fun mem => (List.nodup_append.1 nodup).2.2 b mem b (by simp) rfl
      · have record : t.bay b = s.bay b := others b fun k => again k.1
        have moves : t.requeue time b = (t.move b .queued none []).joinAt b .powerOn time := if_pos ((may record).2 picked)
        have joined : Joined ⟨b, .powerOn, (s.cfg.bays.get b).cls, time, 0⟩ t.arbiter.queue
            ((t.move b .queued none []).joinAt b .powerOn time).arbiter.queue := by
          rw [State.joinAt_queue, (t.move_queue b (new := .queued) nofun nofun none []).1, State.baySettings, State.move_cfg,
            cfg]
          exact placeEntry_joined _ _
        have bay (c : Bay) : ((t.move b .queued none []).joinAt b .powerOn time).bay c =
            if b = c then (s.bay b).openIn .queued none else t.bay c := by
          rw [State.bay, State.joinAt_bays, ← BayRecord.enter_open (s.bay b) (new := .queued) rfl, ← record]
          exact t.bay_move b c .queued none []
        rw [moves]
        refine ⟨fun c mem here => ?_, fun c out => ?_, ?_, ?_, fun nodup => ?_⟩
        · rw [bay]
          by_cases same : b = c
          · rw [if_pos same, same]
          · rw [if_neg same]
            exact back c (by simpa [Ne.symm same] using mem) here
        · have other : b ≠ c := fun same => out (same ▸ ⟨by simp, picked⟩)
          rw [bay, if_neg other]
          exact others c fun k => out ⟨List.mem_append_left _ k.1, k.2⟩
        · rw [State.joinAt_quarantine, State.move_quarantine, quarantine]
        · rw [State.joinAt_cfg, State.move_cfg, cfg]
        · rw [List.filter_append, List.filter_cons_of_pos picked, List.filter_nil]
          exact (queue (List.nodup_append.1 nodup).1).snoc joined
    · have record : t.bay b = s.bay b := others b fun k => picked k.2
      have stays : t.requeue time b = t := if_neg fun k => picked ((may record).1 k)
      have among (c : Bay) : c ∈ l ++ [b] ∧ goes c = true ↔ c ∈ l ∧ goes c = true := by
        refine and_congr_left fun here => ?_
        have other : c ≠ b := fun eq => picked (eq ▸ here)
        simp [other]
      rw [stays]
      refine ⟨fun c mem here => back c ((among c).1 ⟨mem, here⟩).1 here, fun c out => others c fun k => out ((among c).2 k),
        quarantine, cfg, fun nodup => ?_⟩
      rw [List.filter_append, List.filter_cons_of_neg picked, List.filter_nil, List.append_nil]
      exact queue (List.nodup_append.1 nodup).1

end Sys2Proof.Machine
end

section
/-! SUPPORT. The reload of a warm restart and all that follows it (R40, R73, R99, R113, R145). -/

namespace Sys2Proof.Machine

variable {b : Bay} {s t w v : State} {awaited : AwaitedReload}

theorem State.finishRestart_eq (s : State) (awaited : AwaitedReload) : s.finishRestart awaited =
    (awaited.queued.foldl (fun t b => t.requeue awaited.time b)
      ((allZones.foldl State.judgeZone s.reloadedCooling).reselect reselects)).quarantineCheck := by
  unfold State.finishRestart State.reloadedCooling State.reloadedFans reselects
  with_reducible rfl

theorem Refreshed.dutiesStand (h : Refreshed s w) : DutiesStand w := fun z => by
  rw [h.cooling, h.duty]
  by_cases held : s.cooling.fanCheck.isSome = true
  · exact .inl held
  · rw [if_neg held]
    exact .inr (le_max_right _ _)

theorem Refreshed.commitmentsAgree (h : Refreshed s w) (agree : CommitmentsAgree s) : CommitmentsAgree w := fun b => by
  rw [h.commitments, agree b, h.bays]
  exact BayRecord.commitment_congr rfl rfl

/-- Whether a bay found QUEUED would be moved back (R40). -/
def Settings.goesBack (items : Settings) (s : State) (b : Bay) : Bool :=
  decide ((s.bay b).state = .idleOff ∧ (items.bays.get b).policy = .auto ∧ (s.bay b).removalPrepared = false ∧
    s.isQuarantined b = false)

theorem Settings.goesBack_iff (items : Settings) (l : List Bay) :
    GoesBack l items s b ↔ b ∈ l ∧ items.goesBack s b = true := by
  rw [Settings.goesBack, decide_eq_true_iff]
  rfl

/-- Whether the check after the reload takes a bay out (R113). -/
def Settings.checksOut (items : Settings) (v : State) (b : Bay) : Bool :=
  decide (((v.bay b).state = .queued ∨ (v.bay b).state = .faulted) ∧ items.admission.retryLimit < (v.bay b).failCount)

/-- The bays after the requeue, as they stood at the reload. -/
theorem Refreshed.requeued (h : Refreshed s w) (awaited : AwaitedReload) :
    BaysRequeued ((loaded s.store.image).goesBack s) awaited.time awaited.queued w
      (awaited.queued.foldl (fun t b => t.requeue awaited.time b) w) := by
  refine w.requeues awaited.time (fun b => ?_) awaited.queued
  have cfg : w.cfg = loaded s.store.image := by rw [h.same]
  have listed : w.isQuarantined b = s.isQuarantined b := by rw [State.isQuarantined, h.same]; rfl
  rw [Settings.goesBack, decide_eq_true_iff, h.bays, cfg, listed]

/-- A bay after the requeue. -/
theorem Refreshed.requeued_bay (h : Refreshed s w)
    (requeued : BaysRequeued ((loaded s.store.image).goesBack s) awaited.time awaited.queued w v) (b : Bay) :
    (GoesBack awaited.queued (loaded s.store.image) s b → v.bay b = (w.bay b).openIn .queued none) ∧
      (¬ GoesBack awaited.queued (loaded s.store.image) s b → v.bay b = w.bay b) ∧
      ((v.bay b).state = .queued ↔
        GoesBack awaited.queued (loaded s.store.image) s b ∨ (s.bay b).state = .queued) ∧
      ((v.bay b).state = .faulted ↔ (s.bay b).state = .faulted) ∧ (v.bay b).failCount = (s.bay b).failCount := by
  rw [Settings.goesBack_iff]
  by_cases goes : b ∈ awaited.queued ∧ (loaded s.store.image).goesBack s b = true
  · have idle : (s.bay b).state = .idleOff := ((Settings.goesBack_iff _ _).2 goes).2.1
    have record := requeued.back b goes.1 goes.2
    refine ⟨fun _ => record, fun k => absurd goes k, ?_, ?_, ?_⟩
    · rw [record]
      exact ⟨fun _ => .inl goes, fun _ => rfl⟩
    · rw [record, idle]
      exact ⟨nofun, nofun⟩
    · rw [record, h.bays]
      rfl
  · have record := requeued.others b goes
    refine ⟨fun k => absurd k goes, fun _ => record, ?_, ?_, ?_⟩
    · rw [record, h.bays]
      exact ⟨.inr, fun k => k.resolve_left goes⟩
    · rw [record, h.bays]
    · rw [record, h.bays]

theorem Refreshed.checksOut_iff (h : Refreshed s w)
    (requeued : BaysRequeued ((loaded s.store.image).goesBack s) awaited.time awaited.queued w v) (b : Bay) :
    (loaded s.store.image).checksOut v b = true ↔ CheckedOut awaited.queued (loaded s.store.image) s b := by
  obtain ⟨-, -, queued, faulted, count⟩ := h.requeued_bay requeued b
  rw [Settings.checksOut, decide_eq_true_iff, queued, faulted, count, or_assoc]
  rfl

end Sys2Proof.Machine
end

section
/-! SUPPORT. What a finished warm restart leaves of the bays, the queue, the zones and the budget (R40, R73, R99, R113). -/

namespace Sys2Proof.Machine

variable {b : Bay} {s t w v : State} {awaited : AwaitedReload}

/-- `t` is `s` after the reload, the requeue of the bays found QUEUED and the quarantine check, by way of `w` and `v`. -/
structure Finished (awaited : AwaitedReload) (s w v t : State) : Prop where
  refreshed : Refreshed s w
  requeued : BaysRequeued ((loaded s.store.image).goesBack s) awaited.time awaited.queued w v
  checked : BaysChecked ((loaded s.store.image).checksOut v) allBays v t
  calm : Calm w t

theorem State.finishRestart_finished (s : State) (awaited : AwaitedReload) :
    ∃ w v, Finished awaited s w v (s.finishRestart awaited) := by
  have refreshed := s.reloadedCooling_loaded.refreshed s.reloadedCooling.judgeZones_judged
  rw [State.finishRestart_eq]
  generalize (allZones.foldl State.judgeZone s.reloadedCooling).reselect reselects = w at *
  have requeued := refreshed.requeued awaited
  have requeueCalm : Calm w (awaited.queued.foldl (fun t b => t.requeue awaited.time b) w) :=
    .foldl (fun t b => t.requeue_calm awaited.time b) awaited.queued refreshed.dutiesStand
  generalize awaited.queued.foldl (fun t b => t.requeue awaited.time b) w = v at *
  have cfg : v.cfg = loaded s.store.image := requeued.cfg.trans (by rw [refreshed.same])
  have checked := v.checkBays_checked (picks := (loaded s.store.image).checksOut v)
    (fun b => by rw [Settings.checksOut, decide_eq_true_iff, cfg]) allBays allBays_nodup
  exact ⟨w, v, refreshed, requeued, checked.1,
    requeueCalm.trans (v.quarantineCheck_calm (requeueCalm.dutiesStand refreshed.dutiesStand))⟩

namespace Finished

variable (h : Finished awaited s w v t)

include h

theorem zone (z : Zone) : t.zone z = w.zone z := by rw [State.zone, h.calm.cooling, State.zone]

theorem time : t.time = w.time := by rw [h.calm.same]

theorem checksOut_iff (b : Bay) :
    (loaded s.store.image).checksOut v b = true ↔ CheckedOut awaited.queued (loaded s.store.image) s b :=
  h.refreshed.checksOut_iff h.requeued b

theorem bay_of_not_checked (notOut : ¬ CheckedOut awaited.queued (loaded s.store.image) s b) : t.bay b = v.bay b :=
  (h.checked.others b fun k => notOut ((h.checksOut_iff b).1 k.2)).1

theorem back (goes : GoesBack awaited.queued (loaded s.store.image) s b)
    (notOut : ¬ CheckedOut awaited.queued (loaded s.store.image) s b) : (t.bay b).state = .queued := by
  rw [h.bay_of_not_checked notOut, (h.refreshed.requeued_bay h.requeued b).1 goes]
  rfl

theorem profileIndex (b : Bay) : (t.bay b).profileIndex = (w.bay b).profileIndex :=
  congrArg (fun x => x.2.2.2.2.2) (h.calm.kept b)

theorem stays (notBack : ¬ GoesBack awaited.queued (loaded s.store.image) s b)
    (notOut : ¬ CheckedOut awaited.queued (loaded s.store.image) s b) :
    t.bay b = { s.bay b with profileIndex := (t.bay b).profileIndex } := by
  rw [h.bay_of_not_checked notOut, (h.refreshed.requeued_bay h.requeued b).2.1 notBack]
  exact h.refreshed.bays b

theorem kept (b : Bay) : (t.bay b).code = (s.bay b).code ∧ (t.bay b).failCount = (s.bay b).failCount ∧
    (t.bay b).latest = (s.bay b).latest ∧ (t.bay b).previous = (s.bay b).previous ∧
    (t.bay b).removalPrepared = (s.bay b).removalPrepared := by
  have same := h.calm.kept b
  rw [h.refreshed.bays] at same
  simp only [BayRecord.kept, Prod.mk.injEq] at same
  obtain ⟨code, count, latest, previous, removal, -⟩ := same
  exact ⟨code, count, latest, previous, removal⟩

/-! ### The quarantine table and the queue -/

theorem isQuarantined (b : Bay) : t.isQuarantined b = (s.isQuarantined b || (loaded s.store.image).checksOut v b) := by
  have before : v.quarantine = s.quarantine := by rw [h.requeued.quarantine, h.refreshed.same]
  have entered : ((allBays.filter ((loaded s.store.image).checksOut v)).map v.quarantineEntryOf).any (fun e => e.bay == b) =
      (loaded s.store.image).checksOut v b := by
    rw [Bool.eq_iff_iff, List.any_eq_true]
    constructor
    · rintro ⟨e, mem, same⟩
      obtain ⟨c, picked, rfl⟩ := List.mem_map.1 mem
      exact beq_iff_eq.1 same ▸ (List.mem_filter.1 picked).2
    · exact fun picked => ⟨v.quarantineEntryOf b, List.mem_map_of_mem (List.mem_filter.2 ⟨mem_allBays b, picked⟩),
        beq_self_eq_true b⟩
  rw [State.isQuarantined, h.checked.quarantine, List.any_append, entered, before, State.isQuarantined]

theorem out (out' : CheckedOut awaited.queued (loaded s.store.image) s b) :
    (t.bay b).state = .idleOff ∧ t.isQuarantined b = true := by
  have picked := (h.checksOut_iff b).2 out'
  refine ⟨?_, by rw [h.isQuarantined, picked, Bool.or_true]⟩
  rw [(h.checked.picked b (mem_allBays b) picked).1]
  rfl

theorem notListed (notOut : ¬ CheckedOut awaited.queued (loaded s.store.image) s b) :
    t.isQuarantined b = s.isQuarantined b := by
  rw [h.isQuarantined, Bool.eq_false_iff.2 (mt (h.checksOut_iff b).1 notOut), Bool.or_false]

theorem queue (ordered : awaited.queued.Pairwise (fun x y => x < y)) :
    ∃ (bays : List Bay) (q : List QueueEntry) (removed : Bay → Bool), bays.Pairwise (fun x y => x < y) ∧
      (∀ b, b ∈ bays ↔ GoesBack awaited.queued (loaded s.store.image) s b) ∧
      Rejoined (loaded s.store.image) awaited.time bays s.arbiter.queue q ∧
      (∀ b, removed b = true ↔ (GoesBack awaited.queued (loaded s.store.image) s b ∨ (s.bay b).state = .queued) ∧
        (loaded s.store.image).admission.retryLimit < (s.bay b).failCount) ∧
      t.arbiter.queue = q.filter (fun e => !removed e.bay) := by
  have rejoined := h.requeued.queue (ordered.imp fun less => ne_of_lt less)
  have cfg : w.cfg = loaded s.store.image := by rw [h.refreshed.same]
  rw [cfg, h.refreshed.queue] at rejoined
  refine ⟨_, _, fun b => (loaded s.store.image).checksOut v b && (v.bay b).state == .queued, ordered.filter _, fun b => ?_,
    rejoined, fun b => ?_, ?_⟩
  · rw [List.mem_filter, Settings.goesBack_iff]
  · obtain ⟨-, -, queued, faulted, count⟩ := h.refreshed.requeued_bay h.requeued b
    rw [Bool.and_eq_true, h.checksOut_iff, beq_iff_eq, queued]
    exact ⟨fun k => ⟨k.2, k.1.2⟩, fun k => ⟨⟨k.1.elim .inl fun q => .inr (.inl q), k.2⟩, k.1⟩⟩
  · rw [h.checked.queue]
    refine List.filter_congr fun e _ => ?_
    by_cases picked : (loaded s.store.image).checksOut v e.bay = true
    · by_cases queued : (v.bay e.bay).state = .queued <;> simp [mem_allBays, picked, queued]
    · simp [picked]

end Finished

end Sys2Proof.Machine
end

section
/-! SUPPORT. The whole reload of a warm restart. -/

namespace Sys2Proof.Machine

variable {s t w v : State} {awaited : AwaitedReload}

theorem Finished.raised (h : Finished awaited s w v t) :
    Raises (loadEvents s.store.image 1 ++ budgetChange s.budget.overcommitted w.budget.figures.headroom) s t :=
  h.refreshed.raised.trans (by rw [h.refreshed.same]) h.calm.events

theorem Finished.judged (h : Finished awaited s w v t) (z : Zone) : ZoneJudged z s t := by
  obtain ⟨thermal, xs, before, told⟩ := h.refreshed.judged z
  obtain ⟨ys, after⟩ := h.calm.events
  have time : w.time = s.time := by rw [h.refreshed.same]
  have cooling := h.calm.cooling
  have air : t.airInput z = w.airInput z := State.airInput_congr (by rw [cooling]) z
  have sources : t.thermalSources z = w.thermalSources z :=
    State.thermalSources_congr h.calm.cfg (by rw [cooling]) (by rw [cooling]) z
  refine ⟨by rw [h.zone, sources, thermal], xs ++ ys, ?_, fun changed => ?_⟩
  · rw [after, List.nil_append, s.raiseAll_append]
    exact State.raiseAll_events_congr before (time.trans (State.raiseAll_time ..).symm) ys
  · rw [h.zone] at changed ⊢
    rw [air]
    exact List.mem_append_left _ (told changed)

theorem Finished.triggered (h : Finished awaited s w v t) (cause : t.arbiter.queue ≠ s.arbiter.queue ∨
    (∃ z, (s.zone z).thermal = .critical ∧ (t.zone z).thermal ≠ .critical)) : Triggered (fun _ => True) t := by
  rcases cause with changed | ⟨z, critical, left⟩
  · exact h.calm.triggered (.inl (h.refreshed.queue ▸ changed))
  · rw [h.zone] at left
    exact h.calm.triggered (.inr (h.refreshed.triggered z critical left))

theorem Finished.recomputed (h : Finished awaited s w v t) (agree : CommitmentsAgree s) :
    Raises (loadEvents s.store.image 1 ++ budgetChange s.budget.overcommitted t.budget.figures.headroom) s t := by
  rw [h.calm.figures (h.refreshed.commitmentsAgree agree) h.refreshed.priced]
  exact h.raised

/-- A finished restart is the reload that the statements describe. -/
theorem Finished.reloaded (h : Finished awaited s w v t) : Reloaded awaited (loaded s.store.image) s t := by
  have same := h.calm.same
  have before := h.refreshed.same
  have cooling := h.calm.cooling
  have kept := h.refreshed.cooling
  have priced := h.calm.priced h.refreshed.priced
  have first := h.raised
  refine
    { cfg := by rw [same, before]
      store := by rw [same, before]
      raised := ?_
      back := fun b => h.back
      out := fun b => h.out
      stays := fun b => h.stays
      notListed := fun b => h.notListed
      listed := ?_
      kept := h.kept
      selected := fun b found => ?_
      notSelected := fun b idle queued faulted => ?_
      queue := h.queue
      triggered := h.triggered
      duties := fun z => ?_
      fans := fun f => ?_
      judged := h.judged
      fanViews := fun f => ?_
      figures := priced.1
      overcommitted := ?_
      recomputed := fun agree => h.recomputed agree
      sensors := by rw [cooling, kept]
      reports := by rw [cooling, kept]
      timers := by rw [cooling, kept]; exact ⟨rfl, rfl, rfl⟩
      conditions := fun b c waits listed => ?_
      lightsOwn := ?_
      slots := h.calm.slots.trans h.refreshed.slots
      chans := by rw [same, before]
      link := by rw [same, before]
      time := by rw [same, before]
      pending := by rw [same, before]
      resetLow := by rw [same, before] }
  · obtain ⟨more, events⟩ := first
    exact ⟨budgetChange _ _ ++ more, by rw [events, List.append_assoc]⟩
  · obtain ⟨more, listed⟩ := h.calm.listed
    exact ⟨more, by rw [listed, before]⟩
  · rw [h.profileIndex]
    exact h.refreshed.selected b (by rcases found with k | k | k <;> rw [k] <;> decide)
  · rw [h.profileIndex]
    exact h.refreshed.notSelected b (by simp [reselects, idle, queued, faulted])
  · rw [h.zone, h.calm.zoneTarget]
    exact h.refreshed.duty z
  · rw [State.fan, cooling, h.zone]
    exact h.refreshed.fan f
  · rw [h.calm.views, State.fanView_frame f cooling h.calm.cfg]
    exact h.refreshed.views f
  · rw [Bool.eq_iff_iff, decide_eq_true_iff]
    exact priced.2
  · rw [h.calm.lamps.conditions b c fun k => k.elim waits listed, State.bayLights, before, State.bayLights]
  · have own := h.calm.lamps.own
    rw [before] at own
    exact own

end Sys2Proof.Machine
end

section
/-! The statement about restarts and settings writes, settled. -/

namespace Sys2Proof.Machine

variable {s : State} {awaited : AwaitedReload}

theorem State.finishRestart_reloaded (s : State) (awaited : AwaitedReload) :
    Reloaded awaited (loaded s.store.image) s (s.finishRestart awaited) := by
  obtain ⟨w, v, finished⟩ := s.finishRestart_finished awaited
  exact finished.reloaded

theorem loaded_imageOf (items : Settings) : loaded (imageOf items) = items := if_pos rfl

/-- The state of a settings write completed, ahead of any reload. -/
def State.writtenAs (s : State) (items : Settings) : State :=
  s.putStore { s.store with image := imageOf items, writing := none }

theorem State.writeCompletes_of_none {items : Settings} (h : s.store.reloadAwaited = none) :
    s.writeCompletes items = s.writtenAs items := by
  unfold State.writeCompletes
  dsimp only
  split
  · rfl
  · rename_i k
    rw [h] at k
    nomatch k

theorem State.writeCompletes_of_some {items : Settings} (h : s.store.reloadAwaited = some awaited) :
    s.writeCompletes items = (s.writtenAs items).finishRestart awaited := by
  unfold State.writeCompletes
  dsimp only
  split
  · rename_i k
    rw [h] at k
    nomatch k
  · rename_i k
    rw [Option.some.inj (k.symm.trans h), State.writtenAs]

/-- Settles O5: what a restart does at once, and the reload it leaves to the settings write in progress. -/
theorem restartsAndWritesReload : Obligations.RestartsAndWritesReload := by
  intro frame written s queued w
  have store : s.listening.warmAtOnce.store = s.store := s.listening.warmAtOnce_store
  have restarts (sending : s.link.reply = .sending frame .restart) : exec .replySent s = .next s.listening.warmRestart := by
    show execReplySent s = _
    rw [execReplySent, sending]
    rfl
  refine ⟨fun sending => ⟨s.listening.warmAtOnce, s.listening.warmAtOnce_restarted, fun writing => ?_, fun idle => ?_⟩,
    fun writing => ⟨fun noWait => ?_, fun awaited waits => ⟨w.finishRestart awaited, ?_, ?_⟩⟩⟩
  · rw [restarts sending, State.warmRestart, if_pos (show s.listening.store.writing.isSome = true from writing), store]
    rfl
  · have idle' : ¬ s.listening.store.writing.isSome = true := by
      show ¬ s.store.writing.isSome = true
      rw [idle]
      nofun
    refine ⟨s.listening.warmAtOnce.finishRestart ⟨queued, s.time⟩, ?_, ?_⟩
    · rw [restarts sending, State.warmRestart, if_neg idle']
      rfl
    · rw [← store]
      exact State.finishRestart_reloaded _ _
  · show execSettingsWriteComplete s = _
    rw [execSettingsWriteComplete, writing]
    exact congrArg Host.Outcome.next (State.writeCompletes_of_none noWait)
  · show execSettingsWriteComplete s = _
    rw [execSettingsWriteComplete, writing]
    exact congrArg Host.Outcome.next (State.writeCompletes_of_some waits)
  · have reloaded := w.finishRestart_reloaded awaited
    rw [show w.store.image = imageOf written.items from rfl, loaded_imageOf] at reloaded
    exact reloaded

end Sys2Proof.Machine
end
